-- ==== Sys2Proof/Word.lean ====
section
/-! DEFINITION. The word types of the DZW316 and the fixed-size tables the model is built from. -/

namespace Sys2Proof

/-- A byte of the management link. -/
abbrev Byte := BitVec 8

/-- A 32-bit data word, address, frame number or counter (00_scope, Capacities). -/
abbrev Word := BitVec 32

/-- A region index, 0 to 15. -/
abbrev RegionIx := Fin 16

/-- An initiator tag, 0 to 15. -/
abbrev Tag := Fin 16

/-- A slot of the View Table, 0 to 31 (R45). -/
abbrev Slot := Fin 32

/-- The sixteen region indexes in ascending order. -/
def regionIxs : List RegionIx := [0, 1, 2, 3, 4, 5, 6, 7, 8, 9, 10, 11, 12, 13, 14, 15]

/-- The thirty-two view slots in ascending order. -/
def slotIxs : List Slot :=
  [0, 1, 2, 3, 4, 5, 6, 7, 8, 9, 10, 11, 12, 13, 14, 15,
   16, 17, 18, 19, 20, 21, 22, 23, 24, 25, 26, 27, 28, 29, 30, 31]

/-- A list with each element changed by `f`, which is given the element's position counted from `i`. -/
def mapFrom {α : Type} (f : Nat → α → α) : Nat → List α → List α
  | _, [] => []
  | i, a :: t => f i a :: mapFrom f (i + 1) t

theorem length_mapFrom {α : Type} (f : Nat → α → α) (i : Nat) (l : List α) :
    (mapFrom f i l).length = l.length := by
  induction l generalizing i with
  | nil => rfl
  | cons a t ih => simp [mapFrom, ih]

/-- A table with each entry changed by `f`, which is given the entry's index. -/
def vmap {α : Type} {n : Nat} (f : Nat → α → α) (v : Vector α n) : Vector α n :=
  ⟨⟨mapFrom f 0 v.toList⟩, by simp [length_mapFrom]⟩

end Sys2Proof
end

