-- ==== Sys2Proof/Config.lean ====
section
/-! DEFINITION. The numbers an implementation of the part fixes: capacities, identity and power-on
timing (00_scope, R104, R187). The spec leaves no value of an effect open, so no free value stands
here. -/

namespace Sys2Proof.Config

/-- Requests the host request queue holds (R139). -/
def hostQueueCapacity : Nat := 4

/-- Words the Park Queue holds (R88). -/
def parkCapacity : Nat := 8

/-- Notices the notice queue holds (R169). -/
def noticeCapacity : Nat := 64

/-- Notices one READ_NOTICES takes at most (R171). -/
def noticesPerRead : Nat := 4

/-- Entries of the Line State Table (R63). -/
def lineEntries : Nat := 2048

/-- Part code, revision and capacities: bytes 0 to 11 of IDENT's payload (R187). -/
def identHeader : List Byte :=
  [0x03#8, 0x16#8, 0x01#8, 16#8, 16#8, 0x08#8, 0x00#8, 32#8, 8#8, 64#8, 4#8, 48#8]

/-- TICK_DIV, HOLD_WAIT, MEMORY_WAIT and BACKGROUND_SHARE after power-on (R104). -/
def tickDiv : Nat := 100
def holdWait : Nat := 1000
def memoryWait : Nat := 100
def backgroundShare : Nat := 4

end Sys2Proof.Config
end

