-- ==== Sys2Proof/Syntax.lean ====
section
/-! DEFINITION. The commands the part takes: one constructor of `Instr` for each row of
spec/opcode_table.json, with the operands its rule gives it. -/

namespace Sys2Proof

/-- Direction of a transfer (R137, R153). -/
inductive Kind where
  | read
  | write
  deriving DecidableEq, Repr

/-- One beat of a write: the data word and the set of byte lanes written (R137). Bit i of `strobes`
is byte lane i, which is bits 8i+7 to 8i of the word (DESIGN CHOICE, log 12). -/
structure Beat where
  data : Word
  strobes : BitVec 4
  deriving DecidableEq, Repr

/-- A host bus request, every field of R137. `addr` is the word address of the first beat; a READ has
no `data`, a WRITE one beat of data for each of its `beats`. -/
structure HostRequest where
  kind : Kind
  addr : BitVec 30
  beats : Nat
  tag : Tag
  data : List Beat
  deriving DecidableEq, Repr

/-- Memory's answer to a transaction (R153): OKAY with one word for each beat of a READ and none for a
WRITE, or ERROR. -/
inductive MemAnswer where
  | okay (words : List Word)
  | error
  deriving DecidableEq, Repr

/-- The 36-byte region record as WRITE_REGION carries it (R197), field by field in the order of its
bytes. -/
structure RegionRecord where
  windowBase : BitVec 32
  lines : BitVec 16
  bankBBase : BitVec 32
  bankCBase : BitVec 32
  lineBase : BitVec 16
  writerTag : BitVec 8
  readerMask : BitVec 16
  commitOffset : BitVec 16
  closeOffset : BitVec 16
  stampOffset : BitVec 16
  triggers : BitVec 8
  periodTicks : BitVec 24
  viewIdle : BitVec 16
  viewAge : BitVec 24
  noticeMask : BitVec 16
  deriving DecidableEq, Repr

/-- The eight timing settings as SET_TIMING carries them (R188). -/
structure TimingRecord where
  tickDiv : BitVec 16
  holdWait : BitVec 16
  memoryWait : BitVec 16
  share : BitVec 8
  filters : BitVec 8
  deriving DecidableEq, Repr

/-- The commands. A link command stands for the end of its frame after the checks 1 to 4 of R185 have
passed; `seq` is its sequence byte (R181), and the other operands are its payload (R186). -/
inductive Instr where
  /-- RESET_N (R135). -/
  | powerOn
  /-- HRST_N asserted (R151). -/
  | hostPortReset
  /-- HRST_N released (R151). -/
  | hostPortResetRelease
  /-- A request is offered on the host bus (R139). -/
  | hostRequestAccepted (req : HostRequest)
  /-- The interconnect takes the head's response (R149). -/
  | hostResponseTaken
  /-- The publication of a region (R34). -/
  | publication (r : RegionIx)
  /-- The prescaler has reached TICK_DIV, and its tick is taken (R105). -/
  | tick
  /-- The View Table's expiries that are due (R54). -/
  | viewExpiry
  /-- The park wait timer stands at 0 (R94). -/
  | parkTimeout
  /-- A waiting head has room in the Park Queue (R93). -/
  | parkSpaceFound
  /-- The period timer of a region stands at 0 (R115). -/
  | periodTimerFire (r : RegionIx)
  /-- The edge that is due on a strobe line (R110, R113). -/
  | strobeEdge (line : Fin 4)
  /-- The arbiter's grant (R156). -/
  | grant
  /-- Memory answers the transaction in flight (R162). -/
  | memoryAnswer (answer : MemAnswer)
  /-- The MEMORY_WAIT timer stands at 0 (R160). -/
  | memoryTimeout
  /-- Memory's late answer to an expired transaction (R161). -/
  | lateAnswerDiscarded
  /-- The line at a line-state index has become current (R82). -/
  | lineCurrentRelease (line : Nat)
  /-- The idle engine takes the head of the catch-up queue (R72). -/
  | catchupTake
  /-- The idle drain slot takes an eligible entry (R97). -/
  | drainTake
  /-- A drain write held for a writer read is issued (R98). -/
  | drainWriteRelease
  /-- The fold-back of a retiring region is queued (R128). -/
  | foldBackQueued (r : RegionIx)
  /-- The retirement of a region ends (R130). -/
  | retirementEnd (r : RegionIx)
  /-- The waiting enable is applied (R123). -/
  | enableApplied
  /-- The waiting restart is applied (R133). -/
  | restartApplied
  /-- A FETCH frame of which `clocked` bytes are clocked after its code byte (R182). -/
  | fetch (clocked : Nat)
  /-- The frame that is to be discarded ends (R184). -/
  | commandDropped
  /-- A frame that carries no command of another row ends, as a command frame that fails the checks of R185;
  `frame` is its bytes. -/
  | commandFrameRejected (frame : List Byte)
  /-- IDENT (R187). -/
  | ident (seq : Byte)
  /-- SET_TIMING (R188). -/
  | setTiming (seq : Byte) (timing : TimingRecord)
  /-- WRITE_REGION (R189). -/
  | writeRegion (seq region : Byte) (record : RegionRecord)
  /-- READ_REGION with part byte 0 (R190). -/
  | readRegionConfig (seq region : Byte)
  /-- READ_REGION with part byte 1 (R190). -/
  | readRegionState (seq region : Byte)
  /-- ENABLE_REGION (R120, R191). -/
  | enableRegion (seq region : Byte)
  /-- RETIRE_REGION (R126). -/
  | retireRegion (seq region : Byte)
  /-- PUBLISH (R117). -/
  | publish (seq region : Byte)
  /-- DROP_VIEWS; 0xFF names all regions (R58, R193). -/
  | dropViews (seq which : Byte)
  /-- READ_VIEWS from a start slot (R62, R193). -/
  | readViews (seq start : Byte)
  /-- READ_NOTICES (R171). -/
  | readNotices (seq : Byte)
  /-- READ_COUNTERS with bit 0 of its option byte clear; `opts` is bits 7:1 of that byte (R195). -/
  | readCountersFirst (seq region : Byte) (opts : BitVec 7)
  /-- READ_COUNTERS with bit 0 of its option byte set; `opts` is bits 7:1 of that byte (R195). -/
  | readCountersRest (seq region : Byte) (opts : BitVec 7)
  /-- SET_IRQ (R194). -/
  | setIrq (seq value : Byte)
  /-- RESTART (R132, R196). -/
  | restart (seq : Byte)
  /-- One REFCLK period: the strobe pins at `pins` are sampled (R109, R110). -/
  | strobeSample (pins : Vector Bool 4)
  /-- The first byte of a command frame completes (R183). -/
  | commandFrameFirstByte
  deriving DecidableEq, Repr

end Sys2Proof
end

