-- ==== Sys2Proof/WellFormed.lean ====
section
/-! DEFINITION. Which commands the ports of the spec can carry under their names. A command that fails its
check is refused by its meaning under the name of the check, but for the bytes of a frame: an empty frame is
ignored (R179), and a first byte of 0xF0 makes a frame a FETCH frame (R181). -/

namespace Sys2Proof

/-- R137: 1 to 16 beats; a READ carries no data, a WRITE one word and strobe set for each beat. -/
def HostRequest.wf (q : HostRequest) : Bool :=
  1 ≤ q.beats && q.beats ≤ 16 &&
    match q.kind with
    | .read => q.data.isEmpty
    | .write => q.data.length == q.beats

/-- R153: an OKAY answer carries at most 16 words. -/
def MemAnswer.wf : MemAnswer → Bool
  | .okay words => words.length ≤ 16
  | .error => true

/-- The code byte of a FETCH frame (R181). -/
def fetchCode : Byte := 0xF0#8

/-- R179, R181: a command frame has a first byte, and that byte is not 0xF0. -/
def commandFrameWf : List Byte → Bool
  | [] => false
  | b :: _ => b != fetchCode

/-- The well-formed commands. -/
def Instr.wf : Instr → Bool
  | .hostRequestAccepted q => q.wf
  | .memoryAnswer a => a.wf
  | .lineCurrentRelease line => line < Config.lineEntries
  | .commandFrameRejected frame => commandFrameWf frame
  | _ => true

end Sys2Proof
end

