-- ==== Sys2Proof/Decode.lean ====
section
/-! DEFINITION. The command frames of the management link: the CRC, the reading of a frame with the
frame checks of R185, and the writing of a command as a frame. The opcode table gives its rows no
bits, so no word spells a command there. -/

namespace Sys2Proof

/-- The command that a word of the opcode table spells: none, since no row of the table has bits. -/
def decodeTableWord (_nbits _w : Nat) : Option Instr := none

/-- One step of the CRC for one bit: shift left, and combine with 0x07 if a 1 was shifted out (R180). -/
def crcBit (v : Byte) : Byte :=
  if v.msb then (v <<< 1) ^^^ 0x07#8 else v <<< 1

/-- The CRC value after one more byte (R180). -/
def crcByte (v b : Byte) : Byte :=
  crcBit (crcBit (crcBit (crcBit (crcBit (crcBit (crcBit (crcBit (v ^^^ b))))))))

/-- CRC-8 of a list of bytes in the order they travel (R180). -/
def crc8 (bytes : List Byte) : Byte :=
  bytes.foldl crcByte 0#8

/-- The two bytes of a field, most significant first (R179). -/
def bytes16 (w : BitVec 16) : List Byte := [w.extractLsb' 8 8, w.extractLsb' 0 8]

/-- The three bytes of a field, most significant first (R179). -/
def bytes24 (w : BitVec 24) : List Byte := [w.extractLsb' 16 8, w.extractLsb' 8 8, w.extractLsb' 0 8]

/-- The four bytes of a field, most significant first (R179). -/
def bytes32 (w : Word) : List Byte :=
  [w.extractLsb' 24 8, w.extractLsb' 16 8, w.extractLsb' 8 8, w.extractLsb' 0 8]

/-- Byte `i` of a payload. -/
def byteAt (l : List Byte) (i : Nat) : Byte := l.getD i 0#8

/-- The two-byte field at byte `i` of a payload (R179). -/
def field16 (l : List Byte) (i : Nat) : BitVec 16 := byteAt l i ++ byteAt l (i + 1)

/-- The three-byte field at byte `i` of a payload (R179). -/
def field24 (l : List Byte) (i : Nat) : BitVec 24 := byteAt l i ++ byteAt l (i + 1) ++ byteAt l (i + 2)

/-- The four-byte field at byte `i` of a payload (R179). -/
def field32 (l : List Byte) (i : Nat) : Word :=
  byteAt l i ++ byteAt l (i + 1) ++ byteAt l (i + 2) ++ byteAt l (i + 3)

/-- The bytes of a region record (R197). -/
def RegionRecord.toBytes (c : RegionRecord) : List Byte :=
  bytes32 c.windowBase ++ bytes16 c.lines ++ bytes32 c.bankBBase ++ bytes32 c.bankCBase ++
    bytes16 c.lineBase ++ [c.writerTag] ++ bytes16 c.readerMask ++ bytes16 c.commitOffset ++
    bytes16 c.closeOffset ++ bytes16 c.stampOffset ++ [c.triggers] ++ bytes24 c.periodTicks ++
    bytes16 c.viewIdle ++ bytes24 c.viewAge ++ bytes16 c.noticeMask

/-- The region record that begins at byte `i` of a payload (R197). -/
def RegionRecord.ofBytes (l : List Byte) (i : Nat) : RegionRecord where
  windowBase := field32 l i
  lines := field16 l (i + 4)
  bankBBase := field32 l (i + 6)
  bankCBase := field32 l (i + 10)
  lineBase := field16 l (i + 14)
  writerTag := byteAt l (i + 16)
  readerMask := field16 l (i + 17)
  commitOffset := field16 l (i + 19)
  closeOffset := field16 l (i + 21)
  stampOffset := field16 l (i + 23)
  triggers := byteAt l (i + 25)
  periodTicks := field24 l (i + 26)
  viewIdle := field16 l (i + 29)
  viewAge := field24 l (i + 31)
  noticeMask := field16 l (i + 34)

/-- The bytes of a timing record (R188). -/
def TimingRecord.toBytes (t : TimingRecord) : List Byte :=
  bytes16 t.tickDiv ++ bytes16 t.holdWait ++ bytes16 t.memoryWait ++ [t.share, t.filters]

/-- The timing record of a payload (R188). -/
def TimingRecord.ofBytes (l : List Byte) : TimingRecord where
  tickDiv := field16 l 0
  holdWait := field16 l 2
  memoryWait := field16 l 4
  share := byteAt l 6
  filters := byteAt l 7

/-- The thirteen commands of R186. -/
inductive CommandCode where
  | ident
  | setTiming
  | writeRegion
  | readRegion
  | enableRegion
  | retireRegion
  | publish
  | dropViews
  | readViews
  | readNotices
  | readCounters
  | setIrq
  | restart
  deriving DecidableEq, Repr

/-- The code byte of a command (R186). -/
def CommandCode.byte : CommandCode → Byte
  | .ident => 0x01#8
  | .setTiming => 0x02#8
  | .writeRegion => 0x03#8
  | .readRegion => 0x04#8
  | .enableRegion => 0x05#8
  | .retireRegion => 0x06#8
  | .publish => 0x07#8
  | .dropViews => 0x08#8
  | .readViews => 0x09#8
  | .readNotices => 0x0A#8
  | .readCounters => 0x0B#8
  | .setIrq => 0x0C#8
  | .restart => 0x0D#8

/-- The payload length of a command (R186). -/
def CommandCode.payloadLength : CommandCode → Nat
  | .ident => 0
  | .setTiming => 8
  | .writeRegion => 37
  | .readRegion => 2
  | .enableRegion => 1
  | .retireRegion => 1
  | .publish => 1
  | .dropViews => 1
  | .readViews => 1
  | .readNotices => 0
  | .readCounters => 2
  | .setIrq => 1
  | .restart => 0

/-- The command a code byte names (R186). -/
def CommandCode.ofByte (b : Byte) : Option CommandCode :=
  [CommandCode.ident, .setTiming, .writeRegion, .readRegion, .enableRegion, .retireRegion, .publish,
    .dropViews, .readViews, .readNotices, .readCounters, .setIrq, .restart].find? (·.byte == b)

/-- The reasons of a NAK (R185). -/
inductive NakReason where
  | badLength
  | badCheck
  | badCommand
  | badArgument
  | badState
  deriving DecidableEq, Repr

/-- The code of a NAK reason (R185). -/
def NakReason.code : NakReason → Byte
  | .badLength => 1#8
  | .badCheck => 2#8
  | .badCommand => 3#8
  | .badArgument => 4#8
  | .badState => 5#8

/-- What a NAK carries: its reason and its detail byte (R185). -/
structure Nak where
  reason : NakReason
  detail : Byte
  deriving DecidableEq, Repr

/-- "Bytes received, 255 if more": the detail of BAD_LENGTH (R185). -/
def lengthDetail (n : Nat) : Byte := BitVec.ofNat 8 (min n 255)

/-- The detail of BAD_ARGUMENT for an argument out of range (R185). -/
def outOfRange : Nak := ⟨.badArgument, 0xFF#8⟩

/-- The command of a code and its payload, for a payload of the command's length. A READ_REGION part
byte above 1 names no row of the table and is NAKed here (R190). -/
def decodePayload (c : CommandCode) (seq : Byte) (p : List Byte) : Except Nak Instr :=
  match c with
  | .ident => .ok (.ident seq)
  | .setTiming => .ok (.setTiming seq (TimingRecord.ofBytes p))
  | .writeRegion => .ok (.writeRegion seq (byteAt p 0) (RegionRecord.ofBytes p 1))
  | .readRegion =>
    if byteAt p 1 = 0#8 then .ok (.readRegionConfig seq (byteAt p 0))
    else if byteAt p 1 = 1#8 then .ok (.readRegionState seq (byteAt p 0))
    else .error outOfRange
  | .enableRegion => .ok (.enableRegion seq (byteAt p 0))
  | .retireRegion => .ok (.retireRegion seq (byteAt p 0))
  | .publish => .ok (.publish seq (byteAt p 0))
  | .dropViews => .ok (.dropViews seq (byteAt p 0))
  | .readViews => .ok (.readViews seq (byteAt p 0))
  | .readNotices => .ok (.readNotices seq)
  | .readCounters =>
    if (byteAt p 1).getLsbD 0 then .ok (.readCountersRest seq (byteAt p 0) ((byteAt p 1).extractLsb' 1 7))
    else .ok (.readCountersFirst seq (byteAt p 0) ((byteAt p 1).extractLsb' 1 7))
  | .setIrq => .ok (.setIrq seq (byteAt p 0))
  | .restart => .ok (.restart seq)

/-- A command frame read with the frame checks 1 to 4 of R185, in their order: the command it carries,
or the NAK of the first check that fails. -/
def decodeFrame (frame : List Byte) : Except Nak Instr :=
  match frame with
  | code :: seq :: len :: rest =>
    if len.toNat ≤ 48 ∧ frame.length = 4 + len.toNat then
      let payload := rest.dropLast
      let crc := crc8 (code :: seq :: len :: payload)
      if rest.getLast? = some crc then
        match CommandCode.ofByte code with
        | none => .error ⟨.badCommand, 0x00#8⟩
        | some c =>
          if payload.length = c.payloadLength then decodePayload c seq payload
          else .error ⟨.badLength, lengthDetail frame.length⟩
      else .error ⟨.badCheck, crc⟩
    else .error ⟨.badLength, lengthDetail frame.length⟩
  | _ => .error ⟨.badLength, lengthDetail frame.length⟩

/-- The sequence echo of the NAK of a frame: byte 1, or 0x00 if the frame has none (R185). -/
def frameEcho (frame : List Byte) : Byte := byteAt frame 1

/-- The code, sequence byte and payload of a link command; none for the other commands. -/
def Instr.linkParts : Instr → Option (CommandCode × Byte × List Byte)
  | .ident q => some (.ident, q, [])
  | .setTiming q t => some (.setTiming, q, t.toBytes)
  | .writeRegion q r c => some (.writeRegion, q, r :: c.toBytes)
  | .readRegionConfig q r => some (.readRegion, q, [r, 0x00#8])
  | .readRegionState q r => some (.readRegion, q, [r, 0x01#8])
  | .enableRegion q r => some (.enableRegion, q, [r])
  | .retireRegion q r => some (.retireRegion, q, [r])
  | .publish q r => some (.publish, q, [r])
  | .dropViews q w => some (.dropViews, q, [w])
  | .readViews q w => some (.readViews, q, [w])
  | .readNotices q => some (.readNotices, q, [])
  | .readCountersFirst q r o => some (.readCounters, q, [r, o ++ 0#1])
  | .readCountersRest q r o => some (.readCounters, q, [r, o ++ 1#1])
  | .setIrq q v => some (.setIrq, q, [v])
  | .restart q => some (.restart, q, [])
  | _ => none

/-- The frame of a code, a sequence byte and a payload (R181). -/
def frameOf (c : CommandCode) (seq : Byte) (payload : List Byte) : List Byte :=
  let body := c.byte :: seq :: BitVec.ofNat 8 payload.length :: payload
  body ++ [crc8 body]

/-- The frame that carries a link command (R181); none for the other commands. -/
def encodeFrame (i : Instr) : Option (List Byte) :=
  i.linkParts.map fun (c, seq, payload) => frameOf c seq payload

end Sys2Proof
end

