-- ==== Sys2Proof/Machine/State.lean ====
section
/-! DEFINITION. The state of the part: every register, table, queue, timer, mode and pin that spec/
names, block by block, and its value after power-on. -/

namespace Sys2Proof.Machine

/-- The stops that the bus protocol brings about. -/
inductive Fault where
  /-- Raised by MEMORY_ANSWER: memory answers OKAY with a number of words that is not one for each beat
  of a READ and none for a WRITE (R153). The spec gives the part no effect for it. Safe: the machine
  stops where hardware would go on (log 18). -/
  | answerLength
  deriving DecidableEq, Repr

/-- The refusals of operands that no bus of the spec can carry, and of commands without a meaning. -/
inductive Refusal where
  /-- Raised by an arm of exec that has no meaning yet. Safe. -/
  | notModelled (mnemonic : String)
  /-- Raised by HOST_REQUEST_ACCEPTED for operands that are no host bus request (R137). Safe: no such
  request can be offered (log 18). -/
  | malformedRequest
  /-- Raised by MEMORY_ANSWER for an answer of more than 16 words (R153). Safe (log 18). -/
  | malformedAnswer
  /-- Raised by LINE_CURRENT_RELEASE for an index that the Line State Table does not have (R63). Safe
  (log 18). -/
  | noSuchLine
  deriving DecidableEq, Repr

/-! ### Region entries (R1 to R3) -/

/-- The three banks of a region (R4). -/
inductive Bank where
  | bankA
  | bankB
  | bankC
  deriving DecidableEq, Repr

/-- One value for each of the banks A, B and C. -/
structure PerBank (α : Type) where
  a : α
  b : α
  c : α
  deriving DecidableEq, Repr

/-- The edges a region may select on a strobe line (R1). -/
inductive EdgeSelect where
  | rise
  | fall
  | both
  deriving DecidableEq, Repr

/-- The configuration fields of a region entry (R1). An absent offset is `none` (R2); `close` is the
stored number (R2); `lines` is 0 in a cleared entry alone (R3). -/
structure RegionConfig where
  windowBase : Word
  lines : Nat
  bankBBase : Word
  bankCBase : Word
  lineBase : Nat
  writerTag : Tag
  readerMask : BitVec 16
  commit : Option Nat
  close : Nat
  stamp : Option Nat
  trigWord : Bool
  trigPeriod : Bool
  trigStrobe : Option (Fin 4 × EdgeSelect)
  periodTicks : Nat
  viewIdle : Nat
  viewAge : Nat
  noticeMask : BitVec 16
  deriving DecidableEq, Repr

/-! ### The runtime record (R20) -/

/-- The runtime condition of a region (R26). `opened` is OPEN. -/
inductive Phase where
  | disabled
  | opened
  | pending
  | retiring
  | faulted
  deriving DecidableEq, Repr

/-- The use a bank is put to (R22); NONE while the region is DISABLED. -/
inductive Role where
  | none
  | live
  | draft
  | free
  | held
  deriving DecidableEq, Repr

/-- The runtime record of a region (R20). -/
structure Runtime where
  phase : Phase
  roles : PerBank Role
  frame : Word
  bankFrames : PerBank Word
  followOn : Bool
  heldNotice : Bool
  inFlight : Nat
  dirtyLines : Nat
  deriving DecidableEq, Repr

/-! ### The lifecycle record (R119), counters (R174) and period timer (R114) -/

/-- Why a region last became FAULTED (R119). -/
inductive FaultCause where
  | none
  | copy
  | drain
  deriving DecidableEq, Repr

/-- How far a retirement has come (R119). -/
inductive Stage where
  | none
  | winding
  | folding
  deriving DecidableEq, Repr

/-- The Region Lifecycle's record of a region (R119). -/
structure Lifecycle where
  cause : FaultCause
  faultLine : Nat
  stage : Stage
  foldsOutstanding : Nat
  linesFolded : Nat
  linesUnfolded : Nat
  deriving DecidableEq, Repr

/-- The thirteen counters of a region (R174) and its two sticky flags (R175). -/
structure Counters where
  refused : Word
  viewsOpened : Word
  expired : Word
  viewShortage : Word
  held : Word
  merged : Word
  empty : Word
  parkTimeout : Word
  copyRetry : Word
  triggersWord : Word
  triggersStrobe : Word
  triggersPeriod : Word
  triggersManual : Word
  refusedFlag : Bool
  shortageFlag : Bool
  deriving DecidableEq, Repr

/-- A region's period timer (R114). -/
structure PeriodTimer where
  running : Bool
  remaining : Nat
  deriving DecidableEq, Repr

/-- All state of one region. -/
structure Region where
  config : RegionConfig
  written : Bool
  run : Runtime
  life : Lifecycle
  counters : Counters
  timer : PeriodTimer
  deriving DecidableEq, Repr

/-! ### Views (R45) -/

/-- One view of the View Table (R45). -/
structure View where
  tag : Tag
  region : RegionIx
  bank : Bank
  frameAtOpen : Word
  idle : Nat
  age : Nat
  inUse : Bool
  dropDue : Bool
  deriving DecidableEq, Repr

/-! ### Line state and the Catch-up Engine (R63, R67, R71) -/

/-- One entry of the Line State Table (R63). -/
structure LineEntry where
  stale : PerBank Bool
  dirty : Bool
  queued : Bool
  busy : Bool
  deriving DecidableEq, Repr

/-- FILL copies from LIVE into DRAFT, FOLD from LIVE into bank A (R67). -/
inductive CopyKind where
  | fill
  | fold
  deriving DecidableEq, Repr

/-- An entry of the catch-up queue (R67). -/
structure CatchEntry where
  line : Nat
  kind : CopyKind
  deriving DecidableEq, Repr

/-- The line being copied, with the banks resolved when it was taken (R71, R72). -/
structure Copy where
  line : Nat
  kind : CopyKind
  region : RegionIx
  source : Bank
  dest : Bank
  deriving DecidableEq, Repr

/-- The Catch-up Engine (R71). `retried` is the retry count, 0 or 1; the line buffer is held in WRITING,
the only state that uses it. In IDLE the retry count is 0 and there is no current line. -/
inductive Engine where
  | idle
  | reading (copy : Copy) (retried : Bool)
  | writing (copy : Copy) (retried : Bool) (buffer : List Word)
  deriving DecidableEq, Repr

/-- The catch-up unit: Line State Table, catch-up queue (head first) and engine. -/
structure Catchup where
  lines : Vector LineEntry 2048
  queue : List CatchEntry
  engine : Engine
  deriving DecidableEq, Repr

/-! ### The Park Queue (R88, R97) -/

/-- An entry of the Park Queue (R88). -/
structure ParkEntry where
  region : RegionIx
  word : Nat
  frameTag : Word
  data : Word
  strobes : BitVec 4
  changed : Bool
  deriving DecidableEq, Repr

/-- What names an entry: no two entries have the same region, word and frame tag (R88). -/
structure ParkKey where
  region : RegionIx
  word : Nat
  frameTag : Word
  deriving DecidableEq, Repr

/-- The drain slot (R97). `retried` is its retry count, 0 or 1. In WRITING the entry may have been
discarded (R101). -/
inductive DrainSlot where
  | idle
  | waiting (key : ParkKey) (retried : Bool)
  | writing (key : ParkKey) (retried : Bool)
  deriving DecidableEq, Repr

/-- The Park Queue: entries in the order they were placed, and the drain slot. -/
structure ParkQueue where
  entries : List ParkEntry
  slot : DrainSlot
  deriving DecidableEq, Repr

/-! ### The Host Bus Port (R137 to R152) -/

/-- Why the Region Directory refuses a request (R9, R11). -/
inductive RefuseReason where
  | shadow
  | tag
  | stamp
  | phase
  deriving DecidableEq, Repr

/-- The class of a decided head (R8). -/
inductive HostClass where
  | pass
  | writerWrite
  | writerRead
  | viewRead
  | refused (reason : RefuseReason)
  deriving DecidableEq, Repr

/-- Status and reason of a host response (R138). -/
inductive HostStatus where
  | okay
  | burstSpan
  | refused (reason : RefuseReason)
  | parkTimeout
  | waitAborted
  | memoryError
  | memoryTimeout
  deriving DecidableEq, Repr

/-- A host response: status with reason, and the words of a READ answered OKAY (R138). -/
structure HostResponse where
  status : HostStatus
  data : List Word
  deriving DecidableEq, Repr

/-- The record a head's decision produced (R17, R19, R140): class, region and line-state index (none for a
PASS; no index for a request in a shadow area, log 30), the region's phase at classification (for a PASS it
reads DISABLED, log 31), serving bank and that bank's role (none for a PASS, for a refused request, and for a
writer write until its issue, log 31), physical address (the request's own where no bank serves it, log 31),
stamp beat and value, inclusion of the commit and close words, and the slot of the view that serves it. -/
structure Decision where
  cls : HostClass
  region : Option RegionIx
  line : Option Nat
  phase : Phase
  bank : Option Bank
  served : Role
  addr : Word
  stamp : Option (Nat × Word)
  commit : Bool
  close : Bool
  view : Option Slot
  deriving DecidableEq, Repr

/-- The progress state of the head (R140). In WAIT_PARK it holds the wait timer (R148) and k of the last
evaluation (R94); in RESPOND the response offered (R149). -/
inductive Progress where
  | decide
  | waitLine
  | waitPark (timer k : Nat)
  | waitMemory
  | respond (resp : HostResponse)
  deriving DecidableEq, Repr

/-- The head's progress and, once it is classified, its decision record (R139, R140). -/
structure Head where
  progress : Progress
  decision : Option Decision
  deriving DecidableEq, Repr

/-- The Host Bus Port. The first request of `queue` is the head; `head` is its state. `resetAsserted` is
the level of HRST_N (R151). -/
structure HostPort where
  queue : List HostRequest
  head : Option Head
  resetAsserted : Bool
  burstSpan : Word
  deriving DecidableEq, Repr

/-! ### The Memory Bus Port and arbiter (R153 to R165) -/

/-- An access as its requester made it (R153). -/
structure Access where
  kind : Kind
  addr : Word
  beats : Nat
  tag : Tag
  data : List Beat
  deriving DecidableEq, Repr

/-- What a HOST access is for (R162). -/
inductive HostPurpose where
  | pass
  | read
  | draftWrite (region : RegionIx)
  deriving DecidableEq, Repr

/-- The access of the HOST requester. -/
structure HostAccess where
  access : Access
  purpose : HostPurpose
  deriving DecidableEq, Repr

/-- The requester a transaction was granted for (R153). `orphan`: host-port reset has dropped its head
(R164). -/
inductive Owner where
  | host (purpose : HostPurpose) (orphan : Bool)
  | drain
  | catchup
  deriving DecidableEq, Repr

/-- The transaction in flight (R153). -/
structure Txn where
  owner : Owner
  access : Access
  deriving DecidableEq, Repr

/-- The state of the Memory Bus Port (R155), with the transaction and its MEMORY_WAIT timer (R159). -/
inductive Port where
  | idle
  | inFlight (txn : Txn) (timer : Nat)
  | expired
  deriving DecidableEq, Repr

/-- The Memory Bus Port and the arbiter: port state, the access each requester has requested and not yet
been granted (R154), share count (R158) and MEMORY_TIMEOUT counter (R155). -/
structure MemoryBus where
  port : Port
  hostReq : Option HostAccess
  drainReq : Option Access
  catchReq : Option Access
  share : Nat
  timeouts : Word
  deriving DecidableEq, Repr

/-! ### The time base and strobes (R104 to R112) -/

/-- A strobe filter setting, named by its duration at 100 MHz (R104). -/
inductive Filter where
  | f0
  | f40
  | f160
  | f640
  deriving DecidableEq, Repr

/-- The timing settings (R104). -/
structure Timing where
  tickDiv : Nat
  holdWait : Nat
  memoryWait : Nat
  share : Nat
  filters : Vector Filter 4
  deriving DecidableEq, Repr

/-- The timing settings, the prescaler count and the tick count (R104, R105). `tickDue`: the prescaler count
has reached TICK_DIV and returned to 0, and the tick that this brings is to be taken (log 5). -/
structure TimeBase where
  timing : Timing
  prescaler : Nat
  tickDue : Bool
  tickCount : Word
  deriving DecidableEq, Repr

/-- A strobe line (R109): the filtered level and the run count. `sampled`: a first sample has been taken,
before which the level means nothing (log 7). `due`: the run count has exceeded the filter count at the
last sample, and the edge is to be taken (log 6). -/
structure StrobeLine where
  level : Bool
  sampled : Bool
  run : Nat
  due : Bool
  deriving DecidableEq, Repr

/-- The strobe inputs: the four lines, and the synchroniser as the pin levels of the last REFCLK periods,
oldest first, two at most (R109, log 7). -/
structure Strobes where
  lines : Vector StrobeLine 4
  sync : List (Vector Bool 4)
  deriving DecidableEq, Repr

/-! ### The Notice Unit (R166 to R178) -/

/-- The twelve notice kinds (R167). -/
inductive NoticeKind where
  | published
  | held
  | empty
  | merged
  | viewExpired
  | viewShortage
  | refused
  | parkTimeout
  | copyRetry
  | parkDiscarded
  | faulted
  | retired
  deriving DecidableEq, Repr

/-- A notice record (R166). -/
structure Notice where
  kind : NoticeKind
  region : RegionIx
  frame : Word
  tag : Option Tag
  detail : BitVec 16
  stamp : Word
  deriving DecidableEq, Repr

/-- The counter snapshot (R176). -/
structure Snapshot where
  valid : Bool
  region : RegionIx
  counters : Counters
  deriving DecidableEq, Repr

/-- The Notice Unit: queue (oldest first), LOST, interrupt enable, IRQ_N asserted, counter snapshot. -/
structure NoticeUnit where
  queue : List Notice
  lost : Bool
  irqEnabled : Bool
  irqAsserted : Bool
  snapshot : Snapshot
  deriving DecidableEq, Repr

/-! ### The Management Link (R179 to R185) -/

/-- The state of the link (R183). -/
inductive LinkState where
  | idle
  | receiving
  | executing
  | ready
  deriving DecidableEq, Repr

/-- A response of the link (R182): `reason` 0x00 is an ACK. -/
structure LinkResponse where
  ack : Bool
  seq : Byte
  reason : Byte
  payload : List Byte
  deriving DecidableEq, Repr

/-- The command that keeps the link EXECUTING (R183). An ENABLE_REGION waits on a head's PASS access
(R122) or, after host-port reset has dropped that head, on its transaction in flight (R136). -/
inductive Waiting where
  | enable (region : RegionIx) (seq : Byte) (onOrphan : Bool)
  | restart (seq : Byte)
  deriving DecidableEq, Repr

/-- The pin MDO between two commands (R179): released while MCS_N is deasserted, and driven with 0x00 for
every byte while a command frame is under way (log 9). -/
inductive Mdo where
  | released
  | zeros
  deriving DecidableEq, Repr

/-- The Management Link: state, response slot, dropped count (R183), the mark of a frame to be discarded
(R184), the waiting command, MDO (R179), and the bytes driven on it after the code byte of the latest FETCH
frame (R182), a record of the model's own (log 9). -/
structure Link where
  state : LinkState
  slot : Option LinkResponse
  dropped : Nat
  discarding : Bool
  waiting : Option Waiting
  mdo : Mdo
  fetched : List Byte
  deriving DecidableEq, Repr

/-! ### The whole part -/

/-- The state of the part, and the queue of commands that wait, first in first out (log 1). -/
structure State where
  regions : Vector Region 16
  views : Vector (Option View) 32
  catchup : Catchup
  park : ParkQueue
  host : HostPort
  bus : MemoryBus
  clock : TimeBase
  strobes : Strobes
  notices : NoticeUnit
  link : Link
  pending : List Instr
  deriving DecidableEq, Repr

/-! ### Values after power-on -/

/-- A cleared entry (R3). -/
def RegionConfig.cleared : RegionConfig where
  windowBase := 0
  lines := 0
  bankBBase := 0
  bankCBase := 0
  lineBase := 0
  writerTag := 0
  readerMask := 0
  commit := Option.none
  close := 0
  stamp := Option.none
  trigWord := false
  trigPeriod := false
  trigStrobe := Option.none
  periodTicks := 0
  viewIdle := 0
  viewAge := 0
  noticeMask := 0

/-- The runtime record after power-on (R21). -/
def Runtime.powerOn : Runtime where
  phase := .disabled
  roles := ⟨.none, .none, .none⟩
  frame := 0
  bankFrames := ⟨0, 0, 0⟩
  followOn := false
  heldNotice := false
  inFlight := 0
  dirtyLines := 0

/-- The lifecycle record after power-on (R119). -/
def Lifecycle.powerOn : Lifecycle where
  cause := .none
  faultLine := 0
  stage := .none
  foldsOutstanding := 0
  linesFolded := 0
  linesUnfolded := 0

/-- All counters 0 and both flags clear (R174, R175). -/
def Counters.zero : Counters where
  refused := 0
  viewsOpened := 0
  expired := 0
  viewShortage := 0
  held := 0
  merged := 0
  empty := 0
  parkTimeout := 0
  copyRetry := 0
  triggersWord := 0
  triggersStrobe := 0
  triggersPeriod := 0
  triggersManual := 0
  refusedFlag := false
  shortageFlag := false

/-- A stopped period timer (R114). -/
def PeriodTimer.stopped : PeriodTimer := ⟨false, 0⟩

/-- A region after power-on (R3, R21, R119, R174, R114). -/
def Region.powerOn : Region where
  config := .cleared
  written := false
  run := .powerOn
  life := .powerOn
  counters := .zero
  timer := .stopped

/-- A clear line entry (R63). -/
def LineEntry.clear : LineEntry := ⟨⟨false, false, false⟩, false, false, false⟩

/-- The catch-up unit after power-on and RESTART (R64, R67, R71, R80). -/
def Catchup.empty : Catchup where
  lines := Vector.replicate 2048 LineEntry.clear
  queue := []
  engine := .idle

/-- The Park Queue after power-on and RESTART (R102). -/
def ParkQueue.empty : ParkQueue := ⟨[], .idle⟩

/-- A strobe line before its first sample (R109, log 7). -/
def StrobeLine.powerOn : StrobeLine := ⟨false, false, 0, false⟩

/-- An invalid snapshot (R178). -/
def Snapshot.invalid : Snapshot := ⟨false, 0, .zero⟩

/-- The machine right after power-on, with no command waiting (R135, R152, R165, R173, R183). HRST_N is
taken as deasserted (log 16). -/
def State.reset : State where
  regions := Vector.replicate 16 Region.powerOn
  views := Vector.replicate 32 Option.none
  catchup := .empty
  park := .empty
  host := ⟨[], Option.none, false, 0⟩
  bus := ⟨.idle, Option.none, Option.none, Option.none, 0, 0⟩
  clock :=
    ⟨⟨Config.tickDiv, Config.holdWait, Config.memoryWait, Config.backgroundShare,
      Vector.replicate 4 .f0⟩, 0, false, 0⟩
  strobes := ⟨Vector.replicate 4 StrobeLine.powerOn, []⟩
  notices := ⟨[], false, false, false, .invalid⟩
  link := ⟨.idle, Option.none, 0, false, Option.none, .released, []⟩
  pending := []

end Sys2Proof.Machine
end

