-- ==== Sys2Proof/Machine/Operands.lean ====
section
/-! DEFINITION. The operand forms: banks, roles, address areas, word offsets, tag standings, and the
codes of the records (R4 to R7, R121, R138, R197, R198). -/

namespace Sys2Proof.Machine

/-! ### Values per bank -/

/-- The value of one bank. -/
def PerBank.get {α : Type} (p : PerBank α) : Bank → α
  | .bankA => p.a
  | .bankB => p.b
  | .bankC => p.c

/-- The values with that of one bank replaced. -/
def PerBank.set {α : Type} (p : PerBank α) (x : α) : Bank → PerBank α
  | .bankA => { p with a := x }
  | .bankB => { p with b := x }
  | .bankC => { p with c := x }

/-- The lowest bank whose value passes a test. -/
def PerBank.find {α : Type} (p : PerBank α) (test : α → Bool) : Option Bank :=
  if test p.a then some .bankA else if test p.b then some .bankB
  else if test p.c then some .bankC else none

/-- The LIVE bank (R22). In a region with no LIVE bank, which only a DISABLED one is, bank A. -/
def Runtime.liveBank (t : Runtime) : Bank := (t.roles.find (· == .live)).getD .bankA

/-- The DRAFT bank (R22). In a region with no DRAFT bank, which only a DISABLED one is, bank B. -/
def Runtime.draftBank (t : Runtime) : Bank := (t.roles.find (· == .draft)).getD .bankB

/-- The third bank, FREE or HELD (R22). In a region with neither, which only a DISABLED one is, bank C. -/
def Runtime.thirdBank (t : Runtime) : Bank :=
  (t.roles.find fun x => x == .free || x == .held).getD .bankC

/-- The draft frame F + 1 (R24). -/
def Runtime.draftFrame (t : Runtime) : Word := t.frame + 1

/-- The frame after, F + 2 (R24). -/
def Runtime.frameAfter (t : Runtime) : Word := t.frame + 2

/-- A region is active while it is not DISABLED (R4). -/
def Phase.active (p : Phase) : Bool := p != .disabled

/-- The working phases, OPEN and PENDING (R26). -/
def Phase.working (p : Phase) : Bool := p == .opened || p == .pending

/-! ### Address areas (R4, R5) -/

/-- The first byte of a bank's area; the window is bank A's (R4). -/
def RegionConfig.bankBase (c : RegionConfig) : Bank → Word
  | .bankA => c.windowBase
  | .bankB => c.bankBBase
  | .bankC => c.bankCBase

/-- The size of each area in bytes: LINES times 64 (R4). -/
def RegionConfig.size (c : RegionConfig) : Nat := c.lines * 64

/-- A byte address lies in the area of a bank (R4). -/
def RegionConfig.inBank (c : RegionConfig) (b : Bank) (addr : Nat) : Bool :=
  (c.bankBase b).toNat ≤ addr && addr < (c.bankBase b).toNat + c.size

/-- A byte address lies in one of the region's three areas (R4). -/
def RegionConfig.inAreas (c : RegionConfig) (addr : Nat) : Bool :=
  c.inBank .bankA addr || c.inBank .bankB addr || c.inBank .bankC addr

/-- The line-state indexes of a region, in ascending line order (R63). -/
def RegionConfig.lineIxs (c : RegionConfig) : List Nat :=
  (List.range c.lines).map (c.lineBase + ·)

/-- A line-state index lies in a region's line range (R63). -/
def RegionConfig.ownsLine (c : RegionConfig) (ix : Nat) : Bool :=
  c.lineBase ≤ ix && ix < c.lineBase + c.lines

/-- Two areas of the given sizes share at least one byte, or two line ranges one index (R121). -/
def overlaps (base₁ size₁ base₂ size₂ : Nat) : Bool :=
  base₁ < base₂ + size₂ && base₂ < base₁ + size₁ && 0 < size₁ && 0 < size₂

/-- Two banks' areas share a byte (R121). -/
def bankOverlap (c d : RegionConfig) (b e : Bank) : Bool :=
  overlaps (c.bankBase b).toNat c.size (d.bankBase e).toNat d.size

/-- The three banks. -/
def banks : List Bank := [.bankA, .bankB, .bankC]

/-- Region `c` fails against region `d`: two of their areas share a byte, or their line ranges an index
(R121). -/
def configsOverlap (c d : RegionConfig) : Bool :=
  (banks.any fun b => banks.any fun e => bankOverlap c d b e) ||
    overlaps c.lineBase c.lines d.lineBase d.lines

/-! ### Requests against a region (R5, R6) -/

/-- The byte address of the first beat (R137). -/
def byteAddr (q : HostRequest) : Nat := 4 * q.addr.toNat

/-- The byte offset of the first beat in a region's window (R5). -/
def RegionConfig.offset (c : RegionConfig) (q : HostRequest) : Nat :=
  byteAddr q - c.windowBase.toNat

/-- The word offset of beat `b` of a window request (R5). -/
def RegionConfig.beatWord (c : RegionConfig) (q : HostRequest) (b : Nat) : Nat :=
  c.offset q / 4 + b

/-- The line-state index of a window request (R5). -/
def RegionConfig.lineOf (c : RegionConfig) (q : HostRequest) : Nat :=
  c.lineBase + c.offset q / 64

/-- The physical address of a window request's first beat in a bank (R5). -/
def RegionConfig.physical (c : RegionConfig) (b : Bank) (q : HostRequest) : Word :=
  c.bankBase b + BitVec.ofNat 32 (c.offset q)

/-- The physical address of a word of the window in a bank (R5, R98). -/
def RegionConfig.wordAddr (c : RegionConfig) (b : Bank) (word : Nat) : Word :=
  c.bankBase b + BitVec.ofNat 32 (4 * word)

/-- The physical address of a line in a bank (R5, R71). -/
def RegionConfig.lineAddr (c : RegionConfig) (b : Bank) (ix : Nat) : Word :=
  c.bankBase b + BitVec.ofNat 32 (64 * (ix - c.lineBase))

/-- A window request includes a word offset: one of its beats is at that word (R6). -/
def RegionConfig.includes (c : RegionConfig) (q : HostRequest) (word : Nat) : Bool :=
  c.offset q / 4 ≤ word && word < c.offset q / 4 + q.beats

/-- A window request includes a word that may be absent (R6). -/
def RegionConfig.includesOpt (c : RegionConfig) (q : HostRequest) : Option Nat → Bool
  | none => false
  | some word => c.includes q word

/-- The beats cross a 64-byte boundary (R142). -/
def spansLines (q : HostRequest) : Bool :=
  64 < byteAddr q % 64 + 4 * q.beats

/-! ### Standings (R7) -/

/-- The tag is a reader of the region (R7). -/
def RegionConfig.isReader (c : RegionConfig) (t : Tag) : Bool := c.readerMask.getLsbD t.val

/-- The tag is the writer of the region (R7). -/
def RegionConfig.isWriter (c : RegionConfig) (t : Tag) : Bool := t == c.writerTag

/-! ### Codes (R138, R197, R198) -/

/-- The 4-bit status code of a host response (R138). -/
def HostStatus.code : HostStatus → BitVec 4
  | .okay => 0
  | .burstSpan => 1
  | .refused .shadow => 2
  | .refused .tag => 3
  | .refused .stamp => 4
  | .refused .phase => 5
  | .parkTimeout => 6
  | .waitAborted => 7
  | .memoryError => 8
  | .memoryTimeout => 9

/-- The phase code of the state record (R197). -/
def Phase.code : Phase → Byte
  | .disabled => 0
  | .opened => 1
  | .pending => 2
  | .retiring => 3
  | .faulted => 4

/-- The role code of the state record (R197). -/
def Role.code : Role → Byte
  | .none => 0
  | .live => 1
  | .draft => 2
  | .free => 3
  | .held => 4

/-- The fault cause code of the state record (R197). -/
def FaultCause.code : FaultCause → Byte
  | .none => 0
  | .copy => 1
  | .drain => 2

/-- The stage code of the state record (R197). -/
def Stage.code : Stage → Byte
  | .none => 0
  | .winding => 1
  | .folding => 2

/-- The bank code of the notice and view records (R198, R199). -/
def Bank.code : Bank → Byte
  | .bankA => 0
  | .bankB => 1
  | .bankC => 2

/-- The code of a notice kind (R198). -/
def NoticeKind.code : NoticeKind → Nat
  | .published => 1
  | .held => 2
  | .empty => 3
  | .merged => 4
  | .viewExpired => 5
  | .viewShortage => 6
  | .refused => 7
  | .parkTimeout => 8
  | .copyRetry => 9
  | .parkDiscarded => 10
  | .faulted => 11
  | .retired => 12

/-- The detail of a REFUSED notice (R198). -/
def RefuseReason.code : RefuseReason → BitVec 16
  | .shadow => 1
  | .tag => 2
  | .stamp => 3
  | .phase => 4

/-- The filter count of a setting, in REFCLK periods (R104). -/
def Filter.count : Filter → Nat
  | .f0 => 0
  | .f40 => 4
  | .f160 => 16
  | .f640 => 64

/-- The setting of a two-bit filter field (R188). -/
def Filter.ofBits (b : BitVec 2) : Filter :=
  if b = 0 then .f0 else if b = 1 then .f40 else if b = 2 then .f160 else .f640

/-- The two-bit field of a filter setting (R188). -/
def Filter.bits : Filter → BitVec 2
  | .f0 => 0
  | .f40 => 1
  | .f160 => 2
  | .f640 => 3

/-- The sources of a trigger (R107), with FOLLOW_ON (R38). -/
inductive Source where
  | word
  | strobe
  | period
  | manual
  | followOn
  deriving DecidableEq, Repr

/-- The source code of an EMPTY or MERGED notice (R198). -/
def Source.code : Source → BitVec 16
  | .word => 0
  | .strobe => 1
  | .period => 2
  | .manual => 3
  | .followOn => 4

end Sys2Proof.Machine
end

