-- ==== Sys2Proof/Machine/Records.lean ====
section
/-! DEFINITION. The records of the management link: region, timing, state, notice and view records and the
IDENT and counter payloads, and the checks of SET_TIMING and WRITE_REGION (R187 to R190, R194, R195, R197 to
R199). -/

namespace Sys2Proof.Machine

/-- A flag as a byte: 0 or 1. -/
def flagByte (b : Bool) : Byte := if b then 0x01#8 else 0x00#8

/-- A tag of a record byte (R197). -/
def tagOf (b : Byte) : Tag := Fin.ofNat 16 b.toNat

/-! ### The region record (R197) -/

/-- Bit 15 of an offset field: present, or default (R197). -/
def offsetMark (w : BitVec 16) : Bool := w.getLsbD 15

/-- Bits 11:0 of an offset field (R197). -/
def offsetWord (w : BitVec 16) : Nat := (w.extractLsb' 0 12).toNat

/-- Bits 14:12 of an offset field, which are unassigned, are 0 (R189, R197). -/
def offsetSpare (w : BitVec 16) : Bool := w.extractLsb' 12 3 == 0

/-- The word of an offset that may be absent. -/
def offsetOption (w : BitVec 16) : Option Nat := if offsetMark w then some (offsetWord w) else none

/-- The field of an offset that may be absent. -/
def offsetField : Option Nat → BitVec 16
  | none => 0
  | some n => 1#1 ++ (0#3 ++ BitVec.ofNat 12 n)

/-- The edge code of TRIGGERS (R197). -/
def EdgeSelect.bits : EdgeSelect → BitVec 2
  | .rise => 1
  | .fall => 2
  | .both => 3

/-- The edge of an edge code; 0 is none (R197). -/
def EdgeSelect.ofBits (b : BitVec 2) : Option EdgeSelect :=
  if b = 1 then some .rise else if b = 2 then some .fall else if b = 3 then some .both else none

/-- The strobe selection of a TRIGGERS byte (R197). -/
def strobeOf (t : Byte) : Option (Fin 4 × EdgeSelect) :=
  if t.getLsbD 2 then
    (EdgeSelect.ofBits (t.extractLsb' 5 2)).map fun e => ((t.extractLsb' 3 2).toFin, e)
  else none

/-- The bits 6:3 of TRIGGERS: edge above line, 0 with STROBE clear (R197). -/
def strobeBits : Option (Fin 4 × EdgeSelect) → BitVec 4
  | none => 0
  | some (l, e) => e.bits ++ BitVec.ofNat 2 l.val

/-- The TRIGGERS byte of a configuration (R197). -/
def RegionConfig.triggersByte (c : RegionConfig) : Byte :=
  0#1 ++ (strobeBits c.trigStrobe ++
    (BitVec.ofBool c.trigStrobe.isSome ++ (BitVec.ofBool c.trigPeriod ++ BitVec.ofBool c.trigWord)))

/-- The record of a stored configuration, with CLOSE_OFFSET as a number (R2, R197). -/
def RegionConfig.toRecord (c : RegionConfig) : RegionRecord where
  windowBase := c.windowBase
  lines := BitVec.ofNat 16 c.lines
  bankBBase := c.bankBBase
  bankCBase := c.bankCBase
  lineBase := BitVec.ofNat 16 c.lineBase
  writerTag := BitVec.ofNat 8 c.writerTag.val
  readerMask := c.readerMask
  commitOffset := offsetField c.commit
  closeOffset := BitVec.ofNat 16 c.close
  stampOffset := offsetField c.stamp
  triggers := c.triggersByte
  periodTicks := BitVec.ofNat 24 c.periodTicks
  viewIdle := BitVec.ofNat 16 c.viewIdle
  viewAge := BitVec.ofNat 24 c.viewAge
  noticeMask := c.noticeMask

/-- The configuration a record stores; a default CLOSE_OFFSET is the last word of the window (R2, R189). -/
def RegionConfig.ofRecord (x : RegionRecord) : RegionConfig where
  windowBase := x.windowBase
  lines := x.lines.toNat
  bankBBase := x.bankBBase
  bankCBase := x.bankCBase
  lineBase := x.lineBase.toNat
  writerTag := tagOf x.writerTag
  readerMask := x.readerMask
  commit := offsetOption x.commitOffset
  close := if offsetMark x.closeOffset then x.lines.toNat * 16 - 1 else offsetWord x.closeOffset
  stamp := offsetOption x.stampOffset
  trigWord := x.triggers.getLsbD 0
  trigPeriod := x.triggers.getLsbD 1
  trigStrobe := strobeOf x.triggers
  periodTicks := x.periodTicks.toNat
  viewIdle := x.viewIdle.toNat
  viewAge := x.viewAge.toNat
  noticeMask := x.noticeMask

/-! ### The checks of WRITE_REGION (R189) -/

/-- A base is a multiple of 64 and its area ends at 2^32 at the latest (R189, checks 3 to 5). -/
def baseOk (x : RegionRecord) (base : Word) : Bool :=
  base.toNat % 64 == 0 && base.toNat + x.lines.toNat * 64 ≤ 2 ^ 32

/-- A word offset lies in the window (R189). -/
def wordOk (x : RegionRecord) (w : BitVec 16) : Bool := offsetWord w < x.lines.toNat * 16

/-- An offset that may be absent is absent, all bits 0 (R197, log 11), or is a word of the window with its
unassigned bits 0 (R189, checks 9 and 11). -/
def optionOk (x : RegionRecord) (w : BitVec 16) : Bool :=
  if offsetMark w then offsetSpare w && wordOk x w else w == 0

/-- CLOSE_OFFSET is default, or a word of the window; unassigned bits are 0 (R189, check 10). -/
def closeOk (x : RegionRecord) : Bool :=
  offsetSpare x.closeOffset && (offsetMark x.closeOffset || wordOk x x.closeOffset)

/-- STAMP_OFFSET is in order, and is not a present COMMIT_OFFSET (R189, check 11). -/
def stampOk (x : RegionRecord) : Bool :=
  optionOk x x.stampOffset &&
    !(offsetMark x.stampOffset && offsetMark x.commitOffset &&
      offsetWord x.stampOffset == offsetWord x.commitOffset)

/-- TRIGGERS is encoded as R197 allows, WORD needs COMMIT_OFFSET, STROBE an edge (R189, check 12). -/
def triggersOk (x : RegionRecord) : Bool :=
  !x.triggers.getLsbD 7 && (!x.triggers.getLsbD 0 || offsetMark x.commitOffset) &&
    (if x.triggers.getLsbD 2 then x.triggers.extractLsb' 5 2 != 0 else x.triggers.extractLsb' 3 4 == 0)

/-- A field of 20 bits in three bytes is at least 1, with its unassigned bits 0 (R189, checks 13, 15). -/
def ticks20Ok (w : BitVec 24) : Bool := 1 ≤ w.toNat && w.toNat < 2 ^ 20

/-- The areas of two banks of one record share no byte (R189, check 17). -/
def areasDisjoint (x : RegionRecord) (a b : Word) : Bool :=
  !overlaps a.toNat (x.lines.toNat * 64) b.toNat (x.lines.toNat * 64)

/-- The checks 2 to 17 of R189 with their details, in order. -/
def regionChecks (x : RegionRecord) : List (Byte × Bool) :=
  [ (2#8, 1 ≤ x.lines.toNat && x.lines.toNat ≤ 256),
    (3#8, baseOk x x.windowBase),
    (4#8, baseOk x x.bankBBase),
    (5#8, baseOk x x.bankCBase),
    (6#8, x.lineBase.toNat + x.lines.toNat ≤ 2048),
    (7#8, x.writerTag.toNat < 16),
    (8#8, !x.readerMask.getLsbD x.writerTag.toNat),
    (9#8, optionOk x x.commitOffset),
    (10#8, closeOk x),
    (11#8, stampOk x),
    (12#8, triggersOk x),
    (13#8, ticks20Ok x.periodTicks),
    (14#8, 1 ≤ x.viewIdle.toNat),
    (15#8, ticks20Ok x.viewAge),
    (16#8, x.noticeMask.extractLsb' 12 4 == 0),
    (17#8, areasDisjoint x x.windowBase x.bankBBase && areasDisjoint x x.windowBase x.bankCBase &&
      areasDisjoint x x.bankBBase x.bankCBase) ]

/-- The detail of the first check that fails, if one does (R189). -/
def firstFailing (checks : List (Byte × Bool)) : Option Byte :=
  (checks.find? fun c => !c.2).map (·.1)

/-- WRITE_REGION accepts a record (R189, checks 2 to 17). -/
def recordAccepted (x : RegionRecord) : Bool := (firstFailing (regionChecks x)).isNone

/-! ### Timing settings (R188) -/

/-- The checks of SET_TIMING with their details, in order (R188). -/
def timingChecks (x : TimingRecord) : List (Byte × Bool) :=
  [ (1#8, 1 ≤ x.tickDiv.toNat && x.tickDiv.toNat ≤ 4096),
    (2#8, 1 ≤ x.holdWait.toNat),
    (3#8, 1 ≤ x.memoryWait.toNat),
    (4#8, 1 ≤ x.share.toNat && x.share.toNat ≤ 15) ]

/-- The settings of a timing record (R188). -/
def Timing.ofRecord (x : TimingRecord) : Timing where
  tickDiv := x.tickDiv.toNat
  holdWait := x.holdWait.toNat
  memoryWait := x.memoryWait.toNat
  share := x.share.toNat
  filters := Vector.ofFn fun i : Fin 4 => Filter.ofBits (x.filters.extractLsb' (2 * i.val) 2)

/-- The timing record of the settings (R187, R188). -/
def Timing.toRecord (t : Timing) : TimingRecord where
  tickDiv := BitVec.ofNat 16 t.tickDiv
  holdWait := BitVec.ofNat 16 t.holdWait
  memoryWait := BitVec.ofNat 16 t.memoryWait
  share := BitVec.ofNat 8 t.share
  filters :=
    (t.filters.get 3).bits ++ ((t.filters.get 2).bits ++ ((t.filters.get 1).bits ++ (t.filters.get 0).bits))

/-! ### The state record (R197) -/

/-- What READ_REGION STATE computes rather than reads (R33, R65, R89). -/
structure Computed where
  fill : Bool
  held : Bool
  stale : Nat
  parked : Nat
  deriving DecidableEq, Repr

/-- The 37 bytes of the state record (R197). -/
def stateRecord (t : Runtime) (x : Lifecycle) (m : Computed) : List Byte :=
  [t.phase.code, BitVec.ofNat 8 (m.fill.toNat + 2 * m.held.toNat), t.roles.a.code, t.roles.b.code,
      t.roles.c.code, BitVec.ofNat 8 (t.followOn.toNat + 2 * t.heldNotice.toNat)] ++
    bytes32 t.frame ++ bytes32 t.bankFrames.a ++ bytes32 t.bankFrames.b ++ bytes32 t.bankFrames.c ++
    [BitVec.ofNat 8 t.inFlight] ++ bytes16 (BitVec.ofNat 16 t.dirtyLines) ++
    bytes16 (BitVec.ofNat 16 m.stale) ++
    [BitVec.ofNat 8 m.parked, x.cause.code, BitVec.ofNat 8 x.faultLine, x.stage.code] ++
    bytes16 (BitVec.ofNat 16 x.foldsOutstanding) ++ bytes16 (BitVec.ofNat 16 x.linesFolded) ++
    bytes16 (BitVec.ofNat 16 x.linesUnfolded)

/-! ### Notice, view and counter records (R195, R198, R199) -/

/-- The 11 bytes of a notice record (R198, log 26). -/
def Notice.record (n : Notice) : List Byte :=
  [BitVec.ofNat 8 (16 * n.kind.code + n.region.val),
      match n.tag with
      | some t => BitVec.ofNat 8 t.val
      | none => n.detail.extractLsb' 8 8,
      n.detail.extractLsb' 0 8] ++
    bytes32 n.frame ++ bytes32 n.stamp

/-- The 12 bytes of the view record of a slot (R199). -/
def viewRecord (k : Slot) : Option View → List Byte
  | none => BitVec.ofNat 8 k.val :: List.replicate 11 0x00#8
  | some v =>
    [BitVec.ofNat 8 (128 + 64 * v.inUse.toNat + k.val), BitVec.ofNat 8 (16 * v.tag.val + v.region.val),
        v.bank.code] ++
      bytes32 v.frameAtOpen ++ bytes16 (BitVec.ofNat 16 v.idle) ++ bytes24 (BitVec.ofNat 24 v.age)

/-- The 37 bytes of a READ_COUNTERS FIRST response (R195). -/
def Counters.firstPart (c : Counters) : List Byte :=
  [BitVec.ofNat 8 (c.refusedFlag.toNat + 2 * c.shortageFlag.toNat)] ++ bytes32 c.refused ++
    bytes32 c.viewsOpened ++ bytes32 c.expired ++ bytes32 c.viewShortage ++ bytes32 c.held ++
    bytes32 c.merged ++ bytes32 c.empty ++ bytes32 c.parkTimeout ++ bytes32 c.copyRetry

/-- The 16 bytes of a READ_COUNTERS REST response (R195). -/
def Counters.restPart (c : Counters) : List Byte :=
  bytes32 c.triggersWord ++ bytes32 c.triggersStrobe ++ bytes32 c.triggersPeriod ++
    bytes32 c.triggersManual

/-- The port state code of IDENT (R187). -/
def Port.code : Port → Byte
  | .idle => 0#8
  | .inFlight _ _ => 1#8
  | .expired => 2#8

end Sys2Proof.Machine
end

