-- ==== Sys2Proof/Machine/Ops.lean ====
section
/-! DEFINITION. The named reads and writes of the state: regions, lines, views, and the setters every
block's rules are written with. -/

namespace Sys2Proof.Machine

/-! ### Setters, one for each block -/

/-- All state of region `r`. -/
def State.region (s : State) (r : RegionIx) : Region := s.regions.get r

/-- Region `r` changed by `f`. -/
def State.modRegion (s : State) (r : RegionIx) (f : Region → Region) : State :=
  { s with regions := s.regions.set r.val (f (s.region r)) r.isLt }

/-- Every region changed by `f`. -/
def State.modRegions (s : State) (f : Region → Region) : State :=
  { s with regions := vmap (fun _ x => f x) s.regions }

/-- The catch-up unit replaced. -/
def State.setCatchup (s : State) (x : Catchup) : State := { s with catchup := x }

/-- The Park Queue replaced. -/
def State.setPark (s : State) (x : ParkQueue) : State := { s with park := x }

/-- The View Table replaced. -/
def State.setViews (s : State) (x : Vector (Option View) 32) : State := { s with views := x }

/-- The Host Bus Port replaced. -/
def State.setHost (s : State) (x : HostPort) : State := { s with host := x }

/-- The Memory Bus Port replaced. -/
def State.setBus (s : State) (x : MemoryBus) : State := { s with bus := x }

/-- The time base replaced. -/
def State.setClock (s : State) (x : TimeBase) : State := { s with clock := x }

/-- The strobe inputs replaced. -/
def State.setStrobes (s : State) (x : Strobes) : State := { s with strobes := x }

/-- The Notice Unit replaced. -/
def State.setNotices (s : State) (x : NoticeUnit) : State := { s with notices := x }

/-- The Management Link replaced. -/
def State.setLink (s : State) (x : Link) : State := { s with link := x }

/-! ### Parts of a region -/

/-- The runtime record of `r` changed by `f`. -/
def State.modRun (s : State) (r : RegionIx) (f : Runtime → Runtime) : State :=
  s.modRegion r fun g => { g with run := f g.run }

/-- The lifecycle record of `r` changed by `f`. -/
def State.modLife (s : State) (r : RegionIx) (f : Lifecycle → Lifecycle) : State :=
  s.modRegion r fun g => { g with life := f g.life }

/-- The counters and flags of `r` changed by `f`. -/
def State.modCounters (s : State) (r : RegionIx) (f : Counters → Counters) : State :=
  s.modRegion r fun g => { g with counters := f g.counters }

/-- The period timer of `r` replaced. -/
def State.setTimer (s : State) (r : RegionIx) (t : PeriodTimer) : State :=
  s.modRegion r fun g => { g with timer := t }

/-- The phase of `r` (R26). -/
def State.phase (s : State) (r : RegionIx) : Phase := (s.region r).run.phase

/-- The configuration of `r` (R1). -/
def State.config (s : State) (r : RegionIx) : RegionConfig := (s.region r).config

/-- The runtime record of `r` (R20). -/
def State.run (s : State) (r : RegionIx) : Runtime := (s.region r).run

/-! ### Lines (R63) -/

/-- The entry at a line-state index; a clear one outside the table. -/
def State.line (s : State) (ix : Nat) : LineEntry :=
  if h : ix < 2048 then s.catchup.lines[ix] else LineEntry.clear

/-- Every line entry changed by `f`, which is given its index. -/
def State.modLines (s : State) (f : Nat → LineEntry → LineEntry) : State :=
  s.setCatchup { s.catchup with lines := vmap f s.catchup.lines }

/-- The entry at one index changed by `f`. -/
def State.modLine (s : State) (ix : Nat) (f : LineEntry → LineEntry) : State :=
  s.modLines fun j e => if j = ix then f e else e

/-- The entries of a region's line range changed by `f`. -/
def State.modRange (s : State) (c : RegionConfig) (f : LineEntry → LineEntry) : State :=
  s.modLines fun j e => if c.ownsLine j then f e else e

/-- The line's copy in the DRAFT bank of `r` is stale (R63). -/
def State.draftStale (s : State) (r : RegionIx) (ix : Nat) : Bool :=
  (s.line ix).stale.get (s.run r).draftBank

/-- The number of a region's lines that are stale in a bank (R65). -/
def State.staleCount (s : State) (r : RegionIx) (b : Bank) : Nat :=
  (s.config r).lineIxs.countP fun ix => (s.line ix).stale.get b

/-- The stale-line count of a region (R65). -/
def State.staleLines (s : State) (r : RegionIx) : Nat :=
  match s.phase r with
  | .opened | .pending | .faulted => s.staleCount r (s.run r).draftBank
  | .retiring => s.staleCount r .bankA
  | .disabled => 0

/-- A line of the region is busy (R128). -/
def State.anyBusy (s : State) (r : RegionIx) : Bool :=
  (s.config r).lineIxs.any fun ix => (s.line ix).busy

/-- The active region whose line range holds an index (R63, R71). Line ranges of active regions are
disjoint (R121), so there is at most one. -/
def State.regionOfLine (s : State) (ix : Nat) : Option RegionIx :=
  regionIxs.find? fun r => (s.phase r).active && (s.config r).ownsLine ix

/-! ### Views (R45, R57) -/

/-- The view in a slot. -/
def State.view (s : State) (k : Slot) : Option View := s.views.get k

/-- One slot of the View Table replaced. -/
def State.setView (s : State) (k : Slot) (v : Option View) : State :=
  s.setViews (s.views.set k.val v k.isLt)

/-- The view is on the region. -/
def View.on (v : View) (r : RegionIx) : Bool := v.region == r

/-- Some view refers to the bank of the region (R57). -/
def State.viewed (s : State) (r : RegionIx) (b : Bank) : Bool :=
  slotIxs.any fun k => (s.view k).any fun v => v.on r && v.bank == b

/-- The number of views a region holds (R49). -/
def State.viewCount (s : State) (r : RegionIx) : Nat :=
  slotIxs.countP fun k => (s.view k).any (·.on r)

/-- The slot of a tag's view on a region (R47). -/
def State.viewOf (s : State) (r : RegionIx) (t : Tag) : Option Slot :=
  slotIxs.find? fun k => (s.view k).any fun v => v.on r && v.tag == t

/-- The lowest-numbered empty slot (R48). -/
def State.emptySlot (s : State) : Option Slot :=
  slotIxs.find? fun k => (s.view k).isNone

/-! ### Parked words (R88, R89) -/

/-- The name of an entry. -/
def ParkEntry.key (e : ParkEntry) : ParkKey := ⟨e.region, e.word, e.frameTag⟩

/-- The region's draft-frame entries (R89). -/
def State.draftEntries (s : State) (r : RegionIx) : Nat :=
  s.park.entries.countP fun e => e.region == r && e.frameTag == (s.run r).draftFrame

/-- The region's parked count (R89). -/
def State.parkedCount (s : State) (r : RegionIx) : Nat :=
  s.park.entries.countP fun e => e.region == r

/-- The entry of a key. -/
def State.parked (s : State) (k : ParkKey) : Option ParkEntry :=
  s.park.entries.find? fun e => e.key == k

/-! ### The head (R139, R140) -/

/-- The head request. -/
def State.headRequest (s : State) : Option HostRequest := s.host.queue.head?

/-- The head's progress. -/
def State.progress (s : State) : Option Progress := s.host.head.map (·.progress)

/-- The head's decision record. -/
def State.decision (s : State) : Option Decision := s.host.head.bind (·.decision)

/-- The head's state replaced. -/
def State.setHead (s : State) (h : Option Head) : State := s.setHost { s.host with head := h }

/-- The head is in WAIT_LINE: the engine's requests are urgent (R75, R140). -/
def State.headWaitsLine (s : State) : Bool := s.progress == some .waitLine

/-- The head is a writer write of the region that waits for a line or for park space (R85, R95). -/
def State.headWaitsOn (s : State) (r : RegionIx) : Bool :=
  match s.host.head with
  | some ⟨.waitLine, some d⟩ => d.region == some r
  | some ⟨.waitPark _ _, some d⟩ => d.region == some r
  | _ => false

/-- A RESTART has been taken and not yet applied (R132). -/
def State.restartWaits (s : State) : Bool :=
  match s.link.waiting with
  | some (.restart _) => true
  | _ => false

/-- A command that waits holds decisions back (R141). -/
def State.decisionsHeld (s : State) : Bool := s.link.waiting.isSome

end Sys2Proof.Machine
end

