-- ==== Sys2Proof/Machine/Flags.lean ====
section
/-! DEFINITION. Counters, sticky flags, notices and the interrupt line (R166 to R175). -/

namespace Sys2Proof.Machine

/-- A 32-bit counter incremented, staying at 2^32 − 1 (R174). -/
def satInc (c : Word) : Word := if c = BitVec.allOnes 32 then c else c + 1

/-! ### Notices -/

/-- IRQ_N is asserted while the interrupt is enabled and the queue holds a notice (R172). -/
def NoticeUnit.driveIrq (u : NoticeUnit) : NoticeUnit :=
  { u with irqAsserted := u.irqEnabled && !u.queue.isEmpty }

/-- A notice to be queued joins the tail, or is dropped with LOST set when 64 are held (R168, R170). -/
def NoticeUnit.enqueue (u : NoticeUnit) (n : Notice) : NoticeUnit :=
  if u.queue.length < Config.noticeCapacity then { u with queue := u.queue ++ [n] }.driveIrq
  else { u with lost := true }

/-- A kind is queued for a region: FAULTED and RETIRED always, another kind when it is in NOTICE_MASK
(R168). -/
def noticeTaken (c : RegionConfig) (k : NoticeKind) : Bool :=
  k == .faulted || k == .retired || c.noticeMask.getLsbD (k.code - 1)

/-- A notice is raised for a region, with the region's frame and the tick count of this moment (R166,
R168). -/
def State.raiseNotice (s : State) (r : RegionIx) (k : NoticeKind) (tag : Option Tag) (detail : BitVec 16) :
    State :=
  if noticeTaken (s.config r) k then
    s.setNotices (s.notices.enqueue ⟨k, r, (s.run r).frame, tag, detail, s.clock.tickCount⟩)
  else s

/-! ### Counting with a notice -/

/-- A refusal is charged to a region (R15): the counter, the sticky flag, and the notice when the flag was
clear. -/
def State.chargeRefusal (s : State) (r : RegionIx) (tag : Tag) (why : RefuseReason) : State :=
  let first := !(s.region r).counters.refusedFlag
  let s := s.modCounters r fun c => { c with refused := satInc c.refused, refusedFlag := true }
  if first then s.raiseNotice r .refused (some tag) why.code else s

/-- A read without a view is charged to a region (R49). -/
def State.chargeShortage (s : State) (r : RegionIx) (tag : Tag) : State :=
  let first := !(s.region r).counters.shortageFlag
  let s := s.modCounters r fun c => { c with viewShortage := satInc c.viewShortage, shortageFlag := true }
  if first then s.raiseNotice r .viewShortage (some tag) (BitVec.ofNat 16 (s.viewCount r)) else s

/-- An EMPTY trigger (R29). -/
def State.chargeEmpty (s : State) (r : RegionIx) (src : Source) : State :=
  (s.modCounters r fun c => { c with empty := satInc c.empty }).raiseNotice r .empty none src.code

/-- A MERGED trigger (R30). -/
def State.chargeMerged (s : State) (r : RegionIx) (src : Source) : State :=
  (s.modCounters r fun c => { c with merged := satInc c.merged }).raiseNotice r .merged none src.code

/-- The first wait on condition (d) alone of a pending publication (R33). The detail is the HELD bank. -/
def State.chargeHeld (s : State) (r : RegionIx) : State :=
  (s.modCounters r fun c => { c with held := satInc c.held }).raiseNotice r .held none
    ((s.run r).thirdBank.code.setWidth 16)

/-- A view expiry (R54): the reason is AGE when the age count reached 0, IDLE otherwise. -/
def State.chargeExpiry (s : State) (v : View) : State :=
  (s.modCounters v.region fun c => { c with expired := satInc c.expired }).raiseNotice v.region .viewExpired
    (some v.tag) (if v.age = 0 then 1 else 0)

/-- A park timeout is charged to a region (R94); `k` is the number of new entries the write needed. -/
def State.chargeParkTimeout (s : State) (r : RegionIx) (tag : Tag) (k : Nat) : State :=
  (s.modCounters r fun c => { c with parkTimeout := satInc c.parkTimeout }).raiseNotice r .parkTimeout
    (some tag) (BitVec.ofNat 16 k)

/-- Whether a copy failed by an ERROR answer or by a memory timeout (R76). -/
inductive FailCause where
  | error
  | timeout
  deriving DecidableEq, Repr

/-- The detail of a COPY_RETRY notice (R198): line in bits 7:0, FOLD in bit 8, TIMEOUT in bit 9. -/
def copyRetryDetail (line : Nat) (k : CopyKind) (cause : FailCause) : BitVec 16 :=
  BitVec.ofNat 16 (line % 256 + (if k = .fold then 256 else 0) + (if cause = .timeout then 512 else 0))

/-- The first failure of a copy (R76). -/
def State.chargeCopyRetry (s : State) (c : Copy) (cause : FailCause) : State :=
  (s.modCounters c.region fun x => { x with copyRetry := satInc x.copyRetry }).raiseNotice c.region
    .copyRetry none (copyRetryDetail (c.line - (s.config c.region).lineBase) c.kind cause)

/-- The detail of a FAULTED notice (R198): line in bits 7:0, DRAIN in bit 8. -/
def faultDetail (cause : FaultCause) (line : Nat) : BitVec 16 :=
  BitVec.ofNat 16 (line % 256 + if cause = .drain then 256 else 0)

/-- The detail of a RETIRED notice (R198): lines folded in bits 15:7, lines unfolded, 127 at most, in bits
6:0. -/
def retiredDetail (folded unfolded : Nat) : BitVec 16 :=
  BitVec.ofNat 16 (folded * 128 + min unfolded 127)

/-- The counter of a source is incremented; FOLLOW_ON has none (R107). -/
def Counters.countTrigger (c : Counters) : Source → Counters
  | .word => { c with triggersWord := satInc c.triggersWord }
  | .strobe => { c with triggersStrobe := satInc c.triggersStrobe }
  | .period => { c with triggersPeriod := satInc c.triggersPeriod }
  | .manual => { c with triggersManual := satInc c.triggersManual }
  | .followOn => c

end Sys2Proof.Machine
end

