-- ==== Sys2Proof/Machine/MemoryPort.lean ====
section
/-! DEFINITION. Requests to the memory bus and the arbiter's grant (R153 to R159), with the meanings of
GRANT and LATE_ANSWER_DISCARDED. -/

namespace Sys2Proof.Machine

/-- The HOST requester's access is made (R154). -/
def State.requestHost (s : State) (a : HostAccess) : State := s.setBus { s.bus with hostReq := some a }

/-- The DRAIN requester's access is made (R154). -/
def State.requestDrain (s : State) (a : Access) : State := s.setBus { s.bus with drainReq := some a }

/-- The CATCHUP requester's access is made (R154). -/
def State.requestCatchup (s : State) (a : Access) : State := s.setBus { s.bus with catchReq := some a }

/-- A transaction is in flight (R153). -/
def Port.busy : Port → Bool
  | .inFlight _ _ => true
  | _ => false

/-- The requesters of the memory bus (R153). -/
inductive Requester where
  | host
  | drain
  | catchup
  deriving DecidableEq, Repr

/-- The requester the grant order chooses (R157): urgent CATCHUP; a background requester when HOST waits
and the share count has reached BACKGROUND_SHARE; HOST; DRAIN; normal CATCHUP. -/
def chooseGrant (b : MemoryBus) (urgent : Bool) (limit : Nat) : Option Requester :=
  let background : Option Requester :=
    if b.drainReq.isSome then some .drain else if b.catchReq.isSome then some .catchup else none
  if b.catchReq.isSome && urgent then some .catchup
  else if b.hostReq.isSome && background.isSome && limit ≤ b.share then background
  else if b.hostReq.isSome then some .host
  else background

/-- The share count after a grant (R158). -/
def shareAfter (b : MemoryBus) (urgent : Bool) : Requester → Nat
  | .host => if b.drainReq.isSome || (b.catchReq.isSome && !urgent) then b.share + 1 else 0
  | .drain => 0
  | .catchup => if urgent then b.share else 0

/-- The transaction of a requester's access, if it has one (R153). -/
def MemoryBus.txnOf (b : MemoryBus) : Requester → Option Txn
  | .host => b.hostReq.map fun h => ⟨.host h.purpose false, h.access⟩
  | .drain => b.drainReq.map fun a => ⟨.drain, a⟩
  | .catchup => b.catchReq.map fun a => ⟨.catchup, a⟩

/-- A requester's access is no longer requested (R156). -/
def MemoryBus.withdraw (b : MemoryBus) : Requester → MemoryBus
  | .host => { b with hostReq := none }
  | .drain => { b with drainReq := none }
  | .catchup => { b with catchReq := none }

/-- A grant can be made: the port is IDLE, no RESTART waits, and an access is requested (R156). -/
def State.grantable (s : State) : Bool :=
  s.bus.port == .idle && !s.restartWaits &&
    (s.bus.hostReq.isSome || s.bus.drainReq.isSome || s.bus.catchReq.isSome)

/-- The grant made at the end of a happening, where one can be made (R156): the access chosen goes onto
the bus with a fresh MEMORY_WAIT timer, and the share count changes by R158. -/
def State.grantNext (s : State) : State :=
  if s.grantable then
    match chooseGrant s.bus s.headWaitsLine s.clock.timing.share with
    | none => s
    | some q =>
      match s.bus.txnOf q with
      | none => s
      | some t =>
        s.setBus { s.bus.withdraw q with
          port := .inFlight t s.clock.timing.memoryWait
          share := shareAfter s.bus s.headWaitsLine q }
  else s

/-- GRANT (R156): the arbiter's grant. Every happening that requests an access or frees the bus ends with
it (log 3). -/
def execGrant (s : State) : Host.Outcome State Fault Refusal := .next s.grantNext

/-- LATE_ANSWER_DISCARDED (R161): in EXPIRED the late answer is discarded, the port becomes IDLE and a
grant follows. -/
def execLateAnswerDiscarded (s : State) : Host.Outcome State Fault Refusal :=
  match s.bus.port with
  | .expired => .next (s.setBus { s.bus with port := .idle }).grantNext
  | _ => .next s

end Sys2Proof.Machine
end

