-- ==== Sys2Proof/Machine/CatchUp.lean ====
section
/-! DEFINITION. The catch-up queue and the Catch-up Engine up to its requests: take, append, promote,
remove (R67 to R72), with the meaning of CATCHUP_TAKE. -/

namespace Sys2Proof.Machine

/-- The catch-up queue replaced. -/
def State.setQueue (s : State) (q : List CatchEntry) : State :=
  s.setCatchup { s.catchup with queue := q }

/-- The engine replaced. -/
def State.setEngine (s : State) (e : Engine) : State := s.setCatchup { s.catchup with engine := e }

/-- The read of a copy's source line (R71): 16 beats, with the region's WRITER_TAG. -/
def State.copyRead (s : State) (c : Copy) : Access :=
  ⟨.read, (s.config c.region).lineAddr c.source c.line, 16, (s.config c.region).writerTag, []⟩

/-- The write of a copy's destination line (R71): the line buffer with all byte strobes set. -/
def State.copyWrite (s : State) (c : Copy) (buffer : List Word) : Access :=
  ⟨.write, (s.config c.region).lineAddr c.dest c.line, 16, (s.config c.region).writerTag,
    buffer.map fun w => ⟨w, 0xF#4⟩⟩

/-- The copy of an entry, its banks resolved from the region's roles (R72): from LIVE into DRAFT for a
FILL, from LIVE into bank A for a FOLD. -/
def State.resolveCopy (s : State) (e : CatchEntry) (r : RegionIx) : Copy :=
  ⟨e.line, e.kind, r, (s.run r).liveBank,
    match e.kind with
    | .fill => (s.run r).draftBank
    | .fold => .bankA⟩

/-- READING is entered for a copy, and the read of its source line is requested (R72, R76). -/
def State.startReading (s : State) (c : Copy) (retried : Bool) : State :=
  (s.setEngine (.reading c retried)).requestCatchup (s.copyRead c)

/-- An IDLE engine takes the head of the queue, if there is one (R72): the entry leaves the queue, the
line's queued mark is cleared and its busy mark set, and READING is entered with retry count 0. -/
def State.engineTake (s : State) : State :=
  match s.catchup.engine, s.catchup.queue with
  | .idle, e :: rest =>
    match s.regionOfLine e.line with
    | none => s
    | some r =>
      let c := s.resolveCopy e r
      ((s.setQueue rest).modLine e.line fun x => { x with queued := false, busy := true }).startReading c
        false
  | _, _ => s

/-- Entries of one kind are appended for lines, in the order given, and their queued marks set; an IDLE
engine then takes the head (R68, R72). -/
def State.appendLines (s : State) (k : CopyKind) (ixs : List Nat) : State :=
  ((s.setQueue (s.catchup.queue ++ ixs.map (⟨·, k⟩))).modLines fun j e =>
    if ixs.contains j then { e with queued := true } else e).engineTake

/-- The entry of a line moved to the head of a queue, if it is there (R69). -/
def promoteIn (q : List CatchEntry) (ix : Nat) : List CatchEntry :=
  match q.find? (·.line == ix) with
  | none => q
  | some e => e :: q.eraseP (·.line == ix)

/-- Promotion (R69): the line's entry moves to the head, and an IDLE engine takes it. -/
def State.promote (s : State) (ix : Nat) : State :=
  (s.setQueue (promoteIn s.catchup.queue ix)).engineTake

/-- Every FILL entry of a region leaves the queue; its lines keep their stale sets (R70). -/
def State.removeFills (s : State) (r : RegionIx) : State :=
  let c := s.config r
  let mine (e : CatchEntry) : Bool := e.kind == .fill && c.ownsLine e.line
  let gone := (s.catchup.queue.filter mine).map (·.line)
  (s.setQueue (s.catchup.queue.filter fun e => !mine e)).modLines fun j e =>
    if gone.contains j then { e with queued := false } else e

/-- The engine enters IDLE, with retry count 0 and no line, and takes the next head entry (R74 step 5,
R77, R78, R79). -/
def State.engineNext (s : State) : State := (s.setEngine .idle).engineTake

/-- CATCHUP_TAKE (R72): an IDLE engine takes the head of the catch-up queue and requests the source read. -/
def execCatchupTake (s : State) : Host.Outcome State Fault Refusal := .next s.engineTake.grantNext

end Sys2Proof.Machine
end

