-- ==== Sys2Proof/Machine/DraftWrite.lean ====
section
/-! DEFINITION. The draft write path's issue and the drain slot (R81, R83, R97, R98), with the meanings of
DRAIN_TAKE and DRAIN_WRITE_RELEASE. -/

namespace Sys2Proof.Machine

/-- A line's dirty mark is set and the region's dirty-line count incremented, where the mark was clear
(R28, R66). -/
def State.markDirty (s : State) (r : RegionIx) (ix : Nat) : State :=
  if (s.line ix).dirty then s
  else (s.modLine ix fun e => { e with dirty := true }).modRun r fun t =>
    { t with dirtyLines := t.dirtyLines + 1 }

/-- A draft write is counted at its issue (R83 steps 2 and 3): its line dirty, one more write in flight. -/
def State.countIssue (s : State) (r : RegionIx) (ix : Nat) : State :=
  (s.markDirty r ix).modRun r fun t => { t with inFlight := t.inFlight + 1 }

/-! ### The drain slot -/

/-- The drain slot replaced. -/
def State.setSlot (s : State) (d : DrainSlot) : State := s.setPark { s.park with slot := d }

/-- The entries of the Park Queue replaced. -/
def State.setEntries (s : State) (l : List ParkEntry) : State := s.setPark { s.park with entries := l }

/-- The entry of a key changed by `f`. -/
def State.modEntry (s : State) (k : ParkKey) (f : ParkEntry → ParkEntry) : State :=
  s.setEntries (s.park.entries.map fun e => if e.key == k then f e else e)

/-- An entry is eligible for drain (R88): its region is OPEN or PENDING and its tag is the draft frame. -/
def State.eligible (s : State) (e : ParkEntry) : Bool :=
  (s.phase e.region).working && e.frameTag == (s.run e.region).draftFrame

/-- The line-state index of a word of a region (R5). -/
def RegionConfig.lineOfWord (c : RegionConfig) (word : Nat) : Nat := c.lineBase + word / 16

/-- A drain write is held for a writer read (R98): the head is a WRITER-READ of its region in WAIT_MEMORY,
served from the bank that was LIVE at its classification (log 29), that includes its word. -/
def State.drainHeld (s : State) (k : ParkKey) : Bool :=
  match s.host.head, s.headRequest with
  | some ⟨.waitMemory, some d⟩, some q =>
    d.cls == .writerRead && d.region == some k.region && d.served == .live &&
      (s.config k.region).includes q k.word
  | _, _ => false

/-- The drain write of an entry (R98): one beat with the entry's data and strobe set, at its word in the
DRAFT bank, with the region's WRITER_TAG. -/
def State.drainAccess (s : State) (e : ParkEntry) : Access :=
  let c := s.config e.region
  ⟨.write, c.wordAddr (s.run e.region).draftBank e.word, 1, c.writerTag, [⟨e.data, e.strobes⟩]⟩

/-- The drain write of an entry is issued (R83, R98): the DRAIN access is made, the line marked dirty, the
write counted in flight, and the slot enters WRITING. The write carries all that was merged so far, so the
changed mark is clear (R99, R100). -/
def State.issueDrain (s : State) (k : ParkKey) (retried : Bool) : State :=
  match s.parked k with
  | none => s.setSlot .idle
  | some e =>
    (((s.requestDrain (s.drainAccess e)).countIssue k.region ((s.config k.region).lineOfWord k.word)).modEntry
      k fun x => { x with changed := false }).setSlot (.writing k retried)

/-- The drain write in WAITING can be issued: its line is current, no writer read holds it, and no RESTART
waits (R98, R102). -/
def State.drainReady (s : State) (k : ParkKey) : Bool :=
  !s.draftStale k.region ((s.config k.region).lineOfWord k.word) && !s.drainHeld k && !s.restartWaits

/-- A drain write reaches the draft write path (R81, R98): it is issued where its line is current and
nothing holds it; a queued line is promoted; else it waits. -/
def State.drainTry (s : State) (k : ParkKey) (retried : Bool) : State :=
  let ix := (s.config k.region).lineOfWord k.word
  let s := s.setSlot (.waiting k retried)
  if s.drainReady k then s.issueDrain k retried
  else if s.draftStale k.region ix && (s.line ix).queued then s.promote ix
  else s

/-- An IDLE slot takes the eligible entry nearest the head of the queue, with retry count 0; during a
RESTART it takes none (R97, R102). -/
def State.drainNext (s : State) : State :=
  match s.park.slot with
  | .idle =>
    if s.restartWaits then s
    else
      match s.park.entries.find? s.eligible with
      | none => s
      | some e => s.drainTry e.key false
  | _ => s

/-- A waiting drain write is issued where it can be (R82, R98). -/
def State.drainRelease (s : State) : State :=
  match s.park.slot with
  | .waiting k retried => if s.drainReady k then s.issueDrain k retried else s
  | _ => s

/-- DRAIN_TAKE (R97): an IDLE slot takes an eligible entry and hands its write to the draft write path. -/
def execDrainTake (s : State) : Host.Outcome State Fault Refusal := .next s.drainNext.grantNext

/-- DRAIN_WRITE_RELEASE (R98): a waiting drain write that nothing holds any more is issued. -/
def execDrainWriteRelease (s : State) : Host.Outcome State Fault Refusal :=
  .next s.drainRelease.grantNext

end Sys2Proof.Machine
end

