-- ==== Sys2Proof/Machine/Rotation.lean ====
section
/-! DEFINITION. The Rotation Unit: publication conditions, the publication event, triggers taken and views
ending (R22 to R40), with the meaning of PUBLICATION. -/

namespace Sys2Proof.Machine

/-! ### The publication conditions (R32, R33) -/

/-- Condition (a): no line of the region is stale in the DRAFT bank. -/
def State.condA (s : State) (r : RegionIx) : Bool := s.staleCount r (s.run r).draftBank == 0

/-- Condition (b): no draft write of the region is in flight. -/
def State.condB (s : State) (r : RegionIx) : Bool := (s.run r).inFlight == 0

/-- Condition (c): no parked entry of the region carries the draft frame. -/
def State.condC (s : State) (r : RegionIx) : Bool := s.draftEntries r == 0

/-- Condition (d): no view refers to the LIVE bank, or the third bank is FREE. -/
def State.condD (s : State) (r : RegionIx) : Bool :=
  !s.viewed r (s.run r).liveBank || (s.run r).roles.get (s.run r).thirdBank == .free

/-- The four conditions of R32. -/
def State.canPublish (s : State) (r : RegionIx) : Bool :=
  s.condA r && s.condB r && s.condC r && s.condD r

/-- The pending reason FILL (R33): while PENDING, (a), (b) or (c) fails. -/
def State.reasonFill (s : State) (r : RegionIx) : Bool :=
  s.phase r == .pending && !(s.condA r && s.condB r && s.condC r)

/-- The pending reason HELD (R33): while PENDING, (d) fails. -/
def State.reasonHeld (s : State) (r : RegionIx) : Bool := s.phase r == .pending && !s.condD r

/-- The trigger test (R29): no dirty line, no draft write in flight and no draft-frame entry. -/
def State.isEmptyDraft (s : State) (r : RegionIx) : Bool :=
  (s.run r).dirtyLines == 0 && (s.run r).inFlight == 0 && s.draftEntries r == 0

/-! ### The publication event (R34 to R38) -/

/-- The roles after a publication (R34, R35): DRAFT becomes LIVE; the old LIVE becomes DRAFT, or, where
views refer to it, HELD with the third bank DRAFT. -/
def Runtime.rolesPublished (t : Runtime) (viewed : Bool) : PerBank Role :=
  let moved := t.roles.set .live t.draftBank
  if viewed then (moved.set .held t.liveBank).set .draft t.thirdBank
  else moved.set .draft t.liveBank

/-- The runtime record after R34 to R36: F advanced, roles moved, the new LIVE bank's frame set, no dirty
line; the held-notice flag is clear (R33) and the phase OPEN (R38). -/
def Runtime.published (t : Runtime) (viewed : Bool) : Runtime :=
  { t with
    phase := .opened
    roles := t.rolesPublished viewed
    frame := t.frame + 1
    bankFrames := t.bankFrames.set (t.frame + 1) t.draftBank
    heldNotice := false
    dirtyLines := 0 }

/-- The stale set of a line written in the draft just published: the banks other than the new LIVE
(R36). -/
def staleExcept (live : Bank) : PerBank Bool := (⟨true, true, true⟩ : PerBank Bool).set false live

/-- The line-state update of R36 for one line. -/
def LineEntry.published (live : Bank) (e : LineEntry) : LineEntry :=
  if e.dirty then { e with stale := staleExcept live, dirty := false } else e

/-- The lines of a region that are stale in its DRAFT bank, in ascending line order. -/
def State.linesToFill (s : State) (r : RegionIx) : List Nat :=
  (s.config r).lineIxs.filter fun ix => s.draftStale r ix

/-- The publication of R34 to R37: roles and frame, line states, the FILL appends, and the PUBLISHED
notice with the number of lines appended. The follow-on flag is left for R38. -/
def State.publishCore (s : State) (r : RegionIx) : State :=
  let live := (s.run r).draftBank
  let viewed := s.viewed r (s.run r).liveBank
  let s := (s.modRun r fun t => t.published viewed).modRange (s.config r) (LineEntry.published live)
  let fills := s.linesToFill r
  (s.appendLines .fill fills).raiseNotice r .published none (BitVec.ofNat 16 fills.length)

/-- PENDING is entered with both flags clear (R29). -/
def State.enterPending (s : State) (r : RegionIx) : State :=
  s.modRun r fun t => { t with phase := .pending, followOn := false, heldNotice := false }

/-- The HELD notice and count, given once for each pending publication (R33). -/
def State.noteHeld (s : State) (r : RegionIx) : State :=
  if (s.run r).heldNotice then s
  else (s.modRun r fun t => { t with heldNotice := true }).chargeHeld r

/-- An evaluation that finds (d) alone failing notes HELD (R33). -/
def State.waitNoted (s : State) (r : RegionIx) : State :=
  if s.condA r && s.condB r && s.condC r then s.noteHeld r else s

/-- The follow-on (R38): a set flag is cleared and taken as a trigger of source FOLLOW_ON in OPEN. A
publication it causes ends in OPEN, since PENDING was entered with the flag clear. -/
def State.followOn (s : State) (r : RegionIx) : State :=
  if (s.run r).followOn then
    let s := s.modRun r fun t => { t with followOn := false }
    if s.isEmptyDraft r then s.chargeEmpty r .followOn
    else
      let s := s.enterPending r
      if s.canPublish r then s.publishCore r else s.waitNoted r
  else s

/-- A publication, whole (R34 to R38). The entries of the new draft frame begin to drain (R37) once the
follow-on has been taken (log 15). -/
def State.publish (s : State) (r : RegionIx) : State := ((s.publishCore r).followOn r).drainNext

/-- The evaluation of a region's publication conditions; nothing outside PENDING (R32, R33). -/
def State.evaluate (s : State) (r : RegionIx) : State :=
  if s.phase r == .pending then
    if s.canPublish r then s.publish r else s.waitNoted r
  else s

/-! ### Triggers (R29 to R31, R107) -/

/-- A trigger taken by the Rotation Unit (R29 to R31). -/
def State.takeTrigger (s : State) (r : RegionIx) (src : Source) : State :=
  match s.phase r with
  | .opened => if s.isEmptyDraft r then s.chargeEmpty r src else (s.enterPending r).evaluate r
  | .pending =>
    if (s.run r).followOn then s.chargeMerged r src
    else s.modRun r fun t => { t with followOn := true }
  | _ => s

/-- A source happening reaches a region (R107): in OPEN and PENDING a trigger is counted and taken, in the
other phases nothing is delivered. -/
def State.deliver (s : State) (r : RegionIx) (src : Source) : State :=
  if (s.phase r).working then (s.modCounters r fun c => c.countTrigger src).takeTrigger r src else s

/-! ### Views ending (R39) -/

/-- The last view on a bank has ended (R39): a HELD bank becomes FREE, and a PENDING region evaluates. -/
def State.lastViewEnded (s : State) (r : RegionIx) (b : Bank) : State :=
  (if (s.run r).roles.get b == .held then
      s.modRun r fun t => { t with roles := t.roles.set .free b }
    else s).evaluate r

/-- The reports of one region: for each bank that removed views referred to and no view refers to now, the
HELD bank before the LIVE bank (R57). -/
def State.reportRegion (s : State) (gone : List View) (r : RegionIx) : State :=
  let lost := banks.filter fun b => (gone.any fun v => v.on r && v.bank == b) && !s.viewed r b
  let isHeld (b : Bank) : Bool := (s.run r).roles.get b == .held
  (lost.filter isHeld ++ lost.filter fun b => !isHeld b).foldl (fun s b => s.lastViewEnded r b) s

/-- The bank reports of one happening, once every removal has been applied: in ascending region index
(R57). -/
def State.reportBanks (s : State) (gone : List View) : State :=
  regionIxs.foldl (fun s r => s.reportRegion gone r) s

/-- PUBLICATION (R34): a PENDING region whose four conditions hold publishes. Every happening that
completes the conditions does so itself (R32, log 3). -/
def execPublication (r : RegionIx) (s : State) : Host.Outcome State Fault Refusal :=
  if s.phase r == .pending && s.canPublish r then .next (s.publish r).grantNext else .next s

end Sys2Proof.Machine
end

