-- ==== Sys2Proof/Machine/Views.lean ====
section
/-! DEFINITION. The View Table: serving, opening, closing and expiry of views (R45 to R61), with the
meaning of VIEW_EXPIRY. -/

namespace Sys2Proof.Machine

/-- A count of the view stands at 0. -/
def View.spent (v : View) : Bool := v.idle == 0 || v.age == 0

/-- The views whose slot number and contents pass a test, in ascending slot order. -/
def State.viewsWhere (s : State) (test : Nat → View → Bool) : List View :=
  slotIxs.filterMap fun k => (s.view k).filter (test k.val)

/-- Every view that passes a test is removed from the table, with no report. -/
def State.dropWhere (s : State) (test : Nat → View → Bool) : State :=
  s.setViews (vmap (fun i v => v.filter fun x => !test i x) s.views)

/-- Views removed with no notice or count, then the bank reports (R52, R58, R60). -/
def State.removeViews (s : State) (test : Nat → View → Bool) : State :=
  (s.dropWhere test).reportBanks (s.viewsWhere test)

/-- Views expire (R54): removed together, counted and notified in ascending slot order, then the bank
reports. -/
def State.expireViews (s : State) (test : Nat → View → Bool) : State :=
  let gone := s.viewsWhere test
  (gone.foldl (fun s v => s.chargeExpiry v) (s.dropWhere test)).reportBanks gone

/-- A view of the table that is due to expire at this tick: not in use, and a count at 0 (R54). -/
def View.due (v : View) : Bool := !v.inUse && v.spent

/-- The end of a use at a response (R51, R52, R55): the in-use mark is cleared, and then the view is
removed if its drop is due, closed if the read included the close word, expired if a count stands at 0, or
kept. A view that retirement removed in the meantime is gone already. -/
def State.endUse (s : State) (k : Slot) (close : Bool) : State :=
  match s.view k with
  | none => s
  | some v =>
    if v.inUse then
      let s := s.setView k (some { v with inUse := false })
      let this (i : Nat) (_ : View) : Bool := i == k.val
      if v.dropDue || close then s.removeViews this
      else if v.spent then s.expireViews this
      else s
    else s

/-- The end of a use at host-port reset (R61): as at a response that does not close. -/
def State.abandonUse (s : State) (k : Slot) : State := s.endUse k false

/-- A view read through an existing view (R47): idle restarts at VIEW_IDLE and the in-use mark is set. -/
def State.refreshView (s : State) (k : Slot) : State :=
  match s.view k with
  | none => s
  | some v => s.setView k (some { v with idle := (s.config v.region).viewIdle, inUse := true })

/-- A view opened in a slot on the LIVE bank of a region (R48). -/
def State.openView (s : State) (k : Slot) (r : RegionIx) (t : Tag) : State :=
  let c := s.config r
  (s.setView k
    (some ⟨t, r, (s.run r).liveBank, (s.run r).frame, c.viewIdle, c.viewAge, true, false⟩)).modCounters r
    fun x => { x with viewsOpened := satInc x.viewsOpened }

/-- The two countdowns of a view at a tick (R53). -/
def View.tick (v : View) : View := { v with idle := v.idle - 1, age := v.age - 1 }

/-- VIEW_EXPIRY (R54): every view not in use with a count at 0 is removed, counted and notified, and the
banks that lost their last view are reported. -/
def execViewExpiry (s : State) : Host.Outcome State Fault Refusal :=
  .next (s.expireViews fun _ v => v.due).grantNext

end Sys2Proof.Machine
end

