-- ==== Sys2Proof/Machine/Lifecycle.lean ====
section
/-! DEFINITION. The response slot of the link, the application of an enable, and the end of a retirement
(R41, R87, R122, R123, R128, R130, R183), with the meanings of FOLD_BACK_QUEUED and RETIREMENT_END. -/

namespace Sys2Proof.Machine

/-! ### Placing a response (R183, R185) -/

/-- A response is placed in the slot, and the link enters READY (R183). No command waits any more. -/
def State.placeResponse (s : State) (resp : LinkResponse) : State :=
  s.setLink { s.link with state := .ready, slot := some resp, waiting := none }

/-- An ACK with a payload (R185). -/
def State.ack (s : State) (seq : Byte) (payload : List Byte) : State :=
  s.placeResponse ⟨true, seq, 0x00#8, payload⟩

/-- A NAK with its reason and one detail byte (R185). -/
def State.nak (s : State) (seq : Byte) (n : Nak) : State :=
  s.placeResponse ⟨false, seq, n.reason.code, [n.detail]⟩

/-! ### Enabling (R122, R123) -/

/-- The lifecycle record of an enabled region (R119). -/
def Lifecycle.enabled : Lifecycle := Lifecycle.powerOn

/-- The runtime record of an enabled region (R41). -/
def Runtime.enabled : Runtime where
  phase := .opened
  roles := ⟨.live, .draft, .free⟩
  frame := 0
  bankFrames := ⟨0, 0, 0⟩
  followOn := false
  heldNotice := false
  inFlight := 0
  dirtyLines := 0

/-- The period timer of an enabled region (R114). -/
def RegionConfig.startedTimer (c : RegionConfig) : PeriodTimer :=
  if c.trigPeriod then ⟨true, c.periodTicks⟩ else .stopped

/-- A line of an enabled region: stale in B and C, neither dirty nor busy (R68). -/
def LineEntry.enabled (e : LineEntry) : LineEntry :=
  { e with stale := ⟨false, true, true⟩, dirty := false, queued := false, busy := false }

/-- The enable of a region is applied (R123): lifecycle record, runtime record, line range with its FILL
entries, period timer, and the ACK. -/
def State.enableApply (s : State) (r : RegionIx) (seq : Byte) : State :=
  let c := s.config r
  let s := (s.modLife r fun _ => .enabled).modRun r fun _ => .enabled
  let s := (s.modRange c LineEntry.enabled).appendLines .fill c.lineIxs
  (s.setTimer r c.startedTimer).ack seq []

/-- The head holds an unanswered PASS access into one of the region's areas (R122). -/
def State.passInto (s : State) (r : RegionIx) : Bool :=
  match s.host.head, s.headRequest with
  | some ⟨.waitMemory, some d⟩, some q => d.cls == .pass && (s.config r).inAreas (byteAddr q)
  | _, _ => false

/-- A waiting enable is applied where no PASS access stands in its way any more (R122, R136). -/
def State.enableDue (s : State) : State :=
  match s.link.waiting with
  | some (.enable r seq onOrphan) => if onOrphan || s.passInto r then s else s.enableApply r seq
  | _ => s

/-! ### The end of a retirement (R128, R130) -/

/-- The runtime record of a DISABLED region (R20): F keeps its value. -/
def Runtime.ended (t : Runtime) : Runtime := { Runtime.powerOn with frame := t.frame }

/-- The retirement of a region ends (R130): DISABLED, its line range cleared, RETIRED raised, stage NONE. -/
def State.retirementEnd (s : State) (r : RegionIx) : State :=
  let life := (s.region r).life
  let s := (s.modRun r Runtime.ended).modRange (s.config r) fun _ => LineEntry.clear
  (s.raiseNotice r .retired none (retiredDetail life.linesFolded life.linesUnfolded)).modLife r fun x =>
    { x with stage := .none }

/-- The lines that fold-back copies into bank A (R87, R128): those stale in A, unless A is LIVE. -/
def State.linesToFold (s : State) (r : RegionIx) : List Nat :=
  if (s.run r).liveBank == .bankA then []
  else (s.config r).lineIxs.filter fun ix => (s.line ix).stale.get .bankA

/-- The moment of fold-back (R128): RETIRING in stage WINDING, no line busy, no draft write in flight. -/
def State.foldReady (s : State) (r : RegionIx) : Bool :=
  s.phase r == .retiring && (s.region r).life.stage == .winding && !s.anyBusy r &&
    (s.run r).inFlight == 0

/-- A retirement whose folds are all done ends (R130). -/
def State.endIfFolded (s : State) (r : RegionIx) : State :=
  if (s.region r).life.stage == .folding && (s.region r).life.foldsOutstanding == 0 then s.retirementEnd r
  else s

/-- The fold-back is queued at its moment (R128): FOLD entries, stage FOLDING, and, with none to copy, the
end of the retirement. -/
def State.foldBack (s : State) (r : RegionIx) : State :=
  if s.foldReady r then
    let folds := s.linesToFold r
    ((s.appendLines .fold folds).modLife r fun x =>
      { x with stage := .folding, foldsOutstanding := folds.length }).endIfFolded r
  else s

/-- FOLD_BACK_QUEUED (R128). The happening that brings its moment about queues the fold-back itself
(log 3). -/
def execFoldBackQueued (r : RegionIx) (s : State) : Host.Outcome State Fault Refusal :=
  .next (s.foldBack r).grantNext

/-- RETIREMENT_END (R130): with stage FOLDING and no fold outstanding the retirement ends. -/
def execRetirementEnd (r : RegionIx) (s : State) : Host.Outcome State Fault Refusal :=
  .next (s.endIfFolded r)

end Sys2Proof.Machine
end

