-- ==== Sys2Proof/Machine/HostPort.lean ====
section
/-! DEFINITION. The Host Bus Port and the Region Directory: responses, classification, the service of each
class, parking and the release of waiting writes (R8 to R19, R81 to R85, R90 to R96, R137 to R149), with
the meanings of HOST_REQUEST_ACCEPTED, HOST_RESPONSE_TAKEN, PARK_SPACE_FOUND, PARK_TIMEOUT and
LINE_CURRENT_RELEASE. -/

namespace Sys2Proof.Machine

/-! ### Giving a response (R149) -/

/-- An ERROR response, which carries no data (R138). -/
def HostResponse.failed (why : HostStatus) : HostResponse := ⟨why, []⟩

/-- An OKAY response with the words of a READ, none for a WRITE (R138). -/
def HostResponse.okay (data : List Word) : HostResponse := ⟨.okay, data⟩

/-- The head's progress replaced. -/
def State.setProgress (s : State) (p : Progress) : State :=
  s.setHead (s.host.head.map fun h => { h with progress := p })

/-- The end of the use of the view that serves a decided head, if one does (R51, R52). -/
def State.endDecisionUse (s : State) : Option Decision → State
  | none => s
  | some d =>
    match d.view with
    | none => s
    | some k => s.endUse k d.close

/-- The head's response is given (R149): RESPOND is entered; then the view that served it ends its use, an
enable that waited on this head is applied (R122), and a drain write held for it is issued (R98). -/
def State.giveResponse (s : State) (resp : HostResponse) : State :=
  (((s.setProgress (.respond resp)).endDecisionUse s.decision).enableDue).drainRelease

/-- A head that waits in WAIT_LINE or WAIT_PARK for a region that leaves OPEN and PENDING is answered
WAIT_ABORTED (R85, R95, R148). -/
def State.abortHead (s : State) (r : RegionIx) : State :=
  if s.headWaitsOn r then s.giveResponse (.failed .waitAborted) else s

/-! ### Issue of a host write (R83) -/

/-- The WORD trigger of a write that takes effect (R108). -/
def State.wordTrigger (s : State) (r : RegionIx) (commit : Bool) : State :=
  if commit && (s.config r).trigWord then s.deliver r .word else s

/-- The memory access of a request at an address (R144). -/
def accessOf (q : HostRequest) (addr : Word) : Access := ⟨q.kind, addr, q.beats, q.tag, q.data⟩

/-- The decision of a writer write at its issue: it is served by the DRAFT bank (R83, R144). -/
def Decision.issued (d : Decision) (b : Bank) (addr : Word) : Decision :=
  { d with bank := some b, served := .draft, addr := addr }

/-- The head's write is issued on the draft write path (R83): the HOST access at the DRAFT bank's address,
the line dirty, one more write in flight, and then the WORD trigger. The head enters WAIT_MEMORY. -/
def State.issueHost (s : State) (r : RegionIx) : State :=
  match s.headRequest, s.decision with
  | some q, some d =>
    let c := s.config r
    let b := (s.run r).draftBank
    let addr := c.physical b q
    let s := s.setHead (some ⟨.waitMemory, some (d.issued b addr)⟩)
    ((s.requestHost ⟨accessOf q addr, .draftWrite r⟩).countIssue r (c.lineOf q)).wordTrigger r d.commit
  | _, _ => s

/-- A writer write on the draft write path (R81): issued where its line is current; else it waits, and a
queued line is promoted. -/
def State.draftWrite (s : State) (r : RegionIx) (q : HostRequest) : State :=
  let ix := (s.config r).lineOf q
  if s.draftStale r ix then
    let s := s.setProgress .waitLine
    if (s.line ix).queued then s.promote ix else s
  else s.issueHost r

/-! ### Parking (R90 to R94) -/

/-- The frame tag under which a write parks now (R90). -/
def State.parkTag (s : State) (r : RegionIx) : Word :=
  if s.phase r == .pending then (s.run r).frameAfter else (s.run r).draftFrame

/-- The byte of a lane mask: all ones where the lane is in the set. -/
def laneByte (strobes : BitVec 4) (lane : Nat) : Byte := if strobes.getLsbD lane then 0xFF#8 else 0x00#8

/-- The bits of the lanes in a strobe set (log 12). -/
def laneMask (strobes : BitVec 4) : Word :=
  laneByte strobes 3 ++ laneByte strobes 2 ++ laneByte strobes 1 ++ laneByte strobes 0

/-- A word with the lanes of a strobe set taken from another word (R91, R96). -/
def mergeLanes (old new : Word) (strobes : BitVec 4) : Word :=
  (old &&& ~~~laneMask strobes) ||| (new &&& laneMask strobes)

/-- A beat merged into an entry; `writing`: the entry's drain write is issued and not answered (R91). -/
def ParkEntry.merge (e : ParkEntry) (b : Beat) (writing : Bool) : ParkEntry :=
  { e with
    data := mergeLanes e.data b.data b.strobes
    strobes := e.strobes ||| b.strobes
    changed := e.changed || writing }

/-- A new entry of a beat (R91). The lanes outside its strobe set carry no data and read 0 (log 28). -/
def ParkEntry.ofBeat (k : ParkKey) (b : Beat) : ParkEntry :=
  ⟨k.region, k.word, k.frameTag, mergeLanes 0 b.data b.strobes, b.strobes, false⟩

/-- The drain slot is WRITING the entry of a key (R97). -/
def DrainSlot.isWriting : DrainSlot → ParkKey → Bool
  | .writing k _, key => k == key
  | _, _ => false

/-- One beat placed (R91): merged into the entry of its key, or as a new entry at the tail. -/
def State.placeBeat (s : State) (k : ParkKey) (b : Beat) : State :=
  if (s.parked k).isSome then s.modEntry k fun e => e.merge b (s.park.slot.isWriting k)
  else s.setEntries (s.park.entries ++ [ParkEntry.ofBeat k b])

/-- Beats placed at successive words, in ascending order (R91). -/
def State.placeBeats (s : State) (r : RegionIx) (tag : Word) : Nat → List Beat → State
  | _, [] => s
  | word, b :: t => (s.placeBeat ⟨r, word, tag⟩ b).placeBeats r tag (word + 1) t

/-- k: the number of beats of a write that would take new entries now (R92). -/
def State.newEntries (s : State) (r : RegionIx) (q : HostRequest) : Nat :=
  (List.range q.beats).countP fun b =>
    (s.parked ⟨r, (s.config r).beatWord q b, s.parkTag r⟩).isNone

/-- The empty places of the Park Queue (R92). -/
def State.emptyPlaces (s : State) : Nat := Config.parkCapacity - s.park.entries.length

/-- The head's write is placed (R92): its beats, the response OKAY, and then the WORD trigger. Entries that
are eligible begin to drain (R97). -/
def State.placeWrite (s : State) (r : RegionIx) (q : HostRequest) (commit : Bool) : State :=
  let s := s.placeBeats r (s.parkTag r) ((s.config r).beatWord q 0) q.data
  ((s.giveResponse (.okay [])).wordTrigger r commit).drainNext

/-- The head's write is evaluated for parking (R92): placed, or it waits with the timer given, or, needing
more than 8 new entries, it is answered as an expired park wait. -/
def State.parkWrite (s : State) (r : RegionIx) (timer : Nat) : State :=
  match s.headRequest, s.decision with
  | some q, some d =>
    let k := s.newEntries r q
    if k ≤ s.emptyPlaces then s.placeWrite r q d.commit
    else if k ≤ Config.parkCapacity then s.setProgress (.waitPark timer k)
    else (s.giveResponse (.failed .parkTimeout)).chargeParkTimeout r q.tag k
  | _, _ => s

/-- A head in WAIT_PARK is evaluated again after a removal, its timer running on (R93). -/
def State.reevaluatePark (s : State) : State :=
  match s.host.head with
  | some ⟨.waitPark timer _, some d⟩ =>
    match d.region with
    | some r => s.parkWrite r timer
    | none => s
  | _ => s

/-! ### A line made current (R82, R40) -/

/-- The head waits for the line at an index (R82). -/
def State.headWaitsForLine (s : State) (ix : Nat) : Bool :=
  match s.host.head with
  | some ⟨.waitLine, some d⟩ => d.line == some ix
  | _ => false

/-- The drain slot waits with an entry in the line at an index of a region (R82). -/
def State.drainWaitsForLine (s : State) (r : RegionIx) (ix : Nat) : Bool :=
  match s.park.slot with
  | .waiting k _ => k.region == r && (s.config r).lineOfWord k.word == ix
  | _ => false

/-- Every write that waits on a line is issued, but for a drain write that is held (R82). -/
def State.releaseWrites (s : State) (r : RegionIx) (ix : Nat) : State :=
  let s := if s.headWaitsForLine ix then s.issueHost r else s
  if s.drainWaitsForLine r ix then s.drainRelease else s

/-- A line has become current in the DRAFT bank: the waiting writes are issued (R82), and then "line
current" is reported (R40). -/
def State.lineCurrent (s : State) (r : RegionIx) (ix : Nat) : State :=
  (s.releaseWrites r ix).evaluate r

/-! ### Classification (R9 to R11) -/

/-- The active region with an area that contains a byte address (R9). There is at most one (R121). -/
def State.regionAt (s : State) (addr : Nat) : Option RegionIx :=
  regionIxs.find? fun r => (s.phase r).active && (s.config r).inAreas addr

/-- The class of a window request, by the order of R11. -/
def RegionConfig.windowClass (c : RegionConfig) (p : Phase) (q : HostRequest) : HostClass :=
  if p == .retiring then .refused .phase
  else
    match q.kind with
    | .read =>
      if c.isWriter q.tag then .writerRead
      else if c.isReader q.tag then .viewRead
      else .refused .tag
    | .write =>
      if !c.isWriter q.tag then .refused .tag
      else if p == .faulted then .refused .phase
      else if c.includesOpt q c.stamp then .refused .stamp
      else .writerWrite

/-- The class of a request at an address of an active region (R9, R11). -/
def RegionConfig.classOf (c : RegionConfig) (p : Phase) (q : HostRequest) : HostClass :=
  if c.inBank .bankA (byteAddr q) then c.windowClass p q else .refused .shadow

/-- The stamp beat of a request and the frame it returns, where the stamp word is included (R17). -/
def RegionConfig.stampOf (c : RegionConfig) (q : HostRequest) (frame : Word) : Option (Nat × Word) :=
  match c.stamp with
  | none => none
  | some w => if c.includes q w then some (w - c.beatWord q 0, frame) else none

/-! ### The service of each class (R143) -/

/-- The decision record of a PASS request (R10). It matches no region, and the record's phase reads DISABLED
(log 31). -/
def passDecision (q : HostRequest) : Decision where
  cls := .pass
  region := none
  line := none
  phase := .disabled
  bank := none
  served := .none
  addr := BitVec.ofNat 32 (byteAddr q)
  stamp := none
  commit := false
  close := false
  view := none

/-- The decision record of a request matched to a region, before a bank is fixed (R19, R140). A request in a
shadow area includes no word of the window (R6), and R5 gives it no line-state index: the record holds none
(log 30). While no bank serves the request, refused or a writer write before its issue, the record holds no
bank, and its address is the request's own (log 31). -/
def State.matchedDecision (s : State) (r : RegionIx) (q : HostRequest) (cls : HostClass) : Decision :=
  let c := s.config r
  let window := c.inBank .bankA (byteAddr q)
  { cls := cls
    region := some r
    line := if window then some (c.lineOf q) else none
    phase := s.phase r
    bank := none
    served := .none
    addr := BitVec.ofNat 32 (byteAddr q)
    stamp := none
    commit := window && c.includesOpt q c.commit
    close := window && c.includes q c.close
    view := none }

/-- The decision record of a window read whose serving bank and frame are fixed (R17, R44). -/
def State.readDecision (s : State) (r : RegionIx) (q : HostRequest) (cls : HostClass) (b : Bank)
    (frame : Word) (view : Option Slot) : Decision :=
  let c := s.config r
  { s.matchedDecision r q cls with
    bank := some b
    served := (s.run r).roles.get b
    addr := c.physical b q
    stamp := c.stampOf q frame
    view := view }

/-- The head enters WAIT_MEMORY with a decision, and its access is made at the decision's address
(R144). -/
def State.accessMemory (s : State) (q : HostRequest) (d : Decision) (purpose : HostPurpose) : State :=
  (s.setHead (some ⟨.waitMemory, some d⟩)).requestHost ⟨accessOf q d.addr, purpose⟩

/-- A PASS request is forwarded unchanged (R10). -/
def State.passRequest (s : State) (q : HostRequest) : State := s.accessMemory q (passDecision q) .pass

/-- A refused request is charged to its region and answered ERROR (R15). -/
def State.refuse (s : State) (r : RegionIx) (q : HostRequest) (why : RefuseReason) : State :=
  let d := s.matchedDecision r q (.refused why)
  ((s.setHead (some ⟨.decide, some d⟩)).chargeRefusal r q.tag why).giveResponse (.failed (.refused why))

/-- A writer write goes to the Park Queue in PENDING, and in OPEN behind entries of the draft frame; else
to the draft write path (R12). -/
def State.writerWrite (s : State) (r : RegionIx) (q : HostRequest) : State :=
  let s := s.setHead (some ⟨.decide, some (s.matchedDecision r q .writerWrite)⟩)
  if s.phase r == .pending || s.draftEntries r != 0 then s.parkWrite r s.clock.timing.holdWait
  else s.draftWrite r q

/-- A writer read (R13, R86): in FAULTED from LIVE with stamp F; else from LIVE where its line is stale in
DRAFT, from DRAFT where it is not, with stamp F + 1 (R17). -/
def State.writerRead (s : State) (r : RegionIx) (q : HostRequest) : State :=
  let t := s.run r
  let d :=
    if s.phase r == .faulted then s.readDecision r q .writerRead t.liveBank t.frame none
    else
      s.readDecision r q .writerRead
        (if s.draftStale r ((s.config r).lineOf q) then t.liveBank else t.draftBank) t.draftFrame none
  s.accessMemory q d .read

/-- A view read (R14): through the tag's view (R47), through a view opened in the lowest empty slot (R48),
or, with the table full, from LIVE without a view (R49). -/
def State.viewRead (s : State) (r : RegionIx) (q : HostRequest) : State :=
  let t := s.run r
  match s.viewOf r q.tag with
  | some k =>
    let b := ((s.view k).map (·.bank)).getD t.liveBank
    (s.refreshView k).accessMemory q (s.readDecision r q .viewRead b (t.bankFrames.get b) (some k)) .read
  | none =>
    match s.emptySlot with
    | some k =>
      (s.openView k r q.tag).accessMemory q
        (s.readDecision r q .viewRead t.liveBank t.frame (some k)) .read
    | none =>
      (s.chargeShortage r q.tag).accessMemory q (s.readDecision r q .viewRead t.liveBank t.frame none)
        .read

/-- A head is classified and sent on by its class (R8, R143). -/
def State.sendOn (s : State) (q : HostRequest) : State :=
  match s.regionAt (byteAddr q) with
  | none => s.passRequest q
  | some r =>
    match (s.config r).classOf (s.phase r) q with
    | .pass => s.passRequest q
    | .refused why => s.refuse r q why
    | .writerWrite => s.writerWrite r q
    | .writerRead => s.writerRead r q
    | .viewRead => s.viewRead r q

/-- A burst that spans lines is counted and answered ERROR (R142). -/
def State.refuseSpan (s : State) : State :=
  (s.setHost { s.host with burstSpan := satInc s.host.burstSpan }).giveResponse (.failed .burstSpan)

/-- A head in DECIDE is decided, unless a command that waits holds decisions back (R141, R142). -/
def State.decideHead (s : State) : State :=
  match s.host.head, s.headRequest with
  | some ⟨.decide, _⟩, some q =>
    if s.decisionsHeld then s else if spansLines q then s.refuseSpan else s.sendOn q
  | _, _ => s

/-! ### The meanings -/

/-- A request can be accepted: fewer than 4 are held and HRST_N is not asserted (R139). -/
def HostPort.accepts (h : HostPort) : Bool :=
  !h.resetAsserted && h.queue.length < Config.hostQueueCapacity

/-- A request joins the tail of the queue; in an empty queue it becomes head, in DECIDE (R139, R141). -/
def HostPort.join (h : HostPort) (q : HostRequest) : HostPort :=
  { h with
    queue := h.queue ++ [q]
    head := if h.queue.isEmpty then some ⟨.decide, none⟩ else h.head }

/-- The head leaves the queue, and the next request becomes head, in DECIDE (R141, R149). -/
def HostPort.next (h : HostPort) : HostPort :=
  { h with
    queue := h.queue.tail
    head := if h.queue.tail.isEmpty then none else some ⟨.decide, none⟩ }

/-- HOST_REQUEST_ACCEPTED (R139, R141): the request offered joins the queue, and a new head is decided. A
request offered while the port accepts none is held off and changes nothing. -/
def execHostRequestAccepted (q : HostRequest) (s : State) : Host.Outcome State Fault Refusal :=
  if !q.wf then .refused .malformedRequest
  else if !s.host.accepts then .next s
  else
    .next
      (if s.host.queue.isEmpty then ((s.setHost (s.host.join q)).decideHead).grantNext
        else s.setHost (s.host.join q))

/-- HOST_RESPONSE_TAKEN (R149): the head in RESPOND leaves, and the next request is decided. -/
def execHostResponseTaken (s : State) : Host.Outcome State Fault Refusal :=
  match s.progress with
  | some (.respond _) => .next ((s.setHost s.host.next).decideHead).grantNext
  | _ => .next s

/-- PARK_SPACE_FOUND (R93): a head in WAIT_PARK that the empty places suffice for is placed. The removal
that frees the places does so itself (log 3). -/
def execParkSpaceFound (s : State) : Host.Outcome State Fault Refusal :=
  match s.host.head, s.headRequest with
  | some ⟨.waitPark timer _, some d⟩, some q =>
    match d.region with
    | some r =>
      if s.newEntries r q ≤ s.emptyPlaces then .next (s.parkWrite r timer).grantNext else .next s
    | none => .next s
  | _, _ => .next s

/-- PARK_TIMEOUT (R94): the wait timer of a head in WAIT_PARK stands at 0. The head is answered ERROR, and
the timeout is charged to its region with the k of its last evaluation. -/
def execParkTimeout (s : State) : Host.Outcome State Fault Refusal :=
  match s.host.head, s.headRequest with
  | some ⟨.waitPark 0 k, some d⟩, some q =>
    match d.region with
    | some r =>
      .next ((s.giveResponse (.failed .parkTimeout)).chargeParkTimeout r q.tag k).grantNext
    | none => .next s
  | _, _ => .next s

/-- LINE_CURRENT_RELEASE (R82): the line at an index is current in its region's DRAFT bank and a write waits
on it: the write is issued and "line current" reported. The copy that makes the line current does so itself
(log 3). -/
def execLineCurrentRelease (line : Nat) (s : State) : Host.Outcome State Fault Refusal :=
  if line < Config.lineEntries then
    match s.regionOfLine line with
    | some r =>
      if (s.phase r).working && !s.draftStale r line &&
          (s.headWaitsForLine line || s.drainWaitsForLine r line) then
        .next (s.lineCurrent r line).grantNext
      else .next s
    | none => .next s
  else .refused .noSuchLine

end Sys2Proof.Machine
end

