-- ==== Sys2Proof/Machine/Transitions.lean ====
section
/-! DEFINITION. The transitions the Region Lifecycle applies to every block: fault and retirement, with the
park discard, and the report "draft write done" (R27, R40, R87, R101, R124 to R128). -/

namespace Sys2Proof.Machine

/-! ### Park discard (R101) -/

/-- The slot after the discard of a region's entries (R101): a WAITING entry of the region is let go, a
WRITING one runs on. -/
def DrainSlot.letGo (d : DrainSlot) (r : RegionIx) : DrainSlot :=
  match d with
  | .waiting k _ => if k.region = r then .idle else d
  | d => d

/-- Every entry of a region leaves the Park Queue, and the slot lets it go (R101). -/
def State.dropEntries (s : State) (r : RegionIx) : State :=
  s.setPark ⟨s.park.entries.filter fun e => e.region != r, s.park.slot.letGo r⟩

/-- PARK_DISCARDED is raised for one or more entries discarded (R101). -/
def State.noteDiscard (s : State) (r : RegionIx) (n : Nat) : State :=
  if n = 0 then s else s.raiseNotice r .parkDiscarded none (BitVec.ofNat 16 n)

/-- A head that waits for park space for another region is evaluated after a discard of one or more entries
(R93, R101). -/
def State.reevaluateOthers (s : State) (r : RegionIx) (n : Nat) : State :=
  if n = 0 || s.headWaitsOn r then s else s.reevaluatePark

/-- The discard of a region's parked entries (R101). -/
def State.parkDiscard (s : State) (r : RegionIx) : State :=
  let n := s.parkedCount r
  (((s.dropEntries r).noteDiscard r n).reevaluateOthers r n).drainNext

/-! ### Fault (R42, R125) -/

/-- The runtime record of a region that becomes FAULTED (R42). -/
def Runtime.faulted (t : Runtime) : Runtime :=
  { t with phase := .faulted, followOn := false, heldNotice := false }

/-- A fault of a region is applied, in the order of R125. `line` is the line number within the region. -/
def State.fault (s : State) (r : RegionIx) (cause : FaultCause) (line : Nat) : State :=
  let s := s.modLife r fun x => { x with cause := cause, faultLine := line }
  let s := (s.modRun r Runtime.faulted).raiseNotice r .faulted none (faultDetail cause line)
  (((s.removeFills r).parkDiscard r).abortHead r).setTimer r .stopped

/-! ### Retirement (R43, R127) -/

/-- The runtime record of a region that becomes RETIRING (R43). -/
def Runtime.retiring (t : Runtime) : Runtime :=
  { t with phase := .retiring, followOn := false, heldNotice := false }

/-- The lifecycle record at the acceptance of a retirement (R127). -/
def Lifecycle.winding (x : Lifecycle) : Lifecycle :=
  { x with stage := .winding, foldsOutstanding := 0, linesFolded := 0, linesUnfolded := 0 }

/-- A line of a retiring region: a dirty line becomes stale in the DRAFT bank and stays dirty (R87). -/
def LineEntry.abandoned (draft : Bank) (e : LineEntry) : LineEntry :=
  if e.dirty then { e with stale := e.stale.set true draft } else e

/-- The acceptance of RETIRE_REGION, in the order of R127. -/
def State.retireAccept (s : State) (r : RegionIx) : State :=
  let s := (s.modLife r Lifecycle.winding).modRun r Runtime.retiring
  let s := (s.removeFills r).modRange (s.config r) (LineEntry.abandoned (s.run r).draftBank)
  let s := (s.parkDiscard r).removeViews fun _ v => v.on r
  ((s.abortHead r).setTimer r .stopped).foldBack r

/-! ### Draft write done (R27, R40, R84, R128) -/

/-- "Draft write done": one less write in flight; a PENDING region evaluates, and a RETIRING one may queue
its fold-back. -/
def State.draftWriteDone (s : State) (r : RegionIx) : State :=
  ((s.modRun r fun t => { t with inFlight := t.inFlight - 1 }).evaluate r).foldBack r

end Sys2Proof.Machine
end

