-- ==== Sys2Proof/Machine/Resets.lean ====
section
/-! DEFINITION. Power-on, host-port reset and the application of RESTART and of a waiting enable (R46, R61,
R64, R80, R102, R123, R132 to R136, R150 to R152, R163 to R165, R173, R178), with the meanings of POWER_ON,
HOST_PORT_RESET, HOST_PORT_RESET_RELEASE, ENABLE_APPLIED and RESTART_APPLIED. -/

namespace Sys2Proof.Machine

/-! ### RESTART (R133) -/

/-- A region after RESTART (R21, R114, R119, R174, R175): DISABLED, with F, the fault record and the fold
counts kept. -/
def Region.restarted (g : Region) : Region :=
  { g with
    run := g.run.ended
    life := { g.life with stage := .none, foldsOutstanding := 0 }
    counters := .zero
    timer := .stopped }

/-- The Notice Unit after RESTART (R173, R178): the interrupt enable is kept. -/
def NoticeUnit.restarted (u : NoticeUnit) : NoticeUnit :=
  { u with queue := [], lost := false, snapshot := .invalid }.driveIrq

/-- A HOST access of class PASS (R163). -/
def HostAccess.isPass (a : HostAccess) : Bool := a.purpose == .pass

/-- The bus at the application of RESTART (R163): a requested PASS access is kept, every other one is
withdrawn. -/
def MemoryBus.restarted (b : MemoryBus) : MemoryBus :=
  { b with
    hostReq := b.hostReq.filter HostAccess.isPass
    drainReq := none
    catchReq := none
    share := 0
    timeouts := 0 }

/-- The head is answered WAIT_ABORTED by RESTART (R150): in WAIT_LINE, in WAIT_PARK, and in WAIT_MEMORY with
an access that is requested and not PASS. -/
def State.restartAborts (s : State) : Bool :=
  match s.progress with
  | some .waitLine => true
  | some (.waitPark _ _) => true
  | some .waitMemory => s.bus.hostReq.any fun a => !a.isPass
  | _ => false

/-- Every block but the head and the link at the application of RESTART (R133). -/
def State.restartBlocks (s : State) : State :=
  let s := (s.modRegions Region.restarted).setViews (Vector.replicate 32 none)
  let s := (s.setCatchup .empty).setPark .empty
  let s := (s.setHost { s.host with burstSpan := 0 }).setBus s.bus.restarted
  s.setNotices s.notices.restarted

/-- The restart is applied (R133): every region DISABLED, tables and queues emptied, a waiting head aborted,
the ACK placed; then a head held back is decided (R150). -/
def State.restartApply (s : State) (seq : Byte) : State :=
  let aborts := s.restartAborts
  let s := s.restartBlocks
  let s := if aborts then s.giveResponse (.failed .waitAborted) else s
  (s.ack seq []).decideHead

/-- A RESTART that waits is applied once no transaction is in flight (R132). -/
def State.restartDue (s : State) : State :=
  match s.link.waiting with
  | some (.restart seq) => if s.bus.port.busy then s else s.restartApply seq
  | _ => s

/-! ### Host-port reset (R151) -/

/-- A HOST transaction of the head is in flight (R136, R164). -/
def Port.holdsHead : Port → Bool
  | .inFlight ⟨.host _ false, _⟩ _ => true
  | _ => false

/-- The port with its HOST transaction left to complete without a head (R164). -/
def Port.orphaned : Port → Port
  | .inFlight ⟨.host p _, a⟩ t => .inFlight ⟨.host p true, a⟩ t
  | p => p

/-- The waiting command once the head is dropped (R136): an enable that waited on an access in flight goes
on waiting for that transaction, any other waits no longer on a head. -/
def Waiting.headDropped (w : Waiting) (inFlight : Bool) : Waiting :=
  match w with
  | .enable r seq onOrphan => .enable r seq (onOrphan || inFlight)
  | .restart seq => .restart seq

/-- The use of the view that a dropped head held in use ends (R61). -/
def State.dropUse (s : State) : State :=
  match s.decision.bind (·.view) with
  | none => s
  | some k => s.abandonUse k

/-- A draft write withdrawn before its grant is reported as done (R164). -/
def State.withdrawnDone (s : State) (a : Option HostAccess) : State :=
  match a with
  | some ⟨_, .draftWrite r⟩ => s.draftWriteDone r
  | _ => s

/-- Host-port reset (R151, log 20): the queue is emptied, the head dropped, an ungranted HOST access
withdrawn and a HOST transaction in flight left without a head. Then the view in use, a withdrawn draft
write, a waiting enable and a held drain write are dealt with (R61, R164, R136, R98). -/
def State.hostPortReset (s : State) : State :=
  let inFlight := s.bus.port.holdsHead
  let withdrawn := s.bus.hostReq
  let s' := s.dropUse
  let s' := s'.setHost ⟨[], none, true, s'.host.burstSpan⟩
  let s' := s'.setBus { s'.bus with hostReq := none, port := s'.bus.port.orphaned }
  let s' := s'.setLink { s'.link with waiting := s'.link.waiting.map (·.headDropped inFlight) }
  ((s'.withdrawnDone withdrawn).enableDue).drainRelease

/-! ### The meanings -/

/-- POWER_ON (R135): every block is in its power-on state. The level of HRST_N is the pin's own (log 16). -/
def execPowerOn (s : State) : Host.Outcome State Fault Refusal :=
  .next
    { State.reset with
      host := { State.reset.host with resetAsserted := s.host.resetAsserted }
      pending := s.pending }

/-- HOST_PORT_RESET (R151). -/
def execHostPortReset (s : State) : Host.Outcome State Fault Refusal := .next s.hostPortReset.grantNext

/-- HOST_PORT_RESET_RELEASE (R151): the port accepts requests again. -/
def execHostPortResetRelease (s : State) : Host.Outcome State Fault Refusal :=
  .next (s.setHost { s.host with resetAsserted := false })

/-- ENABLE_APPLIED (R122, R123): the waiting enable is applied where nothing stands in its way any more, and
the head it held back is decided. The happening that frees it applies it itself (log 3). -/
def execEnableApplied (s : State) : Host.Outcome State Fault Refusal :=
  match s.link.waiting with
  | some (.enable r seq false) =>
    if s.passInto r then .next s else .next ((s.enableApply r seq).decideHead).grantNext
  | _ => .next s

/-- RESTART_APPLIED (R133): the waiting restart is applied once no transaction is in flight. The happening
that ends the transaction applies it itself (log 3). -/
def execRestartApplied (s : State) : Host.Outcome State Fault Refusal :=
  match s.link.waiting with
  | some (.restart seq) =>
    if s.bus.port.busy then .next s else .next (s.restartApply seq).grantNext
  | _ => .next s

end Sys2Proof.Machine
end

