-- ==== Sys2Proof/Machine/Answers.lean ====
section
/-! DEFINITION. The end of a memory bus transaction and its delivery to its requester (R73 to R79, R84, R96,
R99, R100, R144, R145, R160, R162), with the meanings of MEMORY_ANSWER and MEMORY_TIMEOUT. -/

namespace Sys2Proof.Machine

/-- What is delivered to a requester (R162). -/
inductive Delivery where
  | okay (words : List Word)
  | error
  | timeout
  deriving DecidableEq, Repr

/-! ### Copies (R73 to R79) -/

/-- A copy's result is to be applied: its region is in the phase the copy was made for (R79). -/
def State.copyApplies (s : State) (c : Copy) : Bool :=
  match c.kind with
  | .fill => (s.phase c.region).working
  | .fold => s.phase c.region == .retiring

/-- A line's busy mark cleared. -/
def State.clearBusy (s : State) (ix : Nat) : State := s.modLine ix fun e => { e with busy := false }

/-- The end of one FOLD, folded or skipped, at the Region Lifecycle; the last one ends the retirement (R129,
R130). -/
def State.foldReport (s : State) (r : RegionIx) (folded : Bool) : State :=
  (s.modLife r fun x =>
    { x with
      foldsOutstanding := x.foldsOutstanding - 1
      linesFolded := if folded then x.linesFolded + 1 else x.linesFolded
      linesUnfolded := if folded then x.linesUnfolded else x.linesUnfolded + 1 }).endIfFolded r

/-- The source read of a copy is answered OKAY (R73): its words are buffered and the write requested. -/
def State.copyReadDone (s : State) (c : Copy) (retried : Bool) (words : List Word) : State :=
  (s.setEngine (.writing c retried words)).requestCatchup (s.copyWrite c words)

/-- The write of a copy is answered OKAY (R74, R79). The engine's next take is the last part (log 13). -/
def State.copyDone (s : State) (c : Copy) : State :=
  if s.copyApplies c then
    let s := (s.modLine c.line fun e => { e with stale := e.stale.set false c.dest }).clearBusy c.line
    (match c.kind with
      | .fill => s.lineCurrent c.region c.line
      | .fold => s.foldReport c.region true).engineNext
  else ((s.clearBusy c.line).foldBack c.region).engineNext

/-- A copy fails (R76 to R79): out of phase it ends; a first failure is retried from the read; a second one
faults the region of a FILL and skips the line of a FOLD. -/
def State.copyFailed (s : State) (c : Copy) (retried : Bool) (cause : FailCause) : State :=
  if !s.copyApplies c then ((s.clearBusy c.line).foldBack c.region).engineNext
  else if !retried then (s.startReading c true).chargeCopyRetry c cause
  else
    let s := s.clearBusy c.line
    (match c.kind with
      | .fill => s.fault c.region .copy (c.line - (s.config c.region).lineBase)
      | .fold => s.foldReport c.region false).engineNext

/-- The outcome of a CATCHUP transaction, by the engine's state (R162). -/
def State.deliverCatchup (s : State) (d : Delivery) : State :=
  match s.catchup.engine, d with
  | .idle, _ => s
  | .reading c retried, .okay words => s.copyReadDone c retried words
  | .writing c _ _, .okay _ => s.copyDone c
  | .reading c retried, .error => s.copyFailed c retried .error
  | .writing c retried _, .error => s.copyFailed c retried .error
  | .reading c retried, .timeout => s.copyFailed c retried .timeout
  | .writing c retried _, .timeout => s.copyFailed c retried .timeout

/-! ### Drain writes (R99, R100) -/

/-- "Frame drained" is reported where the region holds no entry of its draft frame (R40, R99). -/
def State.frameDrained (s : State) (r : RegionIx) : State :=
  if s.draftEntries r == 0 then s.evaluate r else s

/-- The entry of a key leaves the Park Queue. -/
def State.removeEntry (s : State) (k : ParkKey) : State :=
  s.setEntries (s.park.entries.filter fun e => e.key != k)

/-- A drain write of an entry in the queue is answered OKAY (R99): an entry changed since is written again;
else it is removed, a waiting head is evaluated, frame drained is reported, and only then the slot takes the
next entry. While a RESTART waits there is no rewrite and no report (R102). -/
def State.drainDone (s : State) (k : ParkKey) (e : ParkEntry) : State :=
  if e.changed then
    if s.restartWaits then s.setSlot .idle
    else (s.modEntry k fun x => { x with changed := false }).drainTry k false
  else
    let s := (s.removeEntry k).reevaluatePark
    ((if s.restartWaits then s else s.frameDrained k.region).setSlot .idle).drainNext

/-- A drain write of an entry in the queue fails (R100): the first failure is retried, the second faults the
region. While a RESTART waits there is neither (R102). -/
def State.drainFailed (s : State) (k : ParkKey) (retried : Bool) : State :=
  if s.restartWaits then s.setSlot .idle
  else if retried then (s.setSlot .idle).fault k.region .drain (k.word / 16)
  else (s.modEntry k fun x => { x with changed := false }).drainTry k true

/-- The Park Queue's part of the outcome of a drain write (R99, R100). For a region that has left OPEN and
PENDING, whose entry has been discarded, the answer is taken with no retry, removal, report or fault. -/
def State.drainAnswered (s : State) (k : ParkKey) (retried : Bool) (d : Delivery) : State :=
  match if (s.phase k.region).working then s.parked k else none with
  | none => (s.setSlot .idle).drainNext
  | some e =>
    match d with
    | .okay _ => s.drainDone k e
    | _ => s.drainFailed k retried

/-- The outcome of a DRAIN transaction: "draft write done" first (R84, log 14), then the Park Queue's part. -/
def State.deliverDrain (s : State) (d : Delivery) : State :=
  match s.park.slot with
  | .writing k retried => (s.draftWriteDone k.region).drainAnswered k retried d
  | _ => s

/-! ### Host accesses (R84, R96, R144, R145) -/

/-- A word with the bytes of an entry applied, if there is one (R96). -/
def applyEntry (e : Option ParkEntry) (w : Word) : Word :=
  match e with
  | none => w
  | some e => mergeLanes w e.data e.strobes

/-- The memory words of a writer read with the region's parked words merged over them: the entry of F + 1
first, the entry of F + 2 after it (R96). -/
def State.mergeParked (s : State) (r : RegionIx) : Nat → List Word → List Word
  | _, [] => []
  | word, w :: t =>
    applyEntry (s.parked ⟨r, word, (s.run r).frameAfter⟩)
        (applyEntry (s.parked ⟨r, word, (s.run r).draftFrame⟩) w) ::
      s.mergeParked r (word + 1) t

/-- The response data of a READ answered OKAY (R145): parked words for a writer read of a region that was
OPEN or PENDING at its classification, then the stamp beat. -/
def State.assemble (s : State) (q : HostRequest) (d : Decision) (words : List Word) : List Word :=
  let merged :=
    match d.region with
    | none => words
    | some r =>
      if d.cls == .writerRead && d.phase.working then
        s.mergeParked r ((s.config r).beatWord q 0) words
      else words
  match d.stamp with
  | none => merged
  | some (b, v) => merged.set b v

/-- The response of a head whose access has ended (R144). -/
def State.memoryResponse (s : State) (q : HostRequest) (d : Decision) : Delivery → HostResponse
  | .okay words =>
    match q.kind with
    | .read => .okay (s.assemble q d words)
    | .write => .okay []
  | .error => .failed .memoryError
  | .timeout => .failed .memoryTimeout

/-- A head in WAIT_MEMORY is answered (R144). -/
def State.answerHead (s : State) (d : Delivery) : State :=
  match s.host.head, s.headRequest with
  | some ⟨.waitMemory, some dec⟩, some q => s.giveResponse (s.memoryResponse q dec d)
  | _, _ => s

/-- A transaction of a dropped head has ended: an enable that waited on it is applied, and a head that the
enable held back is decided (R136, R141). -/
def State.orphanEnded (s : State) : State :=
  match s.link.waiting with
  | some (.enable r seq true) =>
    ((s.setLink { s.link with waiting := some (.enable r seq false) }).enableDue).decideHead
  | _ => s

/-- "Draft write done" of a HOST transaction that was one (R84). -/
def State.hostWriteDone (s : State) : HostPurpose → State
  | .draftWrite r => s.draftWriteDone r
  | _ => s

/-- The outcome of a HOST transaction (R84, R144, R162): to the head, or to no one where host-port reset has
dropped it (R164). -/
def State.deliverHost (s : State) (p : HostPurpose) (orphan : Bool) (d : Delivery) : State :=
  if orphan then (s.hostWriteDone p).orphanEnded else (s.hostWriteDone p).answerHead d

/-! ### The end of a transaction (R160, R162) -/

/-- The outcome is handed to the requester (R162). -/
def State.handOver (s : State) (o : Owner) (d : Delivery) : State :=
  match o with
  | .host p orphan => s.deliverHost p orphan d
  | .drain => s.deliverDrain d
  | .catchup => s.deliverCatchup d

/-- The transaction in flight ends, the port already in its next state: the requester's rule, a RESTART that
waited for it (R132), and the next grant (R156). -/
def State.endTransaction (s : State) (o : Owner) (d : Delivery) : State :=
  ((s.handOver o d).restartDue).grantNext

/-- An OKAY answer carries one word for each beat of a READ and none for a WRITE (R153). -/
def answerFits (a : Access) (words : List Word) : Bool :=
  match a.kind with
  | .read => words.length == a.beats
  | .write => words.isEmpty

/-- What an answer delivers. -/
def deliveryOf : MemAnswer → Delivery
  | .okay words => .okay words
  | .error => .error

/-- An answer is one that R153 allows for an access. -/
def answerAllowed (a : Access) : MemAnswer → Bool
  | .okay words => answerFits a words
  | .error => true

/-- MEMORY_ANSWER (R160, R162): the transaction in flight ends, and the port becomes IDLE. With none in
flight memory owes no answer and nothing changes; an OKAY answer with the wrong number of words is no
transfer of R153 and stops the machine (log 18). -/
def execMemoryAnswer (a : MemAnswer) (s : State) : Host.Outcome State Fault Refusal :=
  if !a.wf then .refused .malformedAnswer
  else
    match s.bus.port with
    | .inFlight t _ =>
      if answerAllowed t.access a then
        .next ((s.setBus { s.bus with port := .idle }).endTransaction t.owner (deliveryOf a))
      else .fault .answerLength
    | _ => .next s

/-- MEMORY_TIMEOUT (R160): the MEMORY_WAIT timer of the transaction in flight stands at 0. The port enters
EXPIRED and counts the timeout, and the requester takes a failure. -/
def execMemoryTimeout (s : State) : Host.Outcome State Fault Refusal :=
  match s.bus.port with
  | .inFlight t 0 =>
    .next
      ((s.setBus { s.bus with port := .expired, timeouts := satInc s.bus.timeouts }).endTransaction t.owner
        .timeout)
  | _ => .next s

end Sys2Proof.Machine
end

