-- ==== Sys2Proof/Machine/Time.lean ====
section
/-! DEFINITION. The time base, the period timers and the strobe inputs (R53, R93, R105, R106, R109 to R115,
R159), with the meanings of TICK, PERIOD_TIMER_FIRE, STROBE_SAMPLE and STROBE_EDGE. -/

namespace Sys2Proof.Machine

/-! ### The tick (R105, R106) -/

/-- The head's wait timer at a tick (R93). -/
def Head.tick (h : Head) : Head :=
  match h.progress with
  | .waitPark timer k => { h with progress := .waitPark (timer - 1) k }
  | _ => h

/-- The MEMORY_WAIT timer at a tick (R159). -/
def Port.tick : Port → Port
  | .inFlight t timer => .inFlight t (timer - 1)
  | p => p

/-- A period timer at a tick (R114, R115): a stopped one ignores it. -/
def PeriodTimer.tick (t : PeriodTimer) : PeriodTimer :=
  if t.running then { t with remaining := t.remaining - 1 } else t

/-- One REFCLK period at the prescaler (R105): the count is incremented; when it reaches TICK_DIV it returns
to 0, and a tick is due. -/
def TimeBase.period (c : TimeBase) : TimeBase :=
  if c.timing.tickDiv ≤ c.prescaler + 1 then { c with prescaler := 0, tickDue := true }
  else { c with prescaler := c.prescaler + 1 }

/-- The tick that is due is taken (R105): the tick count is incremented. -/
def TimeBase.tick (c : TimeBase) : TimeBase := { c with tickDue := false, tickCount := c.tickCount + 1 }

/-- A tick (R105, R106): the tick count, and one down for every countdown. What a countdown brings about at 0
is a command of its own (log 4). -/
def State.tickAll (s : State) : State :=
  let s := s.setClock s.clock.tick
  let s := s.setViews (vmap (fun _ v => v.map View.tick) s.views)
  let s := (s.setHead (s.host.head.map Head.tick)).setBus { s.bus with port := s.bus.port.tick }
  s.modRegions fun g => { g with timer := g.timer.tick }

/-- TICK (R105): taken when the prescaler has reached TICK_DIV and the tick is due. -/
def execTick (s : State) : Host.Outcome State Fault Refusal :=
  if s.clock.tickDue then .next s.tickAll else .next s

/-! ### The period timer (R115) -/

/-- A running period timer stands at 0. -/
def PeriodTimer.due (t : PeriodTimer) : Bool := t.running && t.remaining == 0

/-- PERIOD_TIMER_FIRE (R115): the timer that stands at 0 is loaded with PERIOD_TICKS, and its PERIOD trigger
is delivered. -/
def execPeriodTimerFire (r : RegionIx) (s : State) : Host.Outcome State Fault Refusal :=
  if (s.region r).timer.due then
    .next ((s.setTimer r ⟨true, (s.config r).periodTicks⟩).deliver r .period).grantNext
  else .next s

/-! ### Strobes (R109 to R113) -/

/-- One sample of a line against filter count `n` (R109, R110): the first sample is the filtered level; then
the run count restarts or rises, and an edge is due once it exceeds the filter count (log 6). -/
def StrobeLine.sample (l : StrobeLine) (n : Nat) (x : Bool) : StrobeLine :=
  if !l.sampled then ⟨x, true, 0, false⟩
  else if x == l.level then { l with run := 0 }
  else { l with run := l.run + 1, due := n < l.run + 1 }

/-- The edge of a line is taken (R110). -/
def StrobeLine.take (l : StrobeLine) : StrobeLine := { l with level := !l.level, run := 0, due := false }

/-- The four lines sampled at the levels `pins` (R110, R112). -/
def Strobes.sampleLines (x : Strobes) (filters : Vector Filter 4) (pins : Vector Bool 4) :
    Vector StrobeLine 4 :=
  Vector.ofFn fun i : Fin 4 => (x.lines.get i).sample (filters.get i).count (pins.get i)

/-- One REFCLK period at the strobe pins (R109): the levels of two periods ago are sampled, and the present
ones enter the synchroniser (log 7). -/
def Strobes.period (x : Strobes) (filters : Vector Filter 4) (pins : Vector Bool 4) : Strobes :=
  match x.sync with
  | [oldest, newer] => ⟨x.sampleLines filters oldest, [newer, pins]⟩
  | held => ⟨x.lines, held ++ [pins]⟩

/-- A view, a period timer, the head's wait timer or the memory timer has an expiry to be taken. -/
def State.expiryDue (s : State) : Bool :=
  (slotIxs.any fun k => (s.view k).any View.due) ||
    (regionIxs.any fun r => (s.region r).timer.due) ||
    (match s.progress with
      | some (.waitPark 0 _) => true
      | _ => false) ||
    (match s.bus.port with
      | .inFlight _ 0 => true
      | _ => false)

/-- Something of the present instant is still to be taken: an edge, the tick, or an expiry (log 5). -/
def State.instantDue (s : State) : Bool :=
  s.strobes.lines.toList.any (·.due) || s.clock.tickDue || s.expiryDue

/-- STROBE_SAMPLE (R105, R109, R110): one REFCLK period. The prescaler counts it and each strobe line is
sampled once. It comes only when all that falls due in the period before has been taken (log 5). -/
def execStrobeSample (pins : Vector Bool 4) (s : State) : Host.Outcome State Fault Refusal :=
  if s.instantDue then .next s
  else
    .next
      ((s.setClock s.clock.period).setStrobes (s.strobes.period s.clock.timing.filters pins))

/-- The edge selection matches an edge (R113). -/
def EdgeSelect.matches (e : EdgeSelect) (rising : Bool) : Bool :=
  match e with
  | .rise => rising
  | .fall => !rising
  | .both => true

/-- A region selects an edge of a strobe line (R113). -/
def RegionConfig.selects (c : RegionConfig) (line : Fin 4) (rising : Bool) : Bool :=
  match c.trigStrobe with
  | none => false
  | some (l, e) => l == line && e.matches rising

/-- The STROBE triggers of one edge, in ascending region index (R113). -/
def State.deliverStrobe (s : State) (line : Fin 4) (rising : Bool) : State :=
  regionIxs.foldl (fun s r => if (s.config r).selects line rising then s.deliver r .strobe else s) s

/-- STROBE_EDGE (R110, R113): the edge that is due on a line is taken: the filtered level changes, the run
count restarts, and the STROBE triggers are delivered. -/
def execStrobeEdge (line : Fin 4) (s : State) : Host.Outcome State Fault Refusal :=
  let l := s.strobes.lines.get line
  if l.due then
    .next
      ((s.setStrobes { s.strobes with lines := s.strobes.lines.set line.val l.take line.isLt }).deliverStrobe
        line (!l.level)).grantNext
  else .next s

end Sys2Proof.Machine
end

