-- ==== Sys2Proof/Machine/Commands.lean ====
section
/-! DEFINITION. The Management Link: frames, FETCH, and the execution of every command (R117, R120 to R122,
R126, R171, R176, R177, R179 to R196), with their meanings. -/

namespace Sys2Proof.Machine

/-! ### Frames (R182 to R185) -/

/-- The end of a frame at the pins: MCS_N is deasserted, and MDO is released (R179). -/
def Link.frameEnded (l : Link) : Link := { l with mdo := .released }

/-- The end of a frame that is to be discarded: it is counted, up to 255 (R184). -/
def Link.frameDropped (l : Link) : Link :=
  { l.frameEnded with discarding := false, dropped := min (l.dropped + 1) 255 }

/-- The end of a command frame (R179, R183, R184): MDO is released; a frame to be discarded is dropped; one
received enters EXECUTING and is executed by `run`; with no frame under way nothing ends (log 9). -/
def State.endFrame (s : State) (run : State → State) : State :=
  if s.link.discarding then s.setLink s.link.frameDropped
  else
    match s.link.state with
    | .receiving => run (s.setLink { s.link.frameEnded with state := .executing })
    | _ => s

/-- COMMAND_FRAME_FIRST_BYTE (R179, R183, R184): in IDLE and READY a command frame begins; in EXECUTING the
frame is marked to be discarded. MDO is driven with 0x00 for every byte of it, until the frame ends. -/
def execCommandFrameFirstByte (s : State) : Host.Outcome State Fault Refusal :=
  .next
    (if s.link.discarding then s
      else
        match s.link.state with
        | .idle | .ready => s.setLink { s.link with state := .receiving, mdo := .zeros }
        | .executing => s.setLink { s.link with discarding := true, mdo := .zeros }
        | .receiving => s)

/-- COMMAND_DROPPED (R184): the frame marked to be discarded ends and is counted, and MDO is released (R179). -/
def execCommandDropped (s : State) : Host.Outcome State Fault Refusal :=
  .next (if s.link.discarding then s.setLink s.link.frameDropped else s)

/-- The bytes of a READY response after the code byte, to its CRC (R182). -/
def LinkResponse.bytes (x : LinkResponse) (dropped : Nat) : List Byte :=
  let body :=
    [if x.ack then 0x00#8 else 0x01#8, x.seq, x.reason, BitVec.ofNat 8 dropped,
      BitVec.ofNat 8 x.payload.length] ++ x.payload
  0x5A#8 :: (body ++ [crc8 body])

/-- What a FETCH sends before the zeros: the response in READY, nothing but zeros in IDLE and EXECUTING
(R182). -/
def Link.fetchBytes (l : Link) : List Byte :=
  match l.state, l.slot with
  | .ready, some x => x.bytes l.dropped
  | _, _ => []

/-- The link after a FETCH frame of `clocked` bytes (R182): the bytes driven on MDO are recorded, and MDO is
released at the frame's end (R179); a complete response sets the dropped count to 0. -/
def Link.fetch (l : Link) (clocked : Nat) : Link :=
  { l.frameEnded with
    fetched := l.fetchBytes.take clocked ++ List.replicate (clocked - l.fetchBytes.length) 0x00#8
    dropped := if !l.fetchBytes.isEmpty && l.fetchBytes.length ≤ clocked then 0 else l.dropped }

/-- A FETCH frame of `clocked` bytes after its code byte (R182). None comes while a command frame is being
received (log 9). -/
def State.fetchFrame (s : State) (clocked : Nat) : State :=
  if s.link.discarding || s.link.state == .receiving then s else s.setLink (s.link.fetch clocked)

/-- FETCH (R182). -/
def execFetch (clocked : Nat) (s : State) : Host.Outcome State Fault Refusal := .next (s.fetchFrame clocked)

/-- COMMAND_FRAME_REJECTED (R185): a command frame that fails the checks 1 to 4, or names an unassigned part
of READ_REGION (R190, log 10), is answered NAK. A frame that passes them is another command's. A frame of no
byte is ignored (R179), and a first byte of 0xF0 makes it a FETCH frame (R181). -/
def execCommandFrameRejected (frame : List Byte) (s : State) : Host.Outcome State Fault Refusal :=
  match frame with
  | [] => .next s
  | code :: rest =>
    if code == fetchCode then .next (s.fetchFrame rest.length)
    else
      match decodeFrame frame with
      | .ok _ => .next s
      | .error n => .next (s.endFrame fun s => s.nak (frameEcho frame) n)

/-! ### Arguments (R185, R186) -/

/-- The region a byte names (R186). -/
def regionOf (b : Byte) : Option RegionIx := if h : b.toNat < 16 then some ⟨b.toNat, h⟩ else none

/-- A command that names a region: an index above 15 is answered NAK BAD_ARGUMENT (R186). -/
def State.withRegion (s : State) (seq region : Byte) (run : RegionIx → State) : State :=
  match regionOf region with
  | none => s.nak seq outOfRange
  | some r => run r

/-- BAD_STATE with the phase code of a region (R185). -/
def State.badState (s : State) (r : RegionIx) : Nak := ⟨.badState, (s.phase r).code⟩

/-! ### IDENT, SET_TIMING, SET_IRQ (R187, R188, R194) -/

/-- The 32 bytes of IDENT (R187). -/
def State.identPayload (s : State) : List Byte :=
  Config.identHeader ++ s.clock.timing.toRecord.toBytes ++ bytes32 s.host.burstSpan ++
    bytes32 s.bus.timeouts ++
    [s.bus.port.code, flagByte s.notices.irqEnabled, flagByte s.notices.lost,
      BitVec.ofNat 8 s.notices.queue.length]

/-- IDENT (R187). -/
def execIdent (seq : Byte) (s : State) : Host.Outcome State Fault Refusal :=
  .next (s.endFrame fun s => s.ack seq s.identPayload)

/-- SET_TIMING executed (R105, R188). -/
def State.setTiming (s : State) (seq : Byte) (x : TimingRecord) : State :=
  match firstFailing (timingChecks x) with
  | some d => s.nak seq ⟨.badArgument, d⟩
  | none => (s.setClock { s.clock with timing := Timing.ofRecord x, prescaler := 0 }).ack seq []

/-- SET_TIMING (R188). -/
def execSetTiming (seq : Byte) (x : TimingRecord) (s : State) : Host.Outcome State Fault Refusal :=
  .next (s.endFrame fun s => s.setTiming seq x)

/-- SET_IRQ executed (R172, R194). -/
def State.setIrq (s : State) (seq value : Byte) : State :=
  if value = 0x00#8 ∨ value = 0x01#8 then
    (s.setNotices { s.notices with irqEnabled := value == 0x01#8 }.driveIrq).ack seq []
  else s.nak seq outOfRange

/-- SET_IRQ (R194). -/
def execSetIrq (seq value : Byte) (s : State) : Host.Outcome State Fault Refusal :=
  .next (s.endFrame fun s => s.setIrq seq value)

/-! ### WRITE_REGION and READ_REGION (R189, R190) -/

/-- A configuration is stored, and WRITTEN set (R189). -/
def State.storeRegion (s : State) (r : RegionIx) (x : RegionRecord) : State :=
  s.modRegion r fun g => { g with config := RegionConfig.ofRecord x, written := true }

/-- WRITE_REGION executed (R189): index, phase, and then the checks of the record. -/
def State.writeRegion (s : State) (seq region : Byte) (x : RegionRecord) : State :=
  match regionOf region with
  | none => s.nak seq ⟨.badArgument, 1#8⟩
  | some r =>
    if (s.phase r).active then s.nak seq (s.badState r)
    else
      match firstFailing (regionChecks x) with
      | some d => s.nak seq ⟨.badArgument, d⟩
      | none => (s.storeRegion r x).ack seq []

/-- WRITE_REGION (R189). -/
def execWriteRegion (seq region : Byte) (x : RegionRecord) (s : State) :
    Host.Outcome State Fault Refusal :=
  .next (s.endFrame fun s => s.writeRegion seq region x)

/-- The 37 bytes of READ_REGION CONFIG (R190). -/
def Region.configPayload (g : Region) : List Byte := flagByte g.written :: g.config.toRecord.toBytes

/-- READ_REGION_CONFIG (R190). -/
def execReadRegionConfig (seq region : Byte) (s : State) : Host.Outcome State Fault Refusal :=
  .next (s.endFrame fun s => s.withRegion seq region fun r => s.ack seq (s.region r).configPayload)

/-- The 37 bytes of READ_REGION STATE (R190). -/
def State.statePayload (s : State) (r : RegionIx) : List Byte :=
  stateRecord (s.run r) (s.region r).life
    ⟨s.reasonFill r, s.reasonHeld r, s.staleLines r, s.parkedCount r⟩

/-- READ_REGION_STATE (R190). -/
def execReadRegionState (seq region : Byte) (s : State) : Host.Outcome State Fault Refusal :=
  .next (s.endFrame fun s => s.withRegion seq region fun r => s.ack seq (s.statePayload r))

/-! ### ENABLE_REGION, RETIRE_REGION, PUBLISH (R117, R120 to R122, R126, R191, R192) -/

/-- The lowest other active region that a region fails against (R121). -/
def State.conflict (s : State) (r : RegionIx) : Option RegionIx :=
  regionIxs.find? fun j => j != r && (s.phase j).active && configsOverlap (s.config r) (s.config j)

/-- An enable that has passed its checks is applied, or waits on the head's PASS access (R122). -/
def State.enableOrWait (s : State) (r : RegionIx) (seq : Byte) : State :=
  if s.passInto r then s.setLink { s.link with waiting := some (.enable r seq false) }
  else s.enableApply r seq

/-- ENABLE_REGION executed (R120 to R122). -/
def State.enableRegion (s : State) (seq : Byte) (r : RegionIx) : State :=
  if (s.phase r).active || !(s.region r).written then s.nak seq (s.badState r)
  else
    match s.conflict r with
    | some j => s.nak seq ⟨.badArgument, BitVec.ofNat 8 j.val⟩
    | none => s.enableOrWait r seq

/-- ENABLE_REGION (R120, R191). -/
def execEnableRegion (seq region : Byte) (s : State) : Host.Outcome State Fault Refusal :=
  .next (s.endFrame fun s => s.withRegion seq region fun r => s.enableRegion seq r).grantNext

/-- RETIRE_REGION executed, by the region's phase (R126). -/
def State.retireRegion (s : State) (seq : Byte) (r : RegionIx) : State :=
  match s.phase r with
  | .disabled => s.nak seq (s.badState r)
  | .retiring => s.ack seq []
  | .opened | .pending | .faulted => (s.retireAccept r).ack seq []

/-- RETIRE_REGION (R126, R192). -/
def execRetireRegion (seq region : Byte) (s : State) : Host.Outcome State Fault Refusal :=
  .next (s.endFrame fun s => s.withRegion seq region fun r => s.retireRegion seq r).grantNext

/-- PUBLISH executed, by the region's phase (R117). -/
def State.publishRegion (s : State) (seq : Byte) (r : RegionIx) : State :=
  if (s.phase r).working then (s.deliver r .manual).ack seq [] else s.nak seq (s.badState r)

/-- PUBLISH (R117, R192). -/
def execPublish (seq region : Byte) (s : State) : Host.Outcome State Fault Refusal :=
  .next (s.endFrame fun s => s.withRegion seq region fun r => s.publishRegion seq r).grantNext

/-! ### DROP_VIEWS and READ_VIEWS (R58, R62, R193) -/

/-- The views a DROP_VIEWS argument names: one region's, or with 0xFF all; none for another value (R193). -/
def dropTarget (which : Byte) : Option (View → Bool) :=
  if which = 0xFF#8 then some fun _ => true else (regionOf which).map fun r => fun v => v.on r

/-- A view in use is marked drop due where it passes a test (R58). -/
def View.markDrop (test : View → Bool) (v : View) : View :=
  if test v && v.inUse then { v with dropDue := true } else v

/-- Views are dropped (R58): one in use is marked, the others are removed and their banks reported. -/
def State.dropViews (s : State) (test : View → Bool) : State :=
  (s.setViews (vmap (fun _ v => v.map (View.markDrop test)) s.views)).removeViews fun _ v =>
    test v && !v.inUse

/-- DROP_VIEWS executed; the response is the number of views dropped, those in use counted (R58, log 19). -/
def State.dropViewsCommand (s : State) (seq which : Byte) : State :=
  match dropTarget which with
  | none => s.nak seq outOfRange
  | some test =>
    (s.dropViews test).ack seq [BitVec.ofNat 8 (s.viewsWhere fun _ v => test v).length]

/-- DROP_VIEWS (R58, R193). -/
def execDropViews (seq which : Byte) (s : State) : Host.Outcome State Fault Refusal :=
  .next (s.endFrame fun s => s.dropViewsCommand seq which).grantNext

/-- The view records from a start slot, four at most (R62). -/
def State.viewsPayload (s : State) (start : Nat) : List Byte :=
  ((slotIxs.drop start).take 4).flatMap fun k => viewRecord k (s.view k)

/-- READ_VIEWS (R62, R193). -/
def execReadViews (seq start : Byte) (s : State) : Host.Outcome State Fault Refusal :=
  .next
    (s.endFrame fun s =>
      if start.toNat < 32 then s.ack seq (s.viewsPayload start.toNat) else s.nak seq outOfRange)

/-! ### READ_NOTICES and READ_COUNTERS (R171, R176, R177, R194, R195) -/

/-- The payload of READ_NOTICES (R171, R194). -/
def NoticeUnit.payload (u : NoticeUnit) : List Byte :=
  let taken := u.queue.take Config.noticesPerRead
  [flagByte u.lost, BitVec.ofNat 8 taken.length, BitVec.ofNat 8 (u.queue.length - taken.length)] ++
    taken.flatMap Notice.record

/-- The Notice Unit after READ_NOTICES (R171). -/
def NoticeUnit.read (u : NoticeUnit) : NoticeUnit :=
  { u with queue := u.queue.drop Config.noticesPerRead, lost := false }.driveIrq

/-- READ_NOTICES (R171, R194). -/
def execReadNotices (seq : Byte) (s : State) : Host.Outcome State Fault Refusal :=
  .next (s.endFrame fun s => (s.setNotices s.notices.read).ack seq s.notices.payload)

/-- Bit 1 of the option byte: the clear option (R195). -/
def optClear (opts : BitVec 7) : Bool := opts.getLsbD 0

/-- The unassigned bits 7:2 of the option byte are 0 (R195). -/
def optSpare (opts : BitVec 7) : Bool := opts.extractLsb' 1 6 == 0

/-- READ_COUNTERS FIRST of a region (R176): the snapshot is taken and any clear applied. -/
def State.countersFirst (s : State) (seq : Byte) (r : RegionIx) (clear : Bool) : State :=
  let c := (s.region r).counters
  let s := s.setNotices { s.notices with snapshot := ⟨true, r, c⟩ }
  (if clear then s.modCounters r fun _ => .zero else s).ack seq c.firstPart

/-- READ_COUNTERS_FIRST (R176, R195). -/
def execReadCountersFirst (seq region : Byte) (opts : BitVec 7) (s : State) :
    Host.Outcome State Fault Refusal :=
  .next
    (s.endFrame fun s =>
      s.withRegion seq region fun r =>
        if optSpare opts then s.countersFirst seq r (optClear opts) else s.nak seq outOfRange)

/-- READ_COUNTERS REST of a region, from the snapshot (R177, R195 check 3). -/
def State.countersRest (s : State) (seq : Byte) (r : RegionIx) : State :=
  let x := s.notices.snapshot
  if x.valid && x.region == r then s.ack seq x.counters.restPart
  else s.nak seq ⟨.badArgument, if x.valid then BitVec.ofNat 8 x.region.val else 0xFE#8⟩

/-- READ_COUNTERS_REST (R177, R195). -/
def execReadCountersRest (seq region : Byte) (opts : BitVec 7) (s : State) :
    Host.Outcome State Fault Refusal :=
  .next
    (s.endFrame fun s =>
      s.withRegion seq region fun r =>
        if optSpare opts && !optClear opts then s.countersRest seq r else s.nak seq outOfRange)

/-! ### RESTART (R132, R196) -/

/-- RESTART (R132, R196): it is taken, and applied at once where no transaction is in flight. -/
def execRestart (seq : Byte) (s : State) : Host.Outcome State Fault Refusal :=
  .next
    (s.endFrame fun s => (s.setLink { s.link with waiting := some (.restart seq) }).restartDue).grantNext

end Sys2Proof.Machine
end

