-- ==== Sys2Proof/Machine/Dispatch.lean ====
section
/-! DEFINITION. The dispatch: one arm for each command, each a call of its meaning. -/

namespace Sys2Proof.Machine

def exec (i : Instr) (s : State) : Host.Outcome State Fault Refusal :=
  match i with
  | .powerOn => Sys2Proof.Machine.execPowerOn s
  | .hostPortReset => Sys2Proof.Machine.execHostPortReset s
  | .hostPortResetRelease => Sys2Proof.Machine.execHostPortResetRelease s
  | .hostRequestAccepted req => Sys2Proof.Machine.execHostRequestAccepted req s
  | .hostResponseTaken => Sys2Proof.Machine.execHostResponseTaken s
  | .publication r => Sys2Proof.Machine.execPublication r s
  | .tick => Sys2Proof.Machine.execTick s
  | .viewExpiry => Sys2Proof.Machine.execViewExpiry s
  | .parkTimeout => Sys2Proof.Machine.execParkTimeout s
  | .parkSpaceFound => Sys2Proof.Machine.execParkSpaceFound s
  | .periodTimerFire r => Sys2Proof.Machine.execPeriodTimerFire r s
  | .strobeEdge line => Sys2Proof.Machine.execStrobeEdge line s
  | .grant => Sys2Proof.Machine.execGrant s
  | .memoryAnswer answer => Sys2Proof.Machine.execMemoryAnswer answer s
  | .memoryTimeout => Sys2Proof.Machine.execMemoryTimeout s
  | .lateAnswerDiscarded => Sys2Proof.Machine.execLateAnswerDiscarded s
  | .lineCurrentRelease line => Sys2Proof.Machine.execLineCurrentRelease line s
  | .catchupTake => Sys2Proof.Machine.execCatchupTake s
  | .drainTake => Sys2Proof.Machine.execDrainTake s
  | .drainWriteRelease => Sys2Proof.Machine.execDrainWriteRelease s
  | .foldBackQueued r => Sys2Proof.Machine.execFoldBackQueued r s
  | .retirementEnd r => Sys2Proof.Machine.execRetirementEnd r s
  | .enableApplied => Sys2Proof.Machine.execEnableApplied s
  | .restartApplied => Sys2Proof.Machine.execRestartApplied s
  | .fetch clocked => Sys2Proof.Machine.execFetch clocked s
  | .commandDropped => Sys2Proof.Machine.execCommandDropped s
  | .commandFrameRejected frame => Sys2Proof.Machine.execCommandFrameRejected frame s
  | .ident seq => Sys2Proof.Machine.execIdent seq s
  | .setTiming seq timing => Sys2Proof.Machine.execSetTiming seq timing s
  | .writeRegion seq region record => Sys2Proof.Machine.execWriteRegion seq region record s
  | .readRegionConfig seq region => Sys2Proof.Machine.execReadRegionConfig seq region s
  | .readRegionState seq region => Sys2Proof.Machine.execReadRegionState seq region s
  | .enableRegion seq region => Sys2Proof.Machine.execEnableRegion seq region s
  | .retireRegion seq region => Sys2Proof.Machine.execRetireRegion seq region s
  | .publish seq region => Sys2Proof.Machine.execPublish seq region s
  | .dropViews seq which => Sys2Proof.Machine.execDropViews seq which s
  | .readViews seq start => Sys2Proof.Machine.execReadViews seq start s
  | .readNotices seq => Sys2Proof.Machine.execReadNotices seq s
  | .readCountersFirst seq region opts => Sys2Proof.Machine.execReadCountersFirst seq region opts s
  | .readCountersRest seq region opts => Sys2Proof.Machine.execReadCountersRest seq region opts s
  | .setIrq seq value => Sys2Proof.Machine.execSetIrq seq value s
  | .restart seq => Sys2Proof.Machine.execRestart seq s
  | .strobeSample pins => Sys2Proof.Machine.execStrobeSample pins s
  | .commandFrameFirstByte => Sys2Proof.Machine.execCommandFrameFirstByte s

end Sys2Proof.Machine
end

