-- ==== Sys2Proof/Safety.lean ====
section
/-! DEFINITION. The laws of the device that the statements are written in: what holds of every state of a
sound run, block by block, and what it means for a command to complete. -/

namespace Sys2Proof.Machine

/-- A command completes in a state with a property: exec answers a next state that has it. -/
def Completes (c : Instr) (s : State) (post : State → Prop) : Prop :=
  ∃ t, exec c s = Host.Outcome.next t ∧ post t

/-- A command completes with an effect and then the arbiter's grant (R156): exec answers the next state that
GRANT answers in `u`, the state with the effect applied. -/
def CompletesGranting (c : Instr) (s u : State) : Prop :=
  ∃ t, exec c s = Host.Outcome.next t ∧ exec .grant u = Host.Outcome.next t

/-- A command completes with an effect after which a head held in DECIDE is decided (R141): exec answers the
next state that follows `u`, the state with the effect applied, where the queue of `u` is left behind by a
response that is taken. -/
def CompletesDeciding (c : Instr) (s u : State) : Prop :=
  ∃ t, exec c s = Host.Outcome.next t ∧
    ∀ (gone : HostRequest) (resp : HostResponse) (d : Option Decision),
      exec .hostResponseTaken
          { u with
            host := { u.host with queue := gone :: u.host.queue, head := some ⟨.respond resp, d⟩ } } =
        Host.Outcome.next t

/-! ### What the statements are about -/

/-- The end of a command's execution: its response in the slot, the link READY, and nothing else changed
(R183, R185). -/
def State.answered (s : State) (x : LinkResponse) : State :=
  { s with link := { s.link with state := .ready, slot := some x, waiting := none } }

/-- The end of a frame at the pins: MDO is released, and nothing else changed (R179). -/
def State.frameOver (s : State) : State := { s with link := { s.link with mdo := .released } }

/-- The end of a command frame whose command is executed at once: MDO released and the response placed (R179,
R183, R185). -/
def State.replied (s : State) (x : LinkResponse) : State := s.frameOver.answered x

/-- An ACK with a payload (R185). -/
def ackOf (seq : Byte) (payload : List Byte) : LinkResponse := ⟨true, seq, 0x00#8, payload⟩

/-- A NAK with a reason code and a detail byte (R185). -/
def nakOf (seq code detail : Byte) : LinkResponse := ⟨false, seq, code, [detail]⟩

/-- A command frame is being received and is not to be discarded (R183, R184). -/
def State.Receiving (s : State) : Prop := s.link.state = .receiving ∧ s.link.discarding = false

/-- A request becomes head by a command, with `rest` behind it (R141): it is accepted into an empty queue, or
the interconnect takes the response of the request before it. -/
def HeadArrives (c : Instr) (s : State) (q : HostRequest) (rest : List HostRequest) : Prop :=
  (c = .hostRequestAccepted q ∧ q.wf = true ∧ s.host.resetAsserted = false ∧ s.host.queue = [] ∧
      rest = []) ∨
    (c = .hostResponseTaken ∧ (∃ resp, s.progress = some (.respond resp)) ∧
      ∃ gone, s.host.queue = gone :: q :: rest)

/-- The Host Bus Port with a head and what stands behind it. -/
def State.hostWith (s : State) (q : HostRequest) (rest : List HostRequest) (h : Head) : HostPort :=
  { s.host with queue := q :: rest, head := some h }

/-- The beats of a request stay within one 64-byte line (R142). -/
def inLine (q : HostRequest) : Prop := 4 * q.addr.toNat % 64 + 4 * q.beats ≤ 64

/-- The drain slot has no work left to do in this state (R97, R98): an idle slot has no eligible entry, and a
waiting drain write waits for its line. -/
def State.DrainSettled (s : State) : Prop :=
  (s.park.slot = .idle → ∀ e ∈ s.park.entries, s.eligible e = false) ∧
    ∀ k retried, s.park.slot = .waiting k retried →
      s.draftStale k.region ((s.config k.region).lineOfWord k.word) = true

/-- A notice as it is raised for a region at this moment (R166). -/
def State.noticeOf (s : State) (r : RegionIx) (k : NoticeKind) (tag : Option Tag) (detail : BitVec 16) :
    Notice :=
  ⟨k, r, (s.run r).frame, tag, detail, s.clock.tickCount⟩

/-- The Notice Unit after a notice is raised (R168, R170, R172): a kind that is neither FAULTED nor RETIRED
and is not in NOTICE_MASK leaves no trace; a full queue drops the notice and sets LOST; else the notice joins
the tail, and IRQ_N follows the interrupt enable. -/
def NoticeUnit.raised (u : NoticeUnit) (mask : BitVec 16) (n : Notice) : NoticeUnit :=
  if n.kind ≠ .faulted ∧ n.kind ≠ .retired ∧ mask.getLsbD (n.kind.code - 1) = false then u
  else if u.queue.length < 64 then { u with queue := u.queue ++ [n], irqAsserted := u.irqEnabled }
  else { u with lost := true }

/-- The byte of one lane of a word (log 12). -/
def laneOf (w : Word) (lane : Nat) : Byte := w.extractLsb' (8 * lane) 8

/-! ### Region records (R189, R197) -/

/-- An offset field is absent, all bits 0, or present with a word of a window of `words` words: bit 15 set,
bits 14:12 clear, and bits 11:0 the word (R189, R197, log 11). -/
def offsetMeets (w : BitVec 16) (words : Nat) : Prop :=
  w.toNat = 0 ∨ (0x8000 ≤ w.toNat ∧ w.toNat < 0x9000 ∧ w.toNat - 0x8000 < words)

/-- Two areas of one size share no byte. -/
def apart (a b : Word) (size : Nat) : Prop := a.toNat + size ≤ b.toNat ∨ b.toNat + size ≤ a.toNat

/-- The condition of a numbered check of WRITE_REGION, in the order of R189. -/
def meets (x : RegionRecord) : Nat → Prop
  | 2 => 1 ≤ x.lines.toNat ∧ x.lines.toNat ≤ 256
  | 3 => x.windowBase.toNat % 64 = 0 ∧ x.windowBase.toNat + x.lines.toNat * 64 ≤ 2 ^ 32
  | 4 => x.bankBBase.toNat % 64 = 0 ∧ x.bankBBase.toNat + x.lines.toNat * 64 ≤ 2 ^ 32
  | 5 => x.bankCBase.toNat % 64 = 0 ∧ x.bankCBase.toNat + x.lines.toNat * 64 ≤ 2 ^ 32
  | 6 => x.lineBase.toNat + x.lines.toNat ≤ 2048
  | 7 => x.writerTag.toNat < 16
  | 8 => x.readerMask.getLsbD x.writerTag.toNat = false
  | 9 => offsetMeets x.commitOffset (x.lines.toNat * 16)
  | 10 =>
    (0x8000 ≤ x.closeOffset.toNat ∧ x.closeOffset.toNat < 0x9000) ∨
      x.closeOffset.toNat < x.lines.toNat * 16
  | 11 =>
    offsetMeets x.stampOffset (x.lines.toNat * 16) ∧
      (x.stampOffset.toNat = 0 ∨ x.stampOffset ≠ x.commitOffset)
  | 12 =>
    x.triggers.toNat < 128 ∧ (x.triggers.toNat % 2 = 1 → 0x8000 ≤ x.commitOffset.toNat) ∧
      if x.triggers.toNat / 4 % 2 = 1 then x.triggers.toNat / 32 ≠ 0 else x.triggers.toNat / 8 = 0
  | 13 => 1 ≤ x.periodTicks.toNat ∧ x.periodTicks.toNat ≤ 1048575
  | 14 => 1 ≤ x.viewIdle.toNat
  | 15 => 1 ≤ x.viewAge.toNat ∧ x.viewAge.toNat ≤ 1048575
  | 16 => x.noticeMask.toNat < 4096
  | 17 =>
    apart x.windowBase x.bankBBase (x.lines.toNat * 64) ∧
      apart x.windowBase x.bankCBase (x.lines.toNat * 64) ∧
      apart x.bankBBase x.bankCBase (x.lines.toNat * 64)
  | _ => True

/-- WRITE_REGION accepts a record: it meets the checks 2 to 17 of R189. -/
def accepted (x : RegionRecord) : Prop := ∀ n : Nat, meets x n

/-- The word of an offset field that may be absent (R197). -/
def wordOf (w : BitVec 16) : Option Nat := if 0x8000 ≤ w.toNat then some (w.toNat - 0x8000) else none

/-- The edge of an edge code (R197). -/
def edgeOf : Nat → EdgeSelect
  | 1 => .rise
  | 2 => .fall
  | _ => .both

/-- The configuration an accepted record stores (R1, R2, R189, R197). -/
def stores (x : RegionRecord) : RegionConfig where
  windowBase := x.windowBase
  lines := x.lines.toNat
  bankBBase := x.bankBBase
  bankCBase := x.bankCBase
  lineBase := x.lineBase.toNat
  writerTag := Fin.ofNat 16 x.writerTag.toNat
  readerMask := x.readerMask
  commit := wordOf x.commitOffset
  close := if 0x8000 ≤ x.closeOffset.toNat then x.lines.toNat * 16 - 1 else x.closeOffset.toNat
  stamp := wordOf x.stampOffset
  trigWord := x.triggers.toNat % 2 = 1
  trigPeriod := x.triggers.toNat / 2 % 2 = 1
  trigStrobe :=
    if x.triggers.toNat / 4 % 2 = 1 then
      some (Fin.ofNat 4 (x.triggers.toNat / 8 % 4), edgeOf (x.triggers.toNat / 32 % 4))
    else none
  periodTicks := x.periodTicks.toNat
  viewIdle := x.viewIdle.toNat
  viewAge := x.viewAge.toNat
  noticeMask := x.noticeMask

/-! ### Enabling, restarting and publishing -/

/-- The runtime record of a region just enabled (R41). -/
def enabledRun : Runtime :=
  ⟨.opened, ⟨.live, .draft, .free⟩, 0, ⟨0, 0, 0⟩, false, false, 0, 0⟩

/-- `u` is `s` with region `r` enabled and the ACK placed, as R123 has it; the engine takes its first line where
it was idle with nothing queued (R72). -/
def State.EnabledIn (s u : State) (r : RegionIx) (seq : Byte) : Prop :=
  let c := s.config r
  u.region r =
      { s.region r with
        run := enabledRun
        life := ⟨.none, 0, .none, 0, 0, 0⟩
        timer := if c.trigPeriod then ⟨true, c.periodTicks⟩ else ⟨false, 0⟩ } ∧
    (∀ j : RegionIx, j ≠ r → u.region j = s.region j) ∧
    (∀ ix : Nat, c.lineBase ≤ ix → ix < c.lineBase + c.lines →
      (u.line ix).stale = ⟨false, true, true⟩ ∧ (u.line ix).dirty = false ∧
        (u.line ix).queued = !(u.line ix).busy) ∧
    (s.catchup.engine ≠ .idle →
      (∀ ix : Nat, c.lineBase ≤ ix → ix < c.lineBase + c.lines → (u.line ix).busy = false) ∧
        (∀ ix : Nat, ix < c.lineBase ∨ c.lineBase + c.lines ≤ ix → u.line ix = s.line ix) ∧
        u.catchup.queue =
          s.catchup.queue ++ (List.range c.lines).map (fun n => ⟨c.lineBase + n, .fill⟩) ∧
        u.catchup.engine = s.catchup.engine ∧ u.bus = s.bus) ∧
    (s.catchup.engine = .idle → s.catchup.queue = [] → 1 ≤ c.lines →
      (∀ ix : Nat, c.lineBase ≤ ix → ix < c.lineBase + c.lines →
          ((u.line ix).busy = true ↔ ix = c.lineBase)) ∧
        (∀ ix : Nat, ix < c.lineBase ∨ c.lineBase + c.lines ≤ ix → u.line ix = s.line ix) ∧
        u.catchup.queue =
          (List.range (c.lines - 1)).map (fun n => ⟨c.lineBase + 1 + n, .fill⟩) ∧
        u.catchup.engine = .reading ⟨c.lineBase, .fill, r, .bankA, .bankB⟩ false ∧
        u.bus = { s.bus with catchReq := some ⟨.read, c.windowBase, 16, c.writerTag, []⟩ }) ∧
    u.views = s.views ∧ u.park = s.park ∧ u.host = s.host ∧ u.clock = s.clock ∧
    u.strobes = s.strobes ∧ u.notices = s.notices ∧ u.link = (s.answered (ackOf seq [])).link ∧
    u.pending = s.pending

/-- The head's memory access is requested and not yet granted, and it is one of class PASS or not (R150). -/
def State.awaitsGrant (s : State) (pass : Bool) : Prop :=
  s.progress = some .waitMemory ∧ ∃ a, s.bus.hostReq = some a ∧ (a.purpose = .pass ↔ pass = true)

/-- `u` is `s` with the restart applied and its ACK placed (R133, R150, R163), before a head held in DECIDE is
decided. -/
def State.RestartedIn (s u : State) (seq : Byte) : Prop :=
  (∀ r : RegionIx,
    u.region r =
      { s.region r with
        run := ⟨.disabled, ⟨.none, .none, .none⟩, (s.run r).frame, ⟨0, 0, 0⟩, false, false, 0, 0⟩
        life := { (s.region r).life with stage := .none, foldsOutstanding := 0 }
        counters := ⟨0, 0, 0, 0, 0, 0, 0, 0, 0, 0, 0, 0, 0, false, false⟩
        timer := ⟨false, 0⟩ }) ∧
    (∀ k : Slot, u.view k = none) ∧
    (∀ ix : Nat, u.line ix = ⟨⟨false, false, false⟩, false, false, false⟩) ∧
    u.catchup.queue = [] ∧ u.catchup.engine = .idle ∧ u.park = ⟨[], .idle⟩ ∧
    u.bus.port = s.bus.port ∧ u.bus.drainReq = none ∧ u.bus.catchReq = none ∧ u.bus.share = 0 ∧
    u.bus.timeouts = 0 ∧ u.host.queue = s.host.queue ∧ u.host.resetAsserted = s.host.resetAsserted ∧
    u.host.burstSpan = 0 ∧
    ((s.progress = some .waitLine ∨ (∃ timer k, s.progress = some (.waitPark timer k)) ∨
        s.awaitsGrant false) →
      u.progress = some (.respond ⟨.waitAborted, []⟩) ∧ (s.awaitsGrant false → u.bus.hostReq = none)) ∧
    (s.awaitsGrant true → u.host.head = s.host.head ∧ u.bus.hostReq = s.bus.hostReq) ∧
    ((∃ resp, s.progress = some (.respond resp)) ∨ s.progress = some .decide ∨ s.host.head = none →
      u.host.head = s.host.head) ∧
    ((∀ a, s.bus.hostReq = some a → a.purpose ≠ .pass) → u.bus.hostReq = none) ∧
    u.clock = s.clock ∧ u.strobes = s.strobes ∧ u.notices.queue = [] ∧ u.notices.lost = false ∧
    u.notices.irqEnabled = s.notices.irqEnabled ∧ u.notices.irqAsserted = false ∧
    u.notices.snapshot = ⟨false, 0, ⟨0, 0, 0, 0, 0, 0, 0, 0, 0, 0, 0, 0, 0, false, false⟩⟩ ∧
    u.link = (s.answered (ackOf seq [])).link ∧ u.pending = s.pending

/-- Conditions (a), (b) and (c) of a publication (R32). -/
def State.DraftComplete (s : State) (r : RegionIx) : Prop :=
  let t := s.run r
  (∀ n : Nat, n < (s.config r).lines →
    (s.line ((s.config r).lineBase + n)).stale.get t.draftBank = false) ∧
    t.inFlight = 0 ∧ ∀ e ∈ s.park.entries, e.region = r → e.frameTag ≠ t.frame + 1

/-- HELD is noted for a region whose condition (d) alone fails (R33): counted and notified where the held-notice
flag is clear, with the number of the bank whose views keep it HELD; where the flag is set nothing changes. -/
def State.heldNoted (s : State) (r : RegionIx) : State :=
  let g := s.region r
  if g.run.heldNotice then s
  else
    { s with
      regions :=
        s.regions.set r.val
          { g with
            run := { g.run with heldNotice := true }
            counters := { g.counters with held := satInc g.counters.held } }
          r.isLt
      notices :=
        s.notices.raised g.config.noticeMask
          (s.noticeOf r .held none
            (match g.run.thirdBank with
              | .bankA => 0
              | .bankB => 1
              | .bankC => 2)) }

/-- Some view refers to a bank of a region (R57). -/
def State.ViewOn (s : State) (r : RegionIx) (b : Bank) : Prop :=
  ∃ (k : Slot) (v : View), s.view k = some v ∧ v.region = r ∧ v.bank = b

/-- Condition (d) of a publication (R32). -/
def State.BankAvailable (s : State) (r : RegionIx) : Prop :=
  ¬s.ViewOn r (s.run r).liveBank ∨ (s.run r).roles.get (s.run r).thirdBank = .free

/-- A trigger of the region is EMPTY (R29). -/
def State.DraftEmpty (s : State) (r : RegionIx) : Prop :=
  (s.run r).dirtyLines = 0 ∧ (s.run r).inFlight = 0 ∧
    ∀ e ∈ s.park.entries, e.region = r → e.frameTag ≠ (s.run r).frame + 1

/-! ### The Notice Unit -/

/-- The queue holds at most 64 notices (R169); IRQ_N is asserted exactly while the interrupt is enabled and
the queue holds a notice (R172); while LOST is set the queue holds a notice (R170). -/
def NoticeUnit.Sound (u : NoticeUnit) : Prop :=
  u.queue.length ≤ 64 ∧ u.irqAsserted = (u.irqEnabled && !u.queue.isEmpty) ∧
    (u.lost = true → u.queue ≠ [])

/-! ### Bank roles and frames -/

/-- Exactly one bank is LIVE and exactly one DRAFT, and the third is FREE or HELD (R22). -/
def Runtime.RolesSound (t : Runtime) : Prop :=
  t.roles.get t.liveBank = .live ∧ t.roles.get t.draftBank = .draft ∧
    (t.roles.get t.thirdBank = .free ∨ t.roles.get t.thirdBank = .held)

/-- The runtime record is in order: in DISABLED no roles and bank frames of 0 (R20); in every other phase
the roles of R22 and a LIVE bank frame of F (R25); outside PENDING both flags are clear (R20, R26, R42,
R43). -/
def Runtime.Sound (t : Runtime) : Prop :=
  (t.phase = .disabled → t.roles = ⟨.none, .none, .none⟩ ∧ t.bankFrames = ⟨0, 0, 0⟩) ∧
    (t.phase ≠ .disabled → t.RolesSound ∧ t.bankFrames.get t.liveBank = t.frame) ∧
    (t.phase ≠ .pending → t.followOn = false ∧ t.heldNotice = false)

/-- Every region's runtime record is in order. -/
def State.RolesLaw (s : State) : Prop := ∀ r : RegionIx, (s.run r).Sound

/-! ### Views -/

/-- A view is on a region in OPEN, PENDING or FAULTED (R45). -/
def Phase.Viewable (p : Phase) : Prop := p = .opened ∨ p = .pending ∨ p = .faulted

/-- A view refers to a LIVE or HELD bank of a region in OPEN, PENDING or FAULTED, and its frame at open is
that bank's frame (R23, R45). -/
def State.ViewSound (s : State) (v : View) : Prop :=
  (s.phase v.region).Viewable ∧
    ((s.run v.region).roles.get v.bank = .live ∨ (s.run v.region).roles.get v.bank = .held) ∧
    v.frameAtOpen = (s.run v.region).bankFrames.get v.bank

/-- Every view is in order, no two are of one tag on one region (R45), and some view refers to each HELD bank
(R23). -/
def State.ViewsLaw (s : State) : Prop :=
  (∀ (k : Slot) (v : View), s.view k = some v → s.ViewSound v) ∧
    (∀ (k₁ k₂ : Slot) (v₁ v₂ : View), s.view k₁ = some v₁ → s.view k₂ = some v₂ →
      v₁.tag = v₂.tag → v₁.region = v₂.region → k₁ = k₂) ∧
    ∀ (r : RegionIx) (b : Bank), (s.run r).roles.get b = .held →
      ∃ (k : Slot) (v : View), s.view k = some v ∧ v.region = r ∧ v.bank = b

/-- The lifecycle side of the views law: a retirement stage is set in RETIRING alone (R119), and an enable
that waits names a DISABLED region (R120, R122). -/
def State.LifecycleLaw (s : State) : Prop :=
  (∀ r : RegionIx, (s.region r).life.stage ≠ .none → s.phase r = .retiring) ∧
    ∀ (r : RegionIx) (seq : Byte) (o : Bool), s.link.waiting = some (.enable r seq o) →
      s.phase r = .disabled

/-! ### Queues -/

/-- The host request queue holds at most 4 requests, each one of R137, and there is a head exactly while it
holds one (R139, R140). -/
def HostPort.Sound (h : HostPort) : Prop :=
  h.queue.length ≤ 4 ∧ (∀ q ∈ h.queue, q.wf = true) ∧ (h.head = none ↔ h.queue = [])

/-- The Park Queue holds at most 8 entries, never two with the same region, word and frame tag (R88). -/
def ParkQueue.Sound (p : ParkQueue) : Prop :=
  p.entries.length ≤ 8 ∧ (p.entries.map ParkEntry.key).Nodup

/-! ### The link -/

/-- The link is in order between commands: MDO is driven exactly while a command frame is under way (R179), being
received or to be discarded, and never both (R183, R184); the link is EXECUTING exactly while a command waits
(R122, R132, R183); and in READY the slot holds a response (R183). -/
def Link.Sound (l : Link) : Prop :=
  (l.mdo = .zeros ↔ l.state = .receiving ∨ l.discarding = true) ∧
    (l.discarding = true → l.state ≠ .receiving) ∧ (l.state = .executing ↔ l.waiting ≠ none) ∧
    (l.state = .ready → l.slot ≠ none)

/-! ### Address areas -/

/-- The areas and the line range of a configuration are in the ranges of R1, and its three areas are pairwise
disjoint. -/
def RegionConfig.AreasSound (c : RegionConfig) : Prop :=
  (∀ b : Bank, (c.bankBase b).toNat % 64 = 0 ∧ (c.bankBase b).toNat + c.size ≤ 2 ^ 32) ∧
    (∀ b e : Bank, b ≠ e → bankOverlap c c b e = false) ∧ c.lineBase + c.lines ≤ 2048

/-- The areas of active regions are in order and pairwise disjoint, and so are their line ranges (R121). -/
def State.AreasLaw (s : State) : Prop :=
  (∀ r : RegionIx, (s.phase r).active = true → (s.config r).AreasSound) ∧
    ∀ r j : RegionIx, r ≠ j → (s.phase r).active = true → (s.phase j).active = true →
      configsOverlap (s.config r) (s.config j) = false

/-- What upholds the law of R121 from command to command: every stored entry has its areas in order (R3,
R120), an active region has a stored entry, and the region of an enable that waits has one that fails against
no active region (R122). -/
def State.EntriesLaw (s : State) : Prop :=
  (∀ r : RegionIx, (s.region r).written = true → (s.config r).AreasSound) ∧
    (∀ r : RegionIx, (s.phase r).active = true → (s.region r).written = true) ∧
    ∀ (r : RegionIx) (seq : Byte) (o : Bool), s.link.waiting = some (.enable r seq o) →
      (s.region r).written = true ∧ s.conflict r = none

/-! ### Host requests in a region's window -/

/-- A request arrives as head at a moment that decides it (R141, R142): no command holds decisions back, its
beats stay within one line, the areas are in order (R121), and the drain slot has no work left to do. -/
def Decides (c : Instr) (s : State) (q : HostRequest) (rest : List HostRequest) : Prop :=
  HeadArrives c s q rest ∧ s.link.waiting = none ∧ inLine q ∧ s.AreasLaw ∧ s.DrainSettled

/-- The first beat of a request lies in the window of an active region (R4, R9). -/
def State.inWindow (s : State) (q : HostRequest) (r : RegionIx) : Prop :=
  (s.phase r).active = true ∧ (s.config r).windowBase.toNat ≤ 4 * q.addr.toNat ∧
    4 * q.addr.toNat < (s.config r).windowBase.toNat + (s.config r).lines * 64

/-- The word offset of a request's first beat in a region's window (R5). -/
def RegionConfig.firstWord (c : RegionConfig) (q : HostRequest) : Nat :=
  (4 * q.addr.toNat - c.windowBase.toNat) / 4

/-- One of the beats of a window request is at a word offset that may be absent (R6). -/
def RegionConfig.hits (c : RegionConfig) (q : HostRequest) (word : Option Nat) : Prop :=
  ∃ w, word = some w ∧ c.firstWord q ≤ w ∧ w < c.firstWord q + q.beats

/-- The line-state index of a window request (R5). -/
def RegionConfig.lineHit (c : RegionConfig) (q : HostRequest) : Nat := c.lineBase + c.firstWord q / 16

/-- The address of a window request's first beat in a bank (R5). -/
def RegionConfig.bankAddr (c : RegionConfig) (b : Bank) (q : HostRequest) : Word :=
  c.bankBase b + BitVec.ofNat 32 (4 * c.firstWord q)

/-- The access of a request made at an address: its kind, beats, tag, data and strobes unchanged (R144). -/
def accessAt (q : HostRequest) (addr : Word) : Access := ⟨q.kind, addr, q.beats, q.tag, q.data⟩

/-- `x` is the value of the first row of a table whose condition holds. -/
def FirstRow {α : Type} (x : α) : List (Prop × α) → Prop
  | [] => False
  | (p, a) :: rows => (p ∧ x = a) ∨ (¬p ∧ FirstRow x rows)

/-- The checks of R11 for a window request, in their order, each with the class it gives. -/
def windowRows (c : RegionConfig) (p : Phase) (q : HostRequest) : List (Prop × HostClass) :=
  [ (p = .retiring, .refused .phase),
    (q.kind = .read ∧ q.tag ≠ c.writerTag ∧ c.readerMask.getLsbD q.tag.val = false, .refused .tag),
    (q.kind = .write ∧ q.tag ≠ c.writerTag, .refused .tag),
    (q.kind = .write ∧ p = .faulted, .refused .phase),
    (q.kind = .write ∧ c.hits q c.stamp, .refused .stamp),
    (q.kind = .write ∧ q.tag = c.writerTag ∧ (p = .opened ∨ p = .pending), .writerWrite),
    (q.kind = .read ∧ q.tag = c.writerTag ∧ p.Viewable, .writerRead),
    (q.kind = .read ∧ c.readerMask.getLsbD q.tag.val = true ∧ p.Viewable, .viewRead) ]

/-- `d` is the decision of a read of region `r` served from bank `b` (R8, R17, R140): class, region, bank,
address, the stamp beat with the frame given where the stamp word is included, and the inclusion of the close
word. -/
def State.ReadDecided (s : State) (q : HostRequest) (r : RegionIx) (cls : HostClass) (b : Bank) (frame : Word)
    (view : Option Slot) (d : Decision) : Prop :=
  let c := s.config r
  d.cls = cls ∧ d.region = some r ∧ d.phase = s.phase r ∧ d.bank = some b ∧
    d.served = (s.run r).roles.get b ∧ d.addr = c.bankAddr b q ∧
    (¬c.hits q c.stamp → d.stamp = none) ∧
    (∀ w : Nat, c.stamp = some w → c.hits q (some w) → d.stamp = some (w - c.firstWord q, frame)) ∧
    (d.close = true ↔ c.hits q (some c.close)) ∧ d.view = view

/-- A writer write that takes effect is a WORD trigger: it includes the commit word, and WORD is selected
(R108). -/
def RegionConfig.commits (c : RegionConfig) (q : HostRequest) : Prop :=
  c.trigWord = true ∧ c.hits q c.commit

/-- `u`'s regions and notices are those of `s` with region `r`'s runtime record at `base`, and then the WORD
trigger taken where it is due (R29, R30, R108). The draft is neither EMPTY nor complete, so in OPEN the region
becomes PENDING; in PENDING the follow-on flag is set, or the trigger is MERGED. -/
def State.TriggerTaken (s u : State) (r : RegionIx) (base : Runtime) (trig : Prop) : Prop :=
  let g := s.region r
  let counted : Counters := { g.counters with triggersWord := satInc g.counters.triggersWord }
  (∀ j : RegionIx, j ≠ r → u.region j = s.region j) ∧
    (¬trig → u.region r = { g with run := base } ∧ u.notices = s.notices) ∧
    (trig → s.phase r = .opened →
      u.region r =
          { g with
            run := { base with phase := .pending, followOn := false, heldNotice := false }
            counters := counted } ∧
        u.notices = s.notices) ∧
    (trig → s.phase r = .pending → g.run.followOn = false →
      u.region r = { g with run := { base with followOn := true }, counters := counted } ∧
        u.notices = s.notices) ∧
    (trig → s.phase r = .pending → g.run.followOn = true →
      u.region r =
          { g with
            run := base
            counters := { counted with merged := satInc g.counters.merged } } ∧
        u.notices = s.notices.raised g.config.noticeMask (s.noticeOf r .merged none 0))

/-- `u` is `s` with a draft write of the head issued, as R83 has it: the HOST access at the DRAFT bank's
address, the line dirty and counted, one more write in flight, and then the WORD trigger where it is due. -/
def State.IssuedIn (s u : State) (r : RegionIx) (q : HostRequest) (rest : List HostRequest) : Prop :=
  let t := s.run r
  let c := s.config r
  let ix := c.lineHit q
  (∃ d : Decision, d.cls = .writerWrite ∧ d.region = some r ∧ d.bank = some t.draftBank ∧
      d.addr = c.bankAddr t.draftBank q ∧ d.view = none ∧
      u.host = s.hostWith q rest ⟨.waitMemory, some d⟩) ∧
    u.bus = { s.bus with hostReq := some ⟨accessAt q (c.bankAddr t.draftBank q), .draftWrite r⟩ } ∧
    u.line ix = { s.line ix with dirty := true } ∧ (∀ j : Nat, j ≠ ix → u.line j = s.line j) ∧
    u.catchup.queue = s.catchup.queue ∧ u.catchup.engine = s.catchup.engine ∧
    s.TriggerTaken u r
      { t with
        inFlight := t.inFlight + 1
        dirtyLines := if (s.line ix).dirty then t.dirtyLines else t.dirtyLines + 1 }
      (c.commits q) ∧
    u.views = s.views ∧ u.park = s.park ∧ u.clock = s.clock ∧ u.strobes = s.strobes ∧
    u.link = s.link ∧ u.pending = s.pending

/-- The parked entry of a word of a region under a frame tag (R88). -/
def State.entryAt (s : State) (r : RegionIx) (word : Nat) (tag : Word) : Option ParkEntry :=
  s.park.entries.find? fun e => e.region == r && e.word == word && e.frameTag == tag

/-- The number of beats of a write that find no entry under a frame tag: k of R92. -/
def State.entriesNeeded (s : State) (r : RegionIx) (q : HostRequest) (tag : Word) : Nat :=
  (List.range q.beats).countP fun b =>
    (s.entryAt r ((s.config r).firstWord q + b) tag).isNone

/-- `u`'s Park Queue is that of `s` with the beats of a write placed under a frame tag (R91): the entries of
`s` keep their places and names, new ones follow; each beat's word holds the beat's bytes in the lanes written
and the old bytes elsewhere, with the union of the strobe sets, marked changed where its drain write is in
flight; no other entry has changed. -/
def State.PlacedIn (s u : State) (r : RegionIx) (q : HostRequest) (tag : Word) : Prop :=
  u.park.slot = s.park.slot ∧
    u.park.entries.length = s.park.entries.length + s.entriesNeeded r q tag ∧
    (∀ i : Nat, i < s.park.entries.length →
      (u.park.entries[i]?).map ParkEntry.key = (s.park.entries[i]?).map ParkEntry.key) ∧
    (∀ (b : Nat) (beat : Beat), q.data[b]? = some beat →
      ∃ e : ParkEntry, u.entryAt r ((s.config r).firstWord q + b) tag = some e ∧
        (∀ lane : Nat, lane < 4 → beat.strobes.getLsbD lane = true →
          laneOf e.data lane = laneOf beat.data lane) ∧
        (s.entryAt r ((s.config r).firstWord q + b) tag = none →
          e.strobes = beat.strobes ∧ e.changed = false) ∧
        ∀ old : ParkEntry, s.entryAt r ((s.config r).firstWord q + b) tag = some old →
          e.strobes = old.strobes ||| beat.strobes ∧
            (∀ lane : Nat, lane < 4 → beat.strobes.getLsbD lane = false →
              laneOf e.data lane = laneOf old.data lane) ∧
            (e.changed = true ↔
              old.changed = true ∨ ∃ retried, s.park.slot = .writing old.key retried)) ∧
    ∀ (j : RegionIx) (word : Nat) (t : Word),
      (j ≠ r ∨ t ≠ tag ∨ word < (s.config r).firstWord q ∨
        (s.config r).firstWord q + q.beats ≤ word) →
      u.entryAt j word t = s.entryAt j word t

/-- `u` is `s` with the head's write parked under a frame tag and answered OKAY (R91, R92): its beats placed,
then the WORD trigger where it is due, and nothing else changed. -/
def State.ParkedIn (s u : State) (r : RegionIx) (q : HostRequest) (rest : List HostRequest) (tag : Word) :
    Prop :=
  (∃ d : Decision, d.cls = .writerWrite ∧ d.region = some r ∧
      u.host = s.hostWith q rest ⟨.respond ⟨.okay, []⟩, some d⟩) ∧
    s.PlacedIn u r q tag ∧ s.TriggerTaken u r (s.run r) ((s.config r).commits q) ∧
    u.views = s.views ∧ u.catchup = s.catchup ∧ u.bus = s.bus ∧ u.clock = s.clock ∧
    u.strobes = s.strobes ∧ u.link = s.link ∧ u.pending = s.pending

/-! ### Ends of memory bus transactions -/

/-- A command completes with an effect after which an IDLE engine takes the head of the catch-up queue and the
arbiter grants (R72, R156): exec answers the next state that CATCHUP_TAKE answers in `u`. -/
def CompletesTaking (c : Instr) (s u : State) : Prop :=
  ∃ t, exec c s = Host.Outcome.next t ∧ exec .catchupTake u = Host.Outcome.next t

/-- No RESTART waits to be applied (R132). -/
def State.NoRestart (s : State) : Prop := ∀ seq : Byte, s.link.waiting ≠ some (.restart seq)

/-- A transaction of a requester is in flight, of a kind and a number of beats (R153). -/
def State.InFlight (s : State) (o : Owner) (kind : Kind) (beats : Nat) : Prop :=
  ∃ (a : Access) (timer : Nat), s.bus.port = .inFlight ⟨o, a⟩ timer ∧ a.kind = kind ∧ a.beats = beats

/-- The transaction of a requester in flight ends in failure by `c` (R160, R162): by an ERROR answer, or by its
timer, which stands at 0. `bus` is the bus then: IDLE, or EXPIRED with the timeout counted. -/
def State.FailsBy (s : State) (c : Instr) (o : Owner) (expired : Bool) (bus : MemoryBus) : Prop :=
  ∃ (a : Access) (timer : Nat), s.bus.port = .inFlight ⟨o, a⟩ timer ∧
    (c = .memoryAnswer .error ∧ expired = false ∧ bus = { s.bus with port := .idle } ∨
      c = .memoryTimeout ∧ timer = 0 ∧ expired = true ∧
        bus = { s.bus with port := .expired, timeouts := satInc s.bus.timeouts })

/-- The transaction that a dropped head left behind ends by `c`, with `bus` the bus then (R160, R164): by an answer
that R153 allows for it, OKAY or ERROR, or by its timer. -/
def State.OrphanEnds (s : State) (c : Instr) (p : HostPurpose) (bus : MemoryBus) : Prop :=
  (∃ words : List Word, c = .memoryAnswer (.okay words) ∧ words.length ≤ 16 ∧
      bus = { s.bus with port := .idle } ∧
      (s.InFlight (.host p true) .read words.length ∨
        words = [] ∧ ∃ n : Nat, s.InFlight (.host p true) .write n)) ∨
    s.FailsBy c (.host p true) false bus ∨ s.FailsBy c (.host p true) true bus

/-- The regions after "draft write done" for a HOST access that was a draft write, outside PENDING and RETIRING
(R27, R84). -/
def State.writeCounted (s : State) : HostPurpose → Vector Region 16
  | .draftWrite r =>
    s.regions.set r.val
      { s.region r with run := { s.run r with inFlight := (s.run r).inFlight - 1 } } r.isLt
  | _ => s.regions

/-- The byte of a lane after the entry of a region's word under a frame tag, if there is one, has been applied
over `base` (R96). -/
def State.parkedLane (s : State) (r : RegionIx) (word : Nat) (tag : Word) (lane : Nat) (base : Byte) : Byte :=
  match s.entryAt r word tag with
  | none => base
  | some e => if e.strobes.getLsbD lane then laneOf e.data lane else base

/-- `data` are the words of the response to a READ that memory answered OKAY with `words` (R17, R96, R145):
one for each word of memory; the stamp beat holds the stamp value; each other beat of a writer read classified
in OPEN or PENDING holds memory's bytes with those of the entries tagged F + 1 and then F + 2 over them; every
other beat is memory's. -/
def State.DataOf (s : State) (q : HostRequest) (d : Decision) (words data : List Word) : Prop :=
  data.length = words.length ∧
    ∀ (b : Nat) (w x : Word), words[b]? = some w → data[b]? = some x →
      (∀ v : Word, d.stamp = some (b, v) → x = v) ∧
        ((∀ v : Word, d.stamp ≠ some (b, v)) →
          (∀ r : RegionIx, d.cls = .writerRead → d.region = some r →
            (d.phase = .opened ∨ d.phase = .pending) →
            ∀ lane : Nat, lane < 4 →
              let word := (s.config r).firstWord q + b
              let f := (s.run r).frame
              laneOf x lane =
                s.parkedLane r word (f + 2) lane (s.parkedLane r word (f + 1) lane (laneOf w lane))) ∧
            (d.cls ≠ .writerRead ∨ d.region = none ∨ (d.phase ≠ .opened ∧ d.phase ≠ .pending) →
              x = w))

/-- `resp` is the response to a READ head whose access ends by `c` (R144): OKAY with its words, or the error
of the answer or the timeout. -/
def State.ReadResponse (s : State) (c : Instr) (q : HostRequest) (d : Decision) (resp : HostResponse) : Prop :=
  (∀ words : List Word, c = .memoryAnswer (.okay words) →
      resp.status = .okay ∧ s.DataOf q d words resp.data) ∧
    (c = .memoryAnswer .error → resp = ⟨.memoryError, []⟩) ∧
    (c = .memoryTimeout → resp = ⟨.memoryTimeout, []⟩)

/-- `roles` are the roles of a view's region once the view in slot `k` is gone (R39): a HELD bank that it was
the last to refer to becomes FREE. -/
def State.RolesAfter (s : State) (k : Slot) (v : View) (roles : PerBank Role) : Prop :=
  let old := (s.run v.region).roles
  let last : Prop := ∀ (j : Slot) (w : View), s.view j = some w → w.region = v.region → w.bank = v.bank → j = k
  (old.get v.bank = .held → last → roles = old.set .free v.bank) ∧
    (old.get v.bank ≠ .held ∨ ¬last → roles = old)

/-! ### Copies and drain writes -/

/-- `x` is the catch-up unit of `s` with one line entry replaced (R63). -/
def State.LineSet (s : State) (x : Catchup) (ix : Nat) (e : LineEntry) : Prop :=
  ∀ j : Nat, ({ s with catchup := x } : State).line j = if j = ix then e else s.line j

/-- A line-state index lies in the range of an active region (R63, R71). -/
def State.lineIn (s : State) (r : RegionIx) (ix : Nat) : Prop :=
  (s.phase r).active = true ∧ (s.config r).lineBase ≤ ix ∧ ix < (s.config r).lineBase + (s.config r).lines

/-- The address of a line in a bank (R5). -/
def RegionConfig.lineAt (c : RegionConfig) (b : Bank) (ix : Nat) : Word :=
  c.bankBase b + BitVec.ofNat 32 (64 * (ix - c.lineBase))

/-- The region of a copy is in the phase the copy was made for (R79). -/
def State.Applies (s : State) (c : Copy) : Prop :=
  c.kind = .fill ∧ (s.phase c.region = .opened ∨ s.phase c.region = .pending) ∨
    c.kind = .fold ∧ s.phase c.region = .retiring

/-- No write waits on a line (R82). -/
def State.NoneWaits (s : State) (ix : Nat) : Prop :=
  (∀ d : Decision, s.host.head = some ⟨.waitLine, some d⟩ → d.line ≠ some ix) ∧
    ∀ k retried, s.park.slot = .waiting k retried → (s.config k.region).lineBase + k.word / 16 ≠ ix

/-- An entry is eligible for drain (R88). -/
def State.Eligible (s : State) (e : ParkEntry) : Prop :=
  (s.phase e.region = .opened ∨ s.phase e.region = .pending) ∧ e.frameTag = (s.run e.region).frame + 1

/-- The line-state index of a parked word (R5). -/
def State.lineOfEntry (s : State) (e : ParkEntry) : Nat := (s.config e.region).lineBase + e.word / 16

/-- An entry's word is a word of its region's window, whose line range lies in the Line State Table (R1, R88).
-/
def State.EntryInRange (s : State) (e : ParkEntry) : Prop :=
  e.word < (s.config e.region).lines * 16 ∧ (s.config e.region).lineBase + (s.config e.region).lines ≤ 2048

/-- The drain write of an entry is held for a writer read (R98). -/
def State.HeldForRead (s : State) (e : ParkEntry) : Prop :=
  ∃ (d : Decision) (q : HostRequest), s.host.head = some ⟨.waitMemory, some d⟩ ∧ s.headRequest = some q ∧
    d.cls = .writerRead ∧ d.region = some e.region ∧ d.served = .live ∧
    (s.config e.region).hits q (some e.word)

/-- The one-beat write of an entry into its region's DRAFT bank (R98). -/
def State.drainOf (s : State) (e : ParkEntry) : Access :=
  ⟨.write, (s.config e.region).bankBase (s.run e.region).draftBank + BitVec.ofNat 32 (4 * e.word), 1,
    (s.config e.region).writerTag, [⟨e.data, e.strobes⟩]⟩

/-- `u` is `s` with the drain write of an entry issued (R83, R98): the DRAIN access, the line dirty and counted,
one more write in flight, the slot WRITING with the entry's changed mark clear. -/
def State.DrainIssuedIn (s u : State) (e : ParkEntry) (retried : Bool) : Prop :=
  let t := s.run e.region
  let ix := s.lineOfEntry e
  u.park =
      ⟨s.park.entries.map fun x => if x.key = e.key then { x with changed := false } else x,
        .writing e.key retried⟩ ∧
    u.bus = { s.bus with drainReq := some (s.drainOf e) } ∧
    s.LineSet u.catchup ix { s.line ix with dirty := true } ∧ u.catchup.queue = s.catchup.queue ∧
    u.catchup.engine = s.catchup.engine ∧
    u.regions =
      s.regions.set e.region.val
        { s.region e.region with
          run :=
            { t with
              inFlight := t.inFlight + 1
              dirtyLines := if (s.line ix).dirty then t.dirtyLines else t.dirtyLines + 1 } }
        e.region.isLt ∧
    u.views = s.views ∧ u.host = s.host ∧ u.clock = s.clock ∧ u.strobes = s.strobes ∧
    u.notices = s.notices ∧ u.link = s.link ∧ u.pending = s.pending

/-- `t` comes after a fault of a region out of `s` (R42, R59, R70, R101, R114, R125): FAULTED with its cause
and line, F, roles and counters kept, its views kept, no FILL entry and no parked word of it left, its timer
stopped, a head that waited for it answered WAIT_ABORTED, and the FAULTED notice the first one raised. -/
def State.FaultedIn (s t : State) (r : RegionIx) (cause : FaultCause) (line : Nat) : Prop :=
  t.phase r = .faulted ∧ (t.region r).life = { (s.region r).life with cause := cause, faultLine := line } ∧
    (t.run r).followOn = false ∧ (t.run r).heldNotice = false ∧ (t.run r).frame = (s.run r).frame ∧
    (t.run r).roles = (s.run r).roles ∧ (t.run r).bankFrames = (s.run r).bankFrames ∧
    t.config r = s.config r ∧ (t.region r).counters = (s.region r).counters ∧
    (t.region r).timer = ⟨false, 0⟩ ∧ (∀ k : Slot, t.view k = s.view k) ∧
    (∀ e ∈ t.catchup.queue, e.kind = .fill → (s.config r).ownsLine e.line = false) ∧
    (∀ e ∈ t.park.entries, e.region ≠ r) ∧
    (∀ d : Decision, d.region = some r →
      (s.host.head = some ⟨.waitLine, some d⟩ ∨
        ∃ timer k, s.host.head = some ⟨.waitPark timer k, some d⟩) →
      t.host.head = some ⟨.respond ⟨.waitAborted, []⟩, some d⟩) ∧
    (s.notices.queue.length < 64 →
      t.notices.queue[s.notices.queue.length]? =
        some
          (s.noticeOf r .faulted none
            (BitVec.ofNat 16 (line % 256 + if cause = .drain then 256 else 0)))) ∧
    (64 ≤ s.notices.queue.length → t.notices.lost = true)

/-- `u` is `s` with the retirement of a region ended (R130). -/
def State.RetiredIn (s u : State) (r : RegionIx) : Prop :=
  let g := s.region r
  u.region r =
      { g with
        run := ⟨.disabled, ⟨.none, .none, .none⟩, g.run.frame, ⟨0, 0, 0⟩, false, false, 0, 0⟩
        life := { g.life with stage := .none } } ∧
    (∀ j : RegionIx, j ≠ r → u.region j = s.region j) ∧
    (∀ ix : Nat,
      u.line ix =
        if g.config.ownsLine ix then ⟨⟨false, false, false⟩, false, false, false⟩ else s.line ix) ∧
    u.catchup.queue = s.catchup.queue ∧ u.catchup.engine = s.catchup.engine ∧
    u.notices =
      s.notices.raised g.config.noticeMask
        (s.noticeOf r .retired none
          (BitVec.ofNat 16 (g.life.linesFolded * 128 + min g.life.linesUnfolded 127))) ∧
    u.views = s.views ∧ u.park = s.park ∧ u.host = s.host ∧ u.bus = s.bus ∧ u.clock = s.clock ∧
    u.strobes = s.strobes ∧ u.link = s.link ∧ u.pending = s.pending

/-! ### Fold-back -/

/-- The moment of fold-back (R128): RETIRING in stage WINDING, no draft write in flight, no line busy. -/
def State.FoldReady (s : State) (r : RegionIx) : Prop :=
  s.phase r = .retiring ∧ (s.region r).life.stage = .winding ∧ (s.run r).inFlight = 0 ∧
    ∀ ix : Nat, (s.config r).ownsLine ix = true → (s.line ix).busy = false

/-- The lines that fold-back copies, in ascending order (R87, R128): those stale in bank A, unless bank A is
LIVE. -/
def State.foldLines (s : State) (r : RegionIx) : List Nat :=
  if (s.run r).liveBank = .bankA then []
  else
    ((List.range (s.config r).lines).map ((s.config r).lineBase + ·)).filter fun ix => (s.line ix).stale.a

/-- The state of a region whose fold-back is queued (R128). -/
def State.foldingRegion (s : State) (r : RegionIx) : Region :=
  { s.region r with
    life :=
      { (s.region r).life with stage := .folding, foldsOutstanding := (s.foldLines r).length } }

/-- `u` is `s` with the fold-back of a region taken where its moment has come (R128, R130): a FOLD entry for
each line and the stage FOLDING; with no line, the end of the retirement; at any other moment nothing. -/
def State.FoldBackIn (s u : State) (r : RegionIx) : Prop :=
  (¬s.FoldReady r → u = s) ∧
    (s.FoldReady r → s.foldLines r ≠ [] →
      ∃ x : Catchup,
        (∀ ix : Nat,
            ({ s with catchup := x } : State).line ix =
              if ix ∈ s.foldLines r then { s.line ix with queued := true } else s.line ix) ∧
          u =
            { s with
              catchup :=
                { x with
                  queue := s.catchup.queue ++ (s.foldLines r).map fun ix => ⟨ix, .fold⟩
                  engine := s.catchup.engine }
              regions := s.regions.set r.val (s.foldingRegion r) r.isLt }) ∧
    (s.FoldReady r → s.foldLines r = [] →
      { s with regions := s.regions.set r.val (s.foldingRegion r) r.isLt }.RetiredIn u r)

/-- The engine is not idle over a queue that holds entries (R72). -/
def Catchup.Taken (x : Catchup) : Prop := x.engine ≠ .idle ∨ x.queue = []

/-! ### What waits -/

/-- A head in WAIT_LINE or WAIT_PARK, with its decision (R140). -/
def State.HeadWaits (s : State) (d : Option Decision) : Prop :=
  s.host.head = some ⟨.waitLine, d⟩ ∨ ∃ timer k, s.host.head = some ⟨.waitPark timer k, d⟩

/-- A head in WAIT_LINE or WAIT_PARK is served by no view: it is a writer write (R140). -/
def State.NoViewWaits (s : State) : Prop := ∀ d : Decision, s.HeadWaits (some d) → d.view = none

/-- What waits is in order: a command waits only while the link is EXECUTING (R183); a head in WAIT_LINE or
WAIT_PARK is a writer write in the window of a region in OPEN or PENDING (R140, R85, R95); every parked word
is one of a window of a region in OPEN or PENDING (R88, R101); and a waiting drain slot names a parked word
(R97, R101). -/
def State.WaitsLaw (s : State) : Prop :=
  (s.link.waiting ≠ none → s.link.state = .executing) ∧
    (∀ dec : Option Decision, s.HeadWaits dec →
      ∃ (q : HostRequest) (rest : List HostRequest) (d : Decision) (r : RegionIx),
        s.host.queue = q :: rest ∧ dec = some d ∧ d.cls = .writerWrite ∧ d.region = some r ∧
          d.view = none ∧ (s.phase r = .opened ∨ s.phase r = .pending) ∧ s.inWindow q r ∧ inLine q) ∧
    (∀ e ∈ s.park.entries, (s.phase e.region = .opened ∨ s.phase e.region = .pending) ∧ s.EntryInRange e) ∧
    ∀ k retried, s.park.slot = .waiting k retried → ∃ e ∈ s.park.entries, e.key = k

/-! ### The time base -/

/-- Nothing of the present instant is still to be taken (log 5): no edge and no tick is due, and no view, period
timer, wait timer or memory timer has an expiry to be taken. -/
def State.Settled (s : State) : Prop :=
  (∀ i : Fin 4, (s.strobes.lines.get i).due = false) ∧ s.clock.tickDue = false ∧
    (∀ (k : Slot) (v : View), s.view k = some v → v.inUse = false → v.idle ≠ 0 ∧ v.age ≠ 0) ∧
    (∀ r : RegionIx, (s.region r).timer.running = true → (s.region r).timer.remaining ≠ 0) ∧
    (∀ k : Nat, s.progress ≠ some (.waitPark 0 k)) ∧ ∀ txn : Txn, s.bus.port ≠ .inFlight txn 0

/-- A region selects an edge of a strobe line (R113). -/
def RegionConfig.Selects (c : RegionConfig) (line : Fin 4) (rising : Bool) : Prop :=
  ∃ e : EdgeSelect, c.trigStrobe = some (line, e) ∧
    (e = .both ∨ e = .rise ∧ rising = true ∨ e = .fall ∧ rising = false)

end Sys2Proof.Machine
end

