-- ==== Sys2Proof/Certificates/Slice0/Obligations.lean ====
section
/-! DEFINITION. The statements for the provers: what each command does, what every step keeps, and the laws of
the whole part. -/

open Sys2Proof Sys2Proof.Machine

/-! ### The queue of commands and the whole part -/

/-- One step executes the command at the front of the queue on the state with the queue's rest; with an empty
queue the part idles. The queue is the model's own (log 1). -/
def Obligations.StepRunsFront : Prop :=
  ∀ (c : Instr) (rest : List Instr) (s : State),
    step { s with pending := c :: rest } = exec c { s with pending := rest } ∧
      step { s with pending := [] } = .next { s with pending := [] }

/-- No command touches the queue of the commands that wait. The queue is the model's own (log 1). -/
def Obligations.QueueUntouched : Prop :=
  ∀ (c : Instr) (s t : State), exec c s = .next t → t.pending = s.pending

/-- POWER_ON leaves every block in its power-on state: R3, R21, R46, R64, R67, R71, R102, R104, R105, R114,
R119, R142, R152, R165, R173, R174, R175, R178, R183. The level of HRST_N (log 16) and the strobe lines' level
before the first sample (log 7) are the model's choices. -/
def Obligations.PowerOnState : Prop :=
  ∀ s : State, Completes .powerOn s fun t =>
    (∀ r : RegionIx,
      (t.region r).written = false ∧ (t.config r).toRecord.toBytes = List.replicate 36 0x00#8 ∧
        (t.config r).commit = none ∧ (t.config r).stamp = none ∧ (t.config r).trigStrobe = none ∧
        t.run r = ⟨.disabled, ⟨.none, .none, .none⟩, 0, ⟨0, 0, 0⟩, false, false, 0, 0⟩ ∧
        (t.region r).life = ⟨.none, 0, .none, 0, 0, 0⟩ ∧
        (t.region r).counters = ⟨0, 0, 0, 0, 0, 0, 0, 0, 0, 0, 0, 0, 0, false, false⟩ ∧
        (t.region r).timer = ⟨false, 0⟩) ∧
      (∀ k : Slot, t.view k = none) ∧
      (∀ ix : Nat, t.line ix = ⟨⟨false, false, false⟩, false, false, false⟩) ∧
      t.catchup.queue = [] ∧ t.catchup.engine = .idle ∧ t.park = ⟨[], .idle⟩ ∧
      t.host = ⟨[], none, s.host.resetAsserted, 0⟩ ∧ t.bus = ⟨.idle, none, none, none, 0, 0⟩ ∧
      t.clock = ⟨⟨100, 1000, 100, 4, Vector.replicate 4 .f0⟩, 0, false, 0⟩ ∧
      (∀ i : Fin 4, (t.strobes.lines.get i).run = 0 ∧ (t.strobes.lines.get i).sampled = false) ∧
      t.notices.queue = [] ∧ t.notices.lost = false ∧ t.notices.irqEnabled = false ∧
      t.notices.irqAsserted = false ∧ t.notices.snapshot.valid = false ∧
      t.link.state = .idle ∧ t.link.slot = none ∧ t.link.dropped = 0 ∧ t.pending = s.pending

/-- The laws that the steps keep hold right after power-on. -/
def Obligations.LawsAtReset : Prop :=
  State.reset.notices.Sound ∧ State.reset.RolesLaw ∧ State.reset.LifecycleLaw ∧ State.reset.ViewsLaw ∧
    State.reset.host.Sound ∧ State.reset.park.Sound ∧ State.reset.AreasLaw ∧ State.reset.EntriesLaw ∧
    State.reset.WaitsLaw ∧ State.reset.link.Sound

/-! ### What every step keeps -/

/-- Every step keeps the notice queue within its 64 places, IRQ_N asserted exactly while the interrupt is
enabled and the queue holds a notice, and a notice in the queue while LOST is set (R169, R170, R172). -/
def Obligations.NoticeLawsKept : Prop :=
  ∀ s t : State, s.notices.Sound → step s = .next t → t.notices.Sound

/-- Every step keeps each region's bank roles and frames in order: one LIVE, one DRAFT and a FREE or HELD bank
while it is not DISABLED, none of them while it is; the LIVE bank's frame is F; the flags are clear outside
PENDING (R20, R22, R25, R26). -/
def Obligations.RolesLawKept : Prop :=
  ∀ s t : State, s.RolesLaw → step s = .next t → t.RolesLaw

/-- Every step keeps the law of the views: a view refers to a LIVE or HELD bank, never to a DRAFT one, and keeps
that bank's frame; a bank is HELD only while a view refers to it; no tag has two views on one region (R23,
R45). The roles and the lifecycle side of the law are kept with it. -/
def Obligations.ViewsLawKept : Prop :=
  ∀ s t : State, s.RolesLaw → s.LifecycleLaw → s.ViewsLaw → step s = .next t →
    t.RolesLaw ∧ t.LifecycleLaw ∧ t.ViewsLaw

/-- Every step keeps the host request queue within its 4 places, each request as R137 has it, with a head
exactly while it holds a request; and the Park Queue within its 8 places, with no two entries of the same
region, word and frame tag. And what waits stays in order: a command waits only in EXECUTING; a head in
WAIT_LINE or WAIT_PARK is a writer write, served by no view, in the window of a region in OPEN or PENDING;
every parked word is one of the window of such a region; a waiting drain slot names a parked word. The link
stays in order: MDO is driven exactly while a command frame is under way, it is EXECUTING exactly while a
command waits, and in READY the slot holds a response (R85, R88, R95, R97, R101, R139, R140, R179, R183). -/
def Obligations.QueueLawsKept : Prop :=
  (∀ s t : State, s.host.Sound → s.park.Sound → step s = .next t → t.host.Sound ∧ t.park.Sound) ∧
    (∀ s t : State, s.AreasLaw → s.EntriesLaw → s.LifecycleLaw → s.host.Sound → s.park.Sound →
      s.WaitsLaw → step s = .next t → t.WaitsLaw) ∧
    ∀ s t : State, s.link.Sound → step s = .next t → t.link.Sound

/-- Every step keeps the windows, shadow areas and line ranges of any two regions that are not DISABLED
disjoint (R121). What is stored for the regions, and the enable that waits, are kept in order with it. -/
def Obligations.AreasLawKept : Prop :=
  ∀ s t : State, s.AreasLaw → s.EntriesLaw → step s = .next t → t.AreasLaw ∧ t.EntriesLaw

/-- A port that is EXPIRED stays EXPIRED under every command but the late answer and power-on. The late answer
is discarded and reaches no requester: the port becomes IDLE and a grant follows. Outside EXPIRED memory owes no
late answer, and nothing changes (R161; the last is the model's choice, log 2). -/
def Obligations.PortHeldUntilLateAnswer : Prop :=
  (∀ (c : Instr) (s t : State), s.bus.port = .expired → c ≠ .lateAnswerDiscarded → c ≠ .powerOn →
    exec c s = .next t → t.bus.port = .expired) ∧
    (∀ s : State, s.bus.port = .expired →
      CompletesGranting .lateAnswerDiscarded s { s with bus := { s.bus with port := .idle } }) ∧
    ∀ s : State, s.bus.port ≠ .expired → exec .lateAnswerDiscarded s = .next s

/-- A region's configuration and WRITTEN flag change by power-on and by a WRITE_REGION of that region in
DISABLED alone (R3). -/
def Obligations.ConfigurationFixed : Prop :=
  ∀ (c : Instr) (s t : State) (r : RegionIx), exec c s = .next t → c ≠ .powerOn →
    (t.config r = s.config r ∧ (t.region r).written = (s.region r).written) ∨
      ((∃ seq region record, c = .writeRegion seq region record ∧ region.toNat = r.val) ∧
        s.phase r = .disabled)

/-- A HOST access that a decision brings to the memory bus keeps out of the banks of every active region whose
writer the tag is not, if it writes; and it enters a shadow area of an active region only as the access of a
request in that region's own window (R9, R10, R11). -/
def Obligations.WriterIsolation : Prop :=
  ∀ (c : Instr) (s t : State) (q : HostRequest) (rest : List HostRequest) (a : Access) (r : RegionIx),
    s.AreasLaw → HeadArrives c s q rest → exec c s = .next t →
    s.bus.hostReq = none → s.bus.port.holdsHead = false →
    ((∃ p, t.bus.hostReq = some ⟨a, p⟩) ∨ ∃ p timer, t.bus.port = .inFlight ⟨.host p false, a⟩ timer) →
    (s.phase r).active = true →
    ∀ beat : Nat, beat < a.beats →
      (a.kind = .write → a.tag ≠ (s.config r).writerTag →
          (s.config r).inAreas (a.addr.toNat + 4 * beat) = false) ∧
        (((s.config r).inBank .bankB (a.addr.toNat + 4 * beat) = true ∨
            (s.config r).inBank .bankC (a.addr.toNat + 4 * beat) = true) →
          (s.config r).inBank .bankA (4 * q.addr.toNat + 4 * beat) = true)

/-! ### Frames of the management link -/

/-- The CRC-8 of a list of bytes is the remainder of its polynomial, shifted up by eight bits, under
x^8 + x^2 + x + 1 over the field of two elements, bytes in the order they travel and each most significant bit
first. Every command frame and every response ends in it. The frame of IDENT with sequence 5 is the worked
example (R180). -/
def Obligations.CrcIsRemainder : Prop :=
  (∀ l : List Byte,
    (l.foldl
          (fun (p : Polynomial (ZMod 2)) b =>
            p * Polynomial.X ^ 8 + ∑ i ∈ Finset.range 8, if b.getLsbD i then Polynomial.X ^ i else 0)
          0 *
        Polynomial.X ^ 8) %ₘ
        (Polynomial.X ^ 8 + Polynomial.X ^ 2 + Polynomial.X + 1) =
      ∑ i ∈ Finset.range 8, if (crc8 l).getLsbD i then Polynomial.X ^ i else 0) ∧
    (∀ (i : Instr) (frame : List Byte), encodeFrame i = some frame →
      ∃ body, frame = body ++ [crc8 body]) ∧
    (∀ (x : LinkResponse) (dropped : Nat), ∃ body, x.bytes dropped = 0x5A#8 :: (body ++ [crc8 body])) ∧
    crc8 [0x01#8] = 0x07#8 ∧ crc8 [0x01#8, 0x05#8] = 0x0E#8 ∧ crc8 [0x01#8, 0x05#8, 0x00#8] = 0x2A#8 ∧
    encodeFrame (.ident 0x05#8) = some [0x01#8, 0x05#8, 0x00#8, 0x2A#8]

/-- The frame of every link command passes the frame checks and reads back as that command, with every operand
at every value (R181, R185, R186). -/
def Obligations.FrameRoundTrip : Prop :=
  ∀ (i : Instr) (frame : List Byte), encodeFrame i = some frame → decodeFrame frame = .ok i

/-- A command frame that fails a frame check is answered with the NAK of the first check that fails, in the
order of R185, and changes nothing but the link. The NAK of an unassigned READ_REGION part is R190's; that it
comes as this command is the model's choice (log 10). -/
def Obligations.FrameRejected : Prop :=
  ∀ (frame : List Byte) (s : State), commandFrameWf frame = true → s.Receiving →
    let n := frame.length
    let len := (byteAt frame 2).toNat
    let nakked (code detail : Byte) : Prop :=
      exec (.commandFrameRejected frame) s = .next (s.replied (nakOf (byteAt frame 1) code detail))
    let lengthBad : Prop := n < 4 ∨ 48 < len ∨ n ≠ 4 + len
    let crcBad : Prop := byteAt frame (n - 1) ≠ crc8 (frame.take (n - 1))
    (lengthBad → nakked 1#8 (BitVec.ofNat 8 (min n 255))) ∧
      (¬lengthBad → crcBad → nakked 2#8 (crc8 (frame.take (n - 1)))) ∧
      (¬lengthBad → ¬crcBad → (∀ c : CommandCode, c.byte ≠ byteAt frame 0) → nakked 3#8 0x00#8) ∧
      ∀ c : CommandCode, ¬lengthBad → ¬crcBad → c.byte = byteAt frame 0 →
        (len ≠ c.payloadLength → nakked 1#8 (BitVec.ofNat 8 n)) ∧
          (len = c.payloadLength → c = .readRegion → 2 ≤ (byteAt frame 4).toNat → nakked 4#8 0xFF#8)

/-- The first byte of a command frame puts an IDLE or READY link in RECEIVING and marks the frame to be
discarded in EXECUTING, and MDO carries 0x00 for every byte of it; the end of a discarded frame releases MDO
and is counted up to 255, and leaves slot and state as they stood; with no such frame nothing ends, which is
the model's choice (R179, R183, R184, log 9). -/
def Obligations.FramesTakenAndDropped : Prop :=
  (∀ s : State, s.link.discarding = false → (s.link.state = .idle ∨ s.link.state = .ready) →
      exec .commandFrameFirstByte s =
        .next { s with link := { s.link with state := .receiving, mdo := .zeros } }) ∧
    (∀ s : State, s.link.discarding = false → s.link.state = .executing →
      exec .commandFrameFirstByte s =
        .next { s with link := { s.link with discarding := true, mdo := .zeros } }) ∧
    (∀ s : State, s.link.discarding = true →
      exec .commandDropped s =
        .next
          { s with
            link :=
              { s.link with
                discarding := false
                dropped := min (s.link.dropped + 1) 255
                mdo := .released } }) ∧
    ∀ s : State, s.link.discarding = false → exec .commandDropped s = .next s

/-- A FETCH in READY clocks out the response with its echo, reason, dropped count, length, payload and CRC,
and zeros after it; the dropped count is cleared by a complete one alone. In IDLE and EXECUTING it clocks out
zeros. Its end releases MDO (R179), and it changes neither slot nor state (R182). The record of the bytes
driven is the model's own (log 9). No FETCH frame comes within a command frame: the model's choice (log 9). -/
def Obligations.FetchResponse : Prop :=
  (∀ (clocked : Nat) (s : State) (x : LinkResponse), s.link.discarding = false → s.link.state = .ready →
      s.link.slot = some x →
      let head : List Byte :=
        [if x.ack then 0x00#8 else 0x01#8, x.seq, x.reason, BitVec.ofNat 8 s.link.dropped,
          BitVec.ofNat 8 x.payload.length]
      let sent : List Byte := [0x5A#8] ++ head ++ x.payload ++ [crc8 (head ++ x.payload)]
      Completes (.fetch clocked) s fun t =>
        ∃ bytes : List Byte, bytes.length = clocked ∧
          (∀ i : Nat, i < clocked → byteAt bytes i = byteAt sent i) ∧
          t = { s with
            link := { s.link with
              mdo := .released
              fetched := bytes
              dropped := if 7 + x.payload.length ≤ clocked then 0 else s.link.dropped } }) ∧
    ∀ (clocked : Nat) (s : State), s.link.discarding = false →
      (s.link.state = .idle ∨ s.link.state = .executing) →
      exec (.fetch clocked) s =
        .next
          { s with link := { s.link with mdo := .released, fetched := List.replicate clocked 0x00#8 } }

/-- A NAK leaves every block as it stood: after any link command that is answered NAK, nothing but the link has
changed (R185). No grant is outstanding before it, and no command waits: one waits only in EXECUTING (R183,
QueueLawsKept). -/
def Obligations.NakLeavesBlocks : Prop :=
  ∀ (c : Instr) (s t : State) (x : LinkResponse),
    (c.linkParts.isSome = true ∨ ∃ frame, c = .commandFrameRejected frame) → s.Receiving →
    s.link.waiting = none → s.grantable = false → exec c s = .next t → t.link.state = .ready →
    t.link.slot = some x → x.ack = false → t = { s with link := t.link }

/-! ### The commands that name no region -/

/-- IDENT answers its 32 bytes and changes nothing but the link (R187). -/
def Obligations.IdentReports : Prop :=
  ∀ (seq : Byte) (s : State), s.Receiving →
    let c := s.clock.timing
    ∃ p : List Byte,
      exec (.ident seq) s = .next (s.replied (ackOf seq p)) ∧ p.length = 32 ∧
        p.take 12 = [0x03#8, 0x16#8, 0x01#8, 16#8, 16#8, 0x08#8, 0x00#8, 32#8, 8#8, 64#8, 4#8, 48#8] ∧
        field16 p 12 = BitVec.ofNat 16 c.tickDiv ∧ field16 p 14 = BitVec.ofNat 16 c.holdWait ∧
        field16 p 16 = BitVec.ofNat 16 c.memoryWait ∧ byteAt p 18 = BitVec.ofNat 8 c.share ∧
        (∀ i : Fin 4, Filter.ofBits ((byteAt p 19).extractLsb' (2 * i.val) 2) = c.filters.get i) ∧
        field32 p 20 = s.host.burstSpan ∧ field32 p 24 = s.bus.timeouts ∧
        byteAt p 28 =
          (match s.bus.port with
            | .idle => 0#8
            | .inFlight _ _ => 1#8
            | .expired => 2#8) ∧
        (byteAt p 29 = 1#8 ↔ s.notices.irqEnabled = true) ∧ (byteAt p 29).toNat ≤ 1 ∧
        (byteAt p 30 = 1#8 ↔ s.notices.lost = true) ∧ (byteAt p 30).toNat ≤ 1 ∧
        byteAt p 31 = BitVec.ofNat 8 s.notices.queue.length

/-- SET_TIMING stores all settings at once with the prescaler at 0, or is answered NAK with the detail of the
first field out of range and changes no setting (R188). A tick that is due keeps due: the model's choice (log
5). -/
def Obligations.TimingStored : Prop :=
  ∀ (seq : Byte) (x : TimingRecord) (s : State), s.Receiving →
    let nakked (detail : Byte) : Prop :=
      exec (.setTiming seq x) s = .next (s.replied (nakOf seq 4#8 detail))
    let divOk : Prop := 1 ≤ x.tickDiv.toNat ∧ x.tickDiv.toNat ≤ 4096
    let holdOk : Prop := 1 ≤ x.holdWait.toNat
    let memoryOk : Prop := 1 ≤ x.memoryWait.toNat
    let shareOk : Prop := 1 ≤ x.share.toNat ∧ x.share.toNat ≤ 15
    (¬divOk → nakked 1#8) ∧ (divOk → ¬holdOk → nakked 2#8) ∧
      (divOk → holdOk → ¬memoryOk → nakked 3#8) ∧
      (divOk → holdOk → memoryOk → ¬shareOk → nakked 4#8) ∧
      (divOk → holdOk → memoryOk → shareOk →
        ∃ filters : Vector Filter 4,
          (∀ i : Fin 4,
            (filters.get i).count =
              ([0, 4, 16, 64].getD (x.filters.toNat / 4 ^ i.val % 4) 0)) ∧
            exec (.setTiming seq x) s =
              .next
                ({ s with
                    clock :=
                      { s.clock with
                        timing :=
                          ⟨x.tickDiv.toNat, x.holdWait.toNat, x.memoryWait.toNat, x.share.toNat, filters⟩
                        prescaler := 0 } }.replied
                  (ackOf seq [])))

/-- SET_IRQ sets the interrupt enable and drives IRQ_N by it and the queue; any argument but 0 and 1 is answered
NAK (R172, R194). -/
def Obligations.InterruptSet : Prop :=
  ∀ (seq value : Byte) (s : State), s.Receiving →
    (value = 0x00#8 →
        exec (.setIrq seq value) s =
          .next
            ({ s with notices := { s.notices with irqEnabled := false, irqAsserted := false } }.replied
              (ackOf seq []))) ∧
      (value = 0x01#8 →
        exec (.setIrq seq value) s =
          .next
            ({ s with
                notices :=
                  { s.notices with
                    irqEnabled := true
                    irqAsserted := decide (s.notices.queue ≠ []) } }.replied
              (ackOf seq []))) ∧
      (value ≠ 0x00#8 → value ≠ 0x01#8 →
        exec (.setIrq seq value) s = .next (s.replied (nakOf seq 4#8 0xFF#8)))

/-- READ_NOTICES takes the oldest four notices, or all when there are fewer, into the response behind a header
of LOST, the number returned and the number left; it clears LOST and drives IRQ_N. Each record has the layout of
R198 (R171, R194). -/
def Obligations.NoticesTaken : Prop :=
  ∀ (seq : Byte) (s : State), s.Receiving →
    let q := s.notices.queue
    let n := min q.length 4
    ∃ p : List Byte,
      exec (.readNotices seq) s =
          .next
            ({ s with
                notices :=
                  { s.notices with
                    queue := q.drop 4
                    lost := false
                    irqAsserted := s.notices.irqEnabled && decide (q.drop 4 ≠ []) } }.replied
              (ackOf seq p)) ∧
        p.length = 3 + 11 * n ∧ byteAt p 0 = (if s.notices.lost then 1#8 else 0#8) ∧
        byteAt p 1 = BitVec.ofNat 8 n ∧ byteAt p 2 = BitVec.ofNat 8 (q.length - n) ∧
        ∀ (i : Nat) (x : Notice), i < n → q[i]? = some x →
          (byteAt p (3 + 11 * i)).extractLsb' 4 4 = BitVec.ofNat 4 x.kind.code ∧
            (byteAt p (3 + 11 * i)).extractLsb' 0 4 = BitVec.ofNat 4 x.region.val ∧
            (match x.tag with
              | some tag => (byteAt p (4 + 11 * i)).extractLsb' 0 4 = BitVec.ofNat 4 tag.val
              | none => byteAt p (4 + 11 * i) = x.detail.extractLsb' 8 8) ∧
            byteAt p (5 + 11 * i) = x.detail.extractLsb' 0 8 ∧ field32 p (6 + 11 * i) = x.frame ∧
            field32 p (10 + 11 * i) = x.stamp

/-- READ_VIEWS returns one record for each slot from the start slot on, four at most and never past slot 31, and
changes nothing; a start above 31 is answered NAK (R62, R193, R199). -/
def Obligations.ViewsListed : Prop :=
  ∀ (seq start : Byte) (s : State), s.Receiving →
    (32 ≤ start.toNat → exec (.readViews seq start) s = .next (s.replied (nakOf seq 4#8 0xFF#8))) ∧
      (start.toNat < 32 →
        ∃ p : List Byte,
          exec (.readViews seq start) s = .next (s.replied (ackOf seq p)) ∧
            p.length = 12 * min 4 (32 - start.toNat) ∧
            ∀ (i : Nat) (k : Slot), i < min 4 (32 - start.toNat) → k.val = start.toNat + i →
              (byteAt p (12 * i)).extractLsb' 0 5 = BitVec.ofNat 5 k.val ∧
                (s.view k = none →
                  (byteAt p (12 * i)).extractLsb' 5 3 = 0 ∧
                    ∀ j : Nat, 1 ≤ j → j < 12 → byteAt p (12 * i + j) = 0x00#8) ∧
                ∀ v : View, s.view k = some v →
                  (byteAt p (12 * i)).getLsbD 7 = true ∧ (byteAt p (12 * i)).getLsbD 6 = v.inUse ∧
                    (byteAt p (12 * i + 1)).extractLsb' 4 4 = BitVec.ofNat 4 v.tag.val ∧
                    (byteAt p (12 * i + 1)).extractLsb' 0 4 = BitVec.ofNat 4 v.region.val ∧
                    byteAt p (12 * i + 2) =
                      (match v.bank with
                        | .bankA => 0#8
                        | .bankB => 1#8
                        | .bankC => 2#8) ∧
                    field32 p (12 * i + 3) = v.frameAtOpen ∧
                    field16 p (12 * i + 7) = BitVec.ofNat 16 v.idle ∧
                    field24 p (12 * i + 9) = BitVec.ofNat 24 v.age)

/-! ### The commands that name a region -/

/-- WRITE_REGION is answered NAK by the first check of R189 that fails, the phase checked after the index, and
changes nothing then; a record that meets them all is stored whole with WRITTEN set, an absent offset and a
default CLOSE_OFFSET as R2 has them, and nothing else but the link changes. That an absent offset with offset
bits set fails its check is the model's choice (log 11). -/
def Obligations.RegionWritten : Prop :=
  ∀ (seq region : Byte) (x : RegionRecord) (s : State), s.Receiving →
    let nakked (code detail : Byte) : Prop :=
      exec (.writeRegion seq region x) s = .next (s.replied (nakOf seq code detail))
    (16 ≤ region.toNat → nakked 4#8 1#8) ∧
      ∀ r : RegionIx, region.toNat = r.val →
        (s.phase r ≠ .disabled → nakked 5#8 (s.phase r).code) ∧
          (s.phase r = .disabled →
            (∀ d : Nat, 2 ≤ d → d ≤ 17 → (∀ e : Nat, 2 ≤ e → e < d → meets x e) → ¬meets x d →
                nakked 4#8 (BitVec.ofNat 8 d)) ∧
              (accepted x →
                exec (.writeRegion seq region x) s =
                  .next
                    ({ s with
                        regions :=
                          s.regions.set r.val { s.region r with config := stores x, written := true }
                            r.isLt }.replied
                      (ackOf seq []))))

/-- READ_REGION CONFIG answers the WRITTEN flag and the region record and changes nothing but the link; after
WRITE_REGION has stored a record it returns that record, a default CLOSE_OFFSET as the number of the window's
last word (R2, R190, R197). -/
def Obligations.ConfigurationReadBack : Prop :=
  ∀ (seq region : Byte) (s : State), s.Receiving →
    (16 ≤ region.toNat →
        exec (.readRegionConfig seq region) s = .next (s.replied (nakOf seq 4#8 0xFF#8))) ∧
      ∀ r : RegionIx, region.toNat = r.val →
        (∃ p : List Byte,
            exec (.readRegionConfig seq region) s = .next (s.replied (ackOf seq p)) ∧ p.length = 37 ∧
              (byteAt p 0 = if (s.region r).written then 1#8 else 0#8)) ∧
          ∀ x : RegionRecord, accepted x → (s.region r).written = true → s.config r = stores x →
            exec (.readRegionConfig seq region) s =
              .next
                (s.replied
                  (ackOf seq
                    (1#8 ::
                      { x with
                          closeOffset :=
                            if 0x8000 ≤ x.closeOffset.toNat then
                              BitVec.ofNat 16 (x.lines.toNat * 16 - 1)
                            else x.closeOffset }.toBytes)))

/-- READ_REGION STATE answers the 37 bytes of the state record and changes nothing but the link: the runtime
record, the pending reasons computed from the publication conditions, the stale-line count of R65, the parked
count of R89 and the Lifecycle record (R33, R190, R197). -/
def Obligations.StateReadOut : Prop :=
  ∀ (seq region : Byte) (s : State), s.Receiving →
    (16 ≤ region.toNat →
        exec (.readRegionState seq region) s = .next (s.replied (nakOf seq 4#8 0xFF#8))) ∧
      ∀ r : RegionIx, region.toNat = r.val →
        let t := s.run r
        let c := s.config r
        let life := (s.region r).life
        ∃ p : List Byte,
          exec (.readRegionState seq region) s = .next (s.replied (ackOf seq p)) ∧ p.length = 37 ∧
            byteAt p 0 = t.phase.code ∧
            ((byteAt p 1).getLsbD 0 = true ↔ t.phase = .pending ∧ ¬s.DraftComplete r) ∧
            ((byteAt p 1).getLsbD 1 = true ↔ t.phase = .pending ∧ ¬s.BankAvailable r) ∧
            byteAt p 2 = t.roles.a.code ∧ byteAt p 3 = t.roles.b.code ∧ byteAt p 4 = t.roles.c.code ∧
            (byteAt p 5).getLsbD 0 = t.followOn ∧ (byteAt p 5).getLsbD 1 = t.heldNotice ∧
            field32 p 6 = t.frame ∧ field32 p 10 = t.bankFrames.a ∧ field32 p 14 = t.bankFrames.b ∧
            field32 p 18 = t.bankFrames.c ∧ byteAt p 22 = BitVec.ofNat 8 t.inFlight ∧
            field16 p 23 = BitVec.ofNat 16 t.dirtyLines ∧
            field16 p 25 =
              BitVec.ofNat 16
                (if t.phase = .disabled then 0
                  else
                    (List.range c.lines).countP fun n =>
                      (s.line (c.lineBase + n)).stale.get
                        (if t.phase = .retiring then .bankA else t.draftBank)) ∧
            byteAt p 27 = BitVec.ofNat 8 (s.park.entries.countP fun e => e.region == r) ∧
            byteAt p 28 = life.cause.code ∧ byteAt p 29 = BitVec.ofNat 8 life.faultLine ∧
            byteAt p 30 = life.stage.code ∧ field16 p 31 = BitVec.ofNat 16 life.foldsOutstanding ∧
            field16 p 33 = BitVec.ofNat 16 life.linesFolded ∧
            field16 p 35 = BitVec.ofNat 16 life.linesUnfolded

/-- ENABLE_REGION is answered NAK for an index above 15, for a region that is active or not WRITTEN, and for one
that shares a byte or a line-state index with another active region, whose lowest index is the detail; it waits,
in EXECUTING, for a head's PASS access into one of the region's areas; else it is applied at once (R120, R121,
R122, R123, R186). -/
def Obligations.RegionEnabled : Prop :=
  ∀ (seq region : Byte) (s : State), s.Receiving →
    let c := Instr.enableRegion seq region
    let shares (r j : RegionIx) : Prop :=
      (∃ addr : Nat, (s.config r).inAreas addr = true ∧ (s.config j).inAreas addr = true) ∨
        ∃ ix : Nat, (s.config r).ownsLine ix = true ∧ (s.config j).ownsLine ix = true
    let fails (r j : RegionIx) : Prop := j ≠ r ∧ (s.phase j).active = true ∧ shares r j
    (16 ≤ region.toNat → CompletesGranting c s (s.replied (nakOf seq 4#8 0xFF#8))) ∧
      ∀ r : RegionIx, region.toNat = r.val →
        (s.phase r ≠ .disabled ∨ (s.region r).written = false →
            CompletesGranting c s (s.replied (nakOf seq 5#8 (s.phase r).code))) ∧
          (s.phase r = .disabled → (s.region r).written = true →
            (∀ j : RegionIx, fails r j → (∀ i : RegionIx, i < j → ¬fails r i) →
                CompletesGranting c s (s.replied (nakOf seq 4#8 (BitVec.ofNat 8 j.val)))) ∧
              ((∀ j : RegionIx, ¬fails r j) →
                (∀ (q : HostRequest) (d : Decision), s.host.head = some ⟨.waitMemory, some d⟩ →
                    s.headRequest = some q → d.cls = .pass →
                    (s.config r).inAreas (4 * q.addr.toNat) = true →
                    CompletesGranting c s
                      { s with
                        link :=
                          { s.link with
                            state := .executing
                            waiting := some (.enable r seq false)
                            mdo := .released } }) ∧
                  ((s.config r).lineBase + (s.config r).lines ≤ 2048 →
                    (∀ (q : HostRequest) (d : Decision),
                      s.host.head = some ⟨.waitMemory, some d⟩ → s.headRequest = some q →
                        d.cls = .pass → (s.config r).inAreas (4 * q.addr.toNat) = false) →
                    ∃ u : State, CompletesGranting c s u ∧ s.frameOver.EnabledIn u r seq)))

/-- A waiting enable is applied as R123 has it where the head holds no unanswered PASS access into one of the
region's areas: by ENABLE_APPLIED, and by the answer that ends that access, after the head's response has been
given. A head that it held in DECIDE is decided then, after the enable: by ENABLE_APPLIED, and by the answer
of the transaction that a dropped head left behind (R122, R123, R136, R141). -/
def Obligations.EnableApplied : Prop :=
  (∀ (s : State) (r : RegionIx) (seq : Byte), s.link.waiting = some (.enable r seq false) → s.EntriesLaw →
    (s.progress ≠ some .decide →
        (∀ (q : HostRequest) (d : Decision), s.host.head = some ⟨.waitMemory, some d⟩ →
          s.headRequest = some q → d.cls = .pass → (s.config r).inAreas (4 * q.addr.toNat) = false) →
        ∃ u : State, CompletesGranting .enableApplied s u ∧ s.EnabledIn u r seq) ∧
      (s.host.head = some ⟨.decide, none⟩ → s.host.queue ≠ [] →
        ∃ u : State, CompletesDeciding .enableApplied s u ∧ s.EnabledIn u r seq) ∧
      ∀ (q : HostRequest) (d : Decision) (a : Access) (timer : Nat),
        s.host.head = some ⟨.waitMemory, some d⟩ → s.headRequest = some q → d.cls = .pass →
        d.view = none → q.kind = .write →
        s.bus.port = .inFlight ⟨.host .pass false, a⟩ timer → a.kind = .write →
        (∀ k retried, s.park.slot ≠ .waiting k retried) →
        ∃ u : State, CompletesGranting (.memoryAnswer (.okay [])) s u ∧
          { s with
            host := { s.host with head := some ⟨.respond ⟨.okay, []⟩, some d⟩ }
            bus := { s.bus with port := .idle } }.EnabledIn u r seq) ∧
    ∀ (s : State) (r : RegionIx) (seq : Byte) (n : Nat),
      s.link.waiting = some (.enable r seq true) → s.EntriesLaw → s.InFlight (.host .pass true) .write n →
      s.host.head = some ⟨.decide, none⟩ → s.host.queue ≠ [] →
      ∃ u : State, CompletesDeciding (.memoryAnswer (.okay [])) s u ∧
        { s with bus := { s.bus with port := .idle } }.EnabledIn u r seq

/-- RETIRE_REGION is answered NAK for an index above 15 and in DISABLED, and ACK with no effect in RETIRING.
In OPEN, PENDING and FAULTED it is accepted: the region is RETIRING, or DISABLED where the retirement ends at
once; F, the configuration and the counters are kept; no view of it and no parked word of it is left; its
timer stops; and a head that waits for it is answered WAIT_ABORTED (R126, R127, R130). No command waits in
RECEIVING, and a head that waits is served by no view (R140, R183, QueueLawsKept). -/
def Obligations.RegionRetired : Prop :=
  ∀ (seq region : Byte) (s : State), s.Receiving →
    let c := Instr.retireRegion seq region
    (16 ≤ region.toNat → CompletesGranting c s (s.replied (nakOf seq 4#8 0xFF#8))) ∧
      ∀ r : RegionIx, region.toNat = r.val →
        (s.phase r = .disabled → CompletesGranting c s (s.replied (nakOf seq 5#8 0#8))) ∧
          (s.phase r = .retiring → CompletesGranting c s (s.replied (ackOf seq []))) ∧
          (s.phase r = .opened ∨ s.phase r = .pending ∨ s.phase r = .faulted → s.link.waiting = none →
            s.NoViewWaits →
            Completes c s fun t =>
              (t.phase r = .retiring ∧
                  ((t.region r).life.stage = .winding ∨ (t.region r).life.stage = .folding) ∨
                t.phase r = .disabled ∧ (t.region r).life.stage = .none) ∧
                (t.region r).life.linesFolded = 0 ∧ (t.region r).life.linesUnfolded = 0 ∧
                (t.run r).frame = (s.run r).frame ∧ (t.run r).followOn = false ∧
                (t.run r).heldNotice = false ∧ t.config r = s.config r ∧
                (t.region r).counters = (s.region r).counters ∧ (t.region r).timer = ⟨false, 0⟩ ∧
                (∀ (k : Slot) (v : View), t.view k = some v → v.region ≠ r) ∧
                (∀ e ∈ t.park.entries, e.region ≠ r) ∧
                (∀ d : Decision, d.region = some r →
                  (s.host.head = some ⟨.waitLine, some d⟩ ∨
                    ∃ timer k, s.host.head = some ⟨.waitPark timer k, some d⟩) →
                  t.host.head = some ⟨.respond ⟨.waitAborted, []⟩, some d⟩) ∧
                t.clock = s.clock ∧ t.strobes = s.strobes ∧
                t.link = (s.replied (ackOf seq [])).link)

/-- PUBLISH is answered NAK outside OPEN and PENDING. Else its MANUAL trigger is counted and taken and the
command ACKed: EMPTY in OPEN with an empty draft; in PENDING the follow-on flag is set, or, where it is set, the
trigger is MERGED; in OPEN with a draft that is not EMPTY the region becomes PENDING, with HELD noted where (d)
alone fails, and publishes where all four conditions hold (R29, R30, R33, R117). -/
def Obligations.ManualTrigger : Prop :=
  ∀ (seq region : Byte) (s : State), s.Receiving →
    let c := Instr.publish seq region
    (16 ≤ region.toNat → CompletesGranting c s (s.replied (nakOf seq 4#8 0xFF#8))) ∧
      ∀ r : RegionIx, region.toNat = r.val →
        let g := s.region r
        let counted : Counters := { g.counters with triggersManual := satInc g.counters.triggersManual }
        let withRegion (x : Region) (n : NoticeUnit) : State :=
          { s with regions := s.regions.set r.val x r.isLt, notices := n }.replied (ackOf seq [])
        let raised (k : NoticeKind) (detail : BitVec 16) : NoticeUnit :=
          s.notices.raised g.config.noticeMask (s.noticeOf r k none detail)
        (s.phase r ≠ .opened → s.phase r ≠ .pending →
            CompletesGranting c s (s.replied (nakOf seq 5#8 (s.phase r).code))) ∧
          (s.phase r = .opened → s.DraftEmpty r →
            CompletesGranting c s
              (withRegion { g with counters := { counted with empty := satInc g.counters.empty } }
                (raised .empty 3))) ∧
          (s.phase r = .pending → g.run.followOn = false →
            CompletesGranting c s
              (withRegion { g with counters := counted, run := { g.run with followOn := true } }
                s.notices)) ∧
          (s.phase r = .pending → g.run.followOn = true →
            CompletesGranting c s
              (withRegion { g with counters := { counted with merged := satInc g.counters.merged } }
                (raised .merged 3))) ∧
          (s.phase r = .opened → ¬s.DraftEmpty r →
            let waits : Runtime := { g.run with phase := .pending, followOn := false, heldNotice := false }
            (¬s.DraftComplete r →
                CompletesGranting c s
                  (withRegion { g with counters := counted, run := waits } s.notices)) ∧
              (s.DraftComplete r → ¬s.BankAvailable r →
                CompletesGranting c s
                  (withRegion
                    { g with
                      counters := { counted with held := satInc g.counters.held }
                      run := { waits with heldNotice := true } }
                    (raised .held
                      (match g.run.thirdBank with
                        | .bankA => 0
                        | .bankB => 1
                        | .bankC => 2)))) ∧
              (s.DraftComplete r → s.BankAvailable r → s.link.waiting = none →
                ∃ v : State,
                  exec (.publication r)
                      { s with
                        regions :=
                          s.regions.set r.val { g with counters := counted, run := waits } r.isLt } =
                      .next v ∧
                    exec c s = .next (v.replied (ackOf seq []))))

/-- DROP_VIEWS removes the views of the region named, or with 0xFF all views: one in use is marked drop due
and stays until its response, and every other leaves its slot; the response gives their number. It counts and
notifies no expiry. In a region that is not PENDING, or whose draft is not complete, a HELD bank that lost its
last view becomes FREE, and F stays; a PENDING region whose draft is complete publishes once the last view on
its LIVE bank, or on the HELD bank it waits for, is gone. Any other argument is answered NAK (R32, R39, R51,
R57, R58, R193). That a view already due to be dropped is counted again is the model's choice (log 19). -/
def Obligations.ViewsDropped : Prop :=
  ∀ (seq which : Byte) (s : State), s.Receiving →
    let c := Instr.dropViews seq which
    let named (v : View) : Prop := which = 0xFF#8 ∨ which.toNat = v.region.val
    (16 ≤ which.toNat → which ≠ 0xFF#8 →
        CompletesGranting c s (s.replied (nakOf seq 4#8 0xFF#8))) ∧
      (which.toNat < 16 ∨ which = 0xFF#8 →
        ∃ (u : State) (removed : List Slot),
          CompletesGranting c s u ∧ removed.Nodup ∧
            (∀ k : Slot, k ∈ removed ↔ ∃ v, s.view k = some v ∧ named v) ∧
            u.link = (s.replied (ackOf seq [BitVec.ofNat 8 removed.length])).link ∧
            (∀ (k : Slot) (v : View), s.view k = some v →
              (named v → v.inUse = false → u.view k = none) ∧
                (named v → v.inUse = true → u.view k = some { v with dropDue := true }) ∧
                (¬named v → u.view k = some v)) ∧
            (∀ k : Slot, s.view k = none → u.view k = none) ∧
            (∀ r : RegionIx,
              (u.region r).counters.viewsOpened = (s.region r).counters.viewsOpened ∧
                (u.region r).counters.expired = (s.region r).counters.expired ∧
                (u.region r).counters.viewShortage = (s.region r).counters.viewShortage ∧
                (u.region r).counters.shortageFlag = (s.region r).counters.shortageFlag) ∧
            (∀ (r : RegionIx) (b : Bank),
              s.phase r ≠ .pending ∨ s.AreasLaw ∧ ¬s.DraftComplete r →
              (u.run r).frame = (s.run r).frame ∧
                ((s.run r).roles.get b = .held → s.ViewOn r b → ¬u.ViewOn r b →
                  (u.run r).roles.get b = .free) ∧
                ((s.run r).roles.get b ≠ .held ∨ u.ViewOn r b →
                  (u.run r).roles.get b = (s.run r).roles.get b)) ∧
            (∀ (r : RegionIx) (b : Bank), s.AreasLaw → s.phase r = .pending → s.DraftComplete r →
              s.ViewOn r b →
              (∀ (k : Slot) (v : View), s.view k = some v → v.region = r → v.bank = b →
                named v ∧ v.inUse = false) →
              (b = (s.run r).liveBank ∨ b = (s.run r).thirdBank ∧ (s.run r).roles.get b = .held) →
              (u.run r).frame = (s.run r).frame + 1) ∧
            u.host = s.host ∧ u.clock = s.clock ∧ u.strobes = s.strobes)

/-- READ_COUNTERS FIRST copies the region's counters and flags into the snapshot, clears them where the clear
option is given, and answers the flags and the first nine counters; REST answers the four trigger counters of
the snapshot and changes nothing but the link. The NAKs are those of R195, in its order (R176, R177, R195). -/
def Obligations.CountersRead : Prop :=
  ∀ (seq region : Byte) (opts : BitVec 7) (s : State), s.Receiving →
    let first := Instr.readCountersFirst seq region opts
    let rest := Instr.readCountersRest seq region opts
    let nakked (c : Instr) (detail : Byte) : Prop :=
      exec c s = .next (s.replied (nakOf seq 4#8 detail))
    (16 ≤ region.toNat ∨ 2 ≤ opts.toNat → nakked first 0xFF#8 ∧ nakked rest 0xFF#8) ∧
      (region.toNat < 16 → opts = 1#7 → nakked rest 0xFF#8) ∧
      ∀ r : RegionIx, region.toNat = r.val →
        (opts.toNat < 2 →
            let x := (s.region r).counters
            ∃ p : List Byte,
              exec first s =
                  .next
                    ({ s with
                        regions :=
                          if opts = 1#7 then
                            s.regions.set r.val
                              { s.region r with
                                counters := ⟨0, 0, 0, 0, 0, 0, 0, 0, 0, 0, 0, 0, 0, false, false⟩ }
                              r.isLt
                          else s.regions
                        notices := { s.notices with snapshot := ⟨true, r, x⟩ } }.replied
                      (ackOf seq p)) ∧
                p.length = 37 ∧ byteAt p 0 = BitVec.ofNat 8 (x.refusedFlag.toNat + 2 * x.shortageFlag.toNat) ∧
                field32 p 1 = x.refused ∧ field32 p 5 = x.viewsOpened ∧ field32 p 9 = x.expired ∧
                field32 p 13 = x.viewShortage ∧ field32 p 17 = x.held ∧ field32 p 21 = x.merged ∧
                field32 p 25 = x.empty ∧ field32 p 29 = x.parkTimeout ∧ field32 p 33 = x.copyRetry) ∧
          (opts = 0#7 →
            let snap := s.notices.snapshot
            (snap.valid = true → snap.region = r →
                ∃ p : List Byte,
                  exec rest s = .next (s.replied (ackOf seq p)) ∧ p.length = 16 ∧
                    field32 p 0 = snap.counters.triggersWord ∧
                    field32 p 4 = snap.counters.triggersStrobe ∧
                    field32 p 8 = snap.counters.triggersPeriod ∧
                    field32 p 12 = snap.counters.triggersManual) ∧
              (snap.valid = true → snap.region ≠ r → nakked rest (BitVec.ofNat 8 snap.region.val)) ∧
              (snap.valid = false → nakked rest 0xFE#8))

/-- RESTART with a transaction in flight keeps the link EXECUTING and changes nothing else, and no grant
follows; with none in flight it is applied at once, and RESTART_APPLIED applies one that waits: every region
DISABLED, the tables and queues emptied, the head dealt with by its state, the ACK placed. A head held in
DECIDE is decided then, after the restart. The end of a copy's read, as of any transaction in flight, applies
a restart that waits for it (R132, R133, R141, R150, R163, R196). -/
def Obligations.RestartApplied : Prop :=
  ∀ (seq : Byte) (s : State),
    (s.Receiving → (∃ txn timer, s.bus.port = .inFlight txn timer) →
        exec (.restart seq) s =
          .next
            { s with
              link :=
                { s.link with
                  state := .executing
                  waiting := some (.restart seq)
                  mdo := .released } }) ∧
      (s.Receiving → (∀ txn timer, s.bus.port ≠ .inFlight txn timer) → s.progress ≠ some .decide →
        ∃ u : State, CompletesGranting (.restart seq) s u ∧ s.frameOver.RestartedIn u seq) ∧
      (s.link.waiting = some (.restart seq) → (∀ txn timer, s.bus.port ≠ .inFlight txn timer) →
        s.progress ≠ some .decide →
        ∃ u : State, CompletesGranting .restartApplied s u ∧ s.RestartedIn u seq) ∧
      (s.host.head = some ⟨.decide, none⟩ → s.host.queue ≠ [] →
        (∀ txn timer, s.bus.port ≠ .inFlight txn timer) →
        (s.Receiving → ∃ u : State, CompletesDeciding (.restart seq) s u ∧ s.frameOver.RestartedIn u seq) ∧
          (s.link.waiting = some (.restart seq) →
            ∃ u : State, CompletesDeciding .restartApplied s u ∧ s.RestartedIn u seq)) ∧
      ∀ (y : Copy) (retried : Bool) (words : List Word), s.link.waiting = some (.restart seq) →
        s.catchup.engine = .reading y retried → s.InFlight .catchup .read words.length →
        words.length ≤ 16 →
        let c := Instr.memoryAnswer (.okay words)
        let ended : State := { s with bus := { s.bus with port := .idle } }
        (s.progress ≠ some .decide → ∃ u : State, CompletesGranting c s u ∧ ended.RestartedIn u seq) ∧
          (s.host.head = some ⟨.decide, none⟩ → s.host.queue ≠ [] →
            ∃ u : State, CompletesDeciding c s u ∧ ended.RestartedIn u seq)

/-! ### The host request queue and the decision of its head -/

/-- A request offered joins the tail while the queue holds fewer than 4 and HRST_N is not asserted, and is
held off, with nothing recorded, otherwise (R139); a request behind the head is not decided, and neither is
one that becomes head while a command holds decisions back. A taken response leaves the queue with its
request; where there is none, nothing changes: the model's choice (R139, R141, R149, log 2). -/
def Obligations.RequestsQueued : Prop :=
  (∀ (q : HostRequest) (s : State), q.wf = true →
    (s.host.resetAsserted = true ∨ 4 ≤ s.host.queue.length →
        exec (.hostRequestAccepted q) s = .next s) ∧
      (s.host.resetAsserted = false → s.host.queue ≠ [] → s.host.queue.length < 4 →
        exec (.hostRequestAccepted q) s =
          .next { s with host := { s.host with queue := s.host.queue ++ [q] } })) ∧
    (∀ (c : Instr) (s : State) (q : HostRequest) (rest : List HostRequest), HeadArrives c s q rest →
      s.link.waiting ≠ none →
      CompletesGranting c s { s with host := s.hostWith q rest ⟨.decide, none⟩ }) ∧
    (∀ (s : State) (gone : HostRequest) (resp : HostResponse), s.progress = some (.respond resp) →
      s.host.queue = [gone] →
      CompletesGranting .hostResponseTaken s { s with host := { s.host with queue := [], head := none } }) ∧
    ∀ s : State, (∀ resp : HostResponse, s.progress ≠ some (.respond resp)) →
      exec .hostResponseTaken s = .next s

/-- A request in no area of an active region is forwarded unchanged: the same kind, byte address, beats, tag,
data and strobe sets; it touches no region and raises no notice (R9, R10, R143, R144). -/
def Obligations.PassForwarded : Prop :=
  ∀ (c : Instr) (s : State) (q : HostRequest) (rest : List HostRequest), Decides c s q rest →
    (∀ r : RegionIx, (s.phase r).active = true → (s.config r).inAreas (4 * q.addr.toNat) = false) →
    ∃ d : Decision, d.cls = .pass ∧ d.region = none ∧ d.stamp = none ∧ d.view = none ∧
      CompletesGranting c s
        { s with
          host := s.hostWith q rest ⟨.waitMemory, some d⟩
          bus :=
            { s.bus with
              hostReq := some ⟨accessAt q (BitVec.ofNat 32 (4 * q.addr.toNat)), .pass⟩ } }

/-- The class recorded with a head in the window of an active region is that of the first check of R11 that
holds. -/
def Obligations.WindowClassRecorded : Prop :=
  ∀ (c : Instr) (s : State) (q : HostRequest) (rest : List HostRequest) (r : RegionIx),
    HeadArrives c s q rest → s.link.waiting = none → inLine q → s.AreasLaw → s.inWindow q r →
    Completes c s fun t =>
      ∃ (h : Head) (d : Decision), t.host.head = some h ∧ h.decision = some d ∧ d.region = some r ∧
        FirstRow d.cls (windowRows (s.config r) (s.phase r) q)

/-- A request in a shadow area, and one in a window that R11 refuses, is answered ERROR with its reason and no
memory access: the region's REFUSED counter is incremented and its flag set, and the notice is raised where
the flag was clear; nothing else of any region changes. A head whose burst crosses a 64-byte boundary is
answered ERROR BURST_SPAN and counted, and charges no region and reaches no memory (R9, R15, R142). -/
def Obligations.RequestRefused : Prop :=
  (∀ (c : Instr) (s : State) (q : HostRequest) (rest : List HostRequest) (r : RegionIx)
    (why : RefuseReason), Decides c s q rest →
    (((s.phase r).active = true ∧ why = .shadow ∧
          ((s.config r).inBank .bankB (4 * q.addr.toNat) = true ∨
            (s.config r).inBank .bankC (4 * q.addr.toNat) = true)) ∨
        (s.inWindow q r ∧ FirstRow (.refused why) (windowRows (s.config r) (s.phase r) q))) →
    let g := s.region r
    ∃ d : Decision, d.cls = .refused why ∧ d.region = some r ∧
      CompletesGranting c s
        { s with
          host := s.hostWith q rest ⟨.respond ⟨.refused why, []⟩, some d⟩
          regions :=
            s.regions.set r.val
              { g with
                counters := { g.counters with refused := satInc g.counters.refused, refusedFlag := true } }
              r.isLt
          notices :=
            if g.counters.refusedFlag then s.notices
            else
              s.notices.raised g.config.noticeMask
                (s.noticeOf r .refused (some q.tag)
                  (match why with
                    | .shadow => 1
                    | .tag => 2
                    | .stamp => 3
                    | .phase => 4)) }) ∧
    ∀ (c : Instr) (s : State) (q : HostRequest) (rest : List HostRequest), HeadArrives c s q rest →
      s.link.waiting = none → s.DrainSettled → ¬inLine q →
      CompletesGranting c s
        { s with
          host :=
            { s.hostWith q rest ⟨.respond ⟨.burstSpan, []⟩, none⟩ with
              burstSpan := satInc s.host.burstSpan } }

/-- A writer write in OPEN with nothing parked for the draft is issued at once where its line is current in the
DRAFT bank; where the line is stale the head enters WAIT_LINE, a queued line is promoted to the head of the
catch-up queue, and nothing is written, marked or counted (R12, R69, R81, R83, R143). -/
def Obligations.DraftWriteTaken : Prop :=
  ∀ (c : Instr) (s : State) (q : HostRequest) (rest : List HostRequest) (r : RegionIx),
    Decides c s q rest → s.inWindow q r → s.phase r = .opened → q.kind = .write →
    q.tag = (s.config r).writerTag → ¬(s.config r).hits q (s.config r).stamp →
    (∀ e ∈ s.park.entries, e.region = r → e.frameTag ≠ (s.run r).frame + 1) →
    let ix := (s.config r).lineHit q
    ((s.line ix).stale.get (s.run r).draftBank = false →
        ∃ u : State, CompletesGranting c s u ∧ s.IssuedIn u r q rest) ∧
      ((s.line ix).stale.get (s.run r).draftBank = true →
        ∃ d : Decision, d.cls = .writerWrite ∧ d.region = some r ∧ d.line = some ix ∧
          ((s.line ix).queued = false →
            CompletesGranting c s { s with host := s.hostWith q rest ⟨.waitLine, some d⟩ }) ∧
          ((s.line ix).queued = true → s.catchup.engine ≠ .idle →
            ∀ (before after : List CatchEntry) (e : CatchEntry),
              s.catchup.queue = before ++ e :: after → e.line = ix →
              (∀ x ∈ before, x.line ≠ ix) →
              CompletesGranting c s
                { s with
                  host := s.hostWith q rest ⟨.waitLine, some d⟩
                  catchup := { s.catchup with queue := e :: (before ++ after) } }))

/-- A view read is served through the tag's view, whose idle count restarts and which is in use; or through a
view opened in the lowest-numbered empty slot on the LIVE bank; or, with no slot empty, from the LIVE bank
without a view, which counts a shortage, sets its flag and raises the notice where the flag was clear. The
stamp is the serving bank's frame (R14, R17, R47, R48, R49). -/
def Obligations.ViewReadServed : Prop :=
  ∀ (c : Instr) (s : State) (q : HostRequest) (rest : List HostRequest) (r : RegionIx),
    Decides c s q rest → s.inWindow q r → (s.phase r).Viewable → q.kind = .read →
    q.tag ≠ (s.config r).writerTag → (s.config r).readerMask.getLsbD q.tag.val = true →
    let g := s.region r
    let t := g.run
    let mine (v : View) : Prop := v.region = r ∧ v.tag = q.tag
    let bus (b : Bank) : MemoryBus :=
      { s.bus with hostReq := some ⟨accessAt q (g.config.bankAddr b q), .read⟩ }
    let decided (b : Bank) (frame : Word) (view : Option Slot) (d : Decision) : Prop :=
      s.ReadDecided q r .viewRead b frame view d
    (∀ (k : Slot) (v : View), s.view k = some v → mine v →
        (∀ (j : Slot) (w : View), s.view j = some w → mine w → j = k) →
        ∃ d : Decision, decided v.bank (t.bankFrames.get v.bank) (some k) d ∧
          CompletesGranting c s
            { s with
              host := s.hostWith q rest ⟨.waitMemory, some d⟩
              bus := bus v.bank
              views :=
                s.views.set k.val (some { v with idle := g.config.viewIdle, inUse := true }) k.isLt }) ∧
      ((∀ (k : Slot) (v : View), s.view k = some v → ¬mine v) →
        (∀ k : Slot, s.view k = none → (∀ j : Slot, j < k → s.view j ≠ none) →
            ∃ d : Decision, decided t.liveBank t.frame (some k) d ∧
              CompletesGranting c s
                { s with
                  host := s.hostWith q rest ⟨.waitMemory, some d⟩
                  bus := bus t.liveBank
                  views :=
                    s.views.set k.val
                      (some
                        ⟨q.tag, r, t.liveBank, t.frame, g.config.viewIdle, g.config.viewAge, true, false⟩)
                      k.isLt
                  regions :=
                    s.regions.set r.val
                      { g with
                        counters := { g.counters with viewsOpened := satInc g.counters.viewsOpened } }
                      r.isLt }) ∧
          ((∀ k : Slot, s.view k ≠ none) →
            ∃ d : Decision, decided t.liveBank t.frame none d ∧
              CompletesGranting c s
                { s with
                  host := s.hostWith q rest ⟨.waitMemory, some d⟩
                  bus := bus t.liveBank
                  regions :=
                    s.regions.set r.val
                      { g with
                        counters :=
                          { g.counters with
                            viewShortage := satInc g.counters.viewShortage
                            shortageFlag := true } }
                      r.isLt
                  notices :=
                    if g.counters.shortageFlag then s.notices
                    else
                      s.notices.raised g.config.noticeMask
                        (s.noticeOf r .viewShortage (some q.tag) (BitVec.ofNat 16 (s.viewCount r))) }))

/-- A writer read is served in OPEN and PENDING from the DRAFT bank, or from the LIVE bank where its line is
stale in the DRAFT bank, with stamp F + 1 either way; in FAULTED from the LIVE bank with stamp F. It promotes no
line and touches no view (R13, R17, R86). -/
def Obligations.WriterReadServed : Prop :=
  ∀ (c : Instr) (s : State) (q : HostRequest) (rest : List HostRequest) (r : RegionIx),
    Decides c s q rest → s.inWindow q r → (s.phase r).Viewable → q.kind = .read →
    q.tag = (s.config r).writerTag →
    let t := s.run r
    let stale : Prop := (s.line ((s.config r).lineHit q)).stale.get t.draftBank = true
    ∀ b : Bank,
      (s.phase r = .faulted ∧ b = t.liveBank ∨ s.phase r ≠ .faulted ∧ stale ∧ b = t.liveBank ∨
          s.phase r ≠ .faulted ∧ ¬stale ∧ b = t.draftBank) →
      ∃ d : Decision,
        s.ReadDecided q r .writerRead b (if s.phase r = .faulted then t.frame else t.frame + 1) none d ∧
          CompletesGranting c s
            { s with
              host := s.hostWith q rest ⟨.waitMemory, some d⟩
              bus :=
                { s.bus with hostReq := some ⟨accessAt q ((s.config r).bankAddr b q), .read⟩ } }

/-- A writer write in PENDING parks under F + 2, and in OPEN behind entries of the draft frame under F + 1:
its beats are placed all together where the new entries they need find room; else the head enters WAIT_PARK
with the HOLD_WAIT in force; needing more than 8 it is answered PARK_TIMEOUT at once and the timeout charged
(R12, R90, R91, R92, R94). The byte lane of a strobe bit, and that a beat with an empty strobe set marks an
entry changed while its drain write is in flight, are the model's choice (logs 12, 27). -/
def Obligations.WriteParked : Prop :=
  ∀ (c : Instr) (s : State) (q : HostRequest) (rest : List HostRequest) (r : RegionIx) (tag : Word),
    Decides c s q rest → q.wf = true → s.inWindow q r → s.park.Sound → q.kind = .write →
    q.tag = (s.config r).writerTag → ¬(s.config r).hits q (s.config r).stamp →
    (s.phase r = .pending ∧ tag = (s.run r).frame + 2 ∨
        s.phase r = .opened ∧ tag = (s.run r).frame + 1 ∧
          ∃ e ∈ s.park.entries, e.region = r ∧ e.frameTag = tag) →
    let g := s.region r
    let k := s.entriesNeeded r q tag
    (k + s.park.entries.length ≤ 8 →
        ∃ u : State, CompletesGranting c s u ∧ s.ParkedIn u r q rest tag) ∧
      (8 < k + s.park.entries.length → k ≤ 8 →
        ∃ d : Decision, d.cls = .writerWrite ∧ d.region = some r ∧
          CompletesGranting c s
            { s with
              host := s.hostWith q rest ⟨.waitPark s.clock.timing.holdWait k, some d⟩ }) ∧
      (8 < k →
        ∃ d : Decision, d.cls = .writerWrite ∧ d.region = some r ∧
          CompletesGranting c s
            { s with
              host := s.hostWith q rest ⟨.respond ⟨.parkTimeout, []⟩, some d⟩
              regions :=
                s.regions.set r.val
                  { g with counters := { g.counters with parkTimeout := satInc g.counters.parkTimeout } }
                  r.isLt
              notices :=
                s.notices.raised g.config.noticeMask
                  (s.noticeOf r .parkTimeout (some q.tag) (BitVec.ofNat 16 k)) })

/-! ### The ends of a head's waits -/

/-- A head in WAIT_PARK whose timer stands at 0 is answered PARK_TIMEOUT, with nothing placed, and the timeout
is charged with the k of its last evaluation; one whose new entries find room is placed under the frame of the
region's phase and answered OKAY. Where no head waits in WAIT_PARK, or room or expiry is wanting, nothing
changes: the model's choice (log 2), as are the byte lanes and the changed mark of an empty strobe set (logs
12, 27) (R90, R92, R93, R94, R148). -/
def Obligations.ParkWaitEnds : Prop :=
  (∀ (s : State) (q : HostRequest) (rest : List HostRequest) (d : Decision) (r : RegionIx) (timer k : Nat),
    s.host.head = some ⟨.waitPark timer k, some d⟩ → s.host.queue = q :: rest → d.region = some r →
    d.view = none → s.link.waiting = none → s.DrainSettled →
    let g := s.region r
    (timer = 0 →
        CompletesGranting .parkTimeout s
          { s with
            host := s.hostWith q rest ⟨.respond ⟨.parkTimeout, []⟩, some d⟩
            regions :=
              s.regions.set r.val
                { g with counters := { g.counters with parkTimeout := satInc g.counters.parkTimeout } }
                r.isLt
            notices :=
              s.notices.raised g.config.noticeMask
                (s.noticeOf r .parkTimeout (some q.tag) (BitVec.ofNat 16 k)) }) ∧
      (timer ≠ 0 → exec .parkTimeout s = .next s) ∧
      ∀ tag : Word,
        (s.phase r = .pending ∧ tag = (s.run r).frame + 2 ∨
            s.phase r = .opened ∧ tag = (s.run r).frame + 1 ∧ s.park.slot ≠ .idle) →
        s.park.Sound →
        (8 < s.entriesNeeded r q tag + s.park.entries.length → exec .parkSpaceFound s = .next s) ∧
          (s.entriesNeeded r q tag + s.park.entries.length ≤ 8 → q.wf = true → q.kind = .write →
            s.inWindow q r → d.cls = .writerWrite →
            (d.commit = true ↔ (s.config r).hits q (s.config r).commit) →
            ∃ u : State, CompletesGranting .parkSpaceFound s u ∧ s.ParkedIn u r q rest tag)) ∧
    ∀ s : State, (∀ timer k, s.progress ≠ some (.waitPark timer k)) →
      exec .parkTimeout s = .next s ∧ exec .parkSpaceFound s = .next s

/-- When the line a head waits for is current in the DRAFT bank, its write is issued, and counted before the
publication conditions are evaluated: condition (b) then fails, and the region does not publish. Where no
write waits for the line nothing changes (R82, R83). The last, and that an index the Line State Table does not
have stops by name, are the model's choice (logs 2, 18). -/
def Obligations.LineReleased : Prop :=
  (∀ (s : State) (q : HostRequest) (rest : List HostRequest) (d : Decision) (r : RegionIx),
    s.AreasLaw → s.inWindow q r → (s.phase r = .opened ∨ s.phase r = .pending) →
    s.host.queue = q :: rest → s.host.head = some ⟨.waitLine, some d⟩ → d.cls = .writerWrite →
    d.region = some r → d.view = none → d.line = some ((s.config r).lineHit q) →
    (d.commit = true ↔ (s.config r).hits q (s.config r).commit) →
    (s.line ((s.config r).lineHit q)).stale.get (s.run r).draftBank = false →
    (∀ k retried, s.park.slot = .waiting k retried → k.region ≠ r) →
    ∃ u : State, CompletesGranting (.lineCurrentRelease ((s.config r).lineHit q)) s u ∧
      s.IssuedIn u r q rest) ∧
    (∀ (s : State) (line : Nat), line < 2048 → s.progress ≠ some .waitLine →
      (∀ k retried, s.park.slot ≠ .waiting k retried) →
      exec (.lineCurrentRelease line) s = .next s) ∧
    ∀ (s : State) (line : Nat), 2048 ≤ line →
      exec (.lineCurrentRelease line) s = .refused .noSuchLine

/-! ### The memory bus -/

/-- The grant goes to the first row of the grant order whose requester is waiting: its access goes onto the
bus with the MEMORY_WAIT timer in force, and the share count changes by the requester granted and by what was
waiting. No grant is made while the port is not IDLE, while a RESTART waits, or with no access requested
(R156, R157, R158, R159). -/
def Obligations.GrantOrder : Prop :=
  ∀ s : State,
    let b := s.bus
    let limit : Prop := s.clock.timing.share ≤ b.share
    let rows : List (Prop × Requester) :=
      [ (b.catchReq ≠ none ∧ s.progress = some .waitLine, .catchup),
        (b.hostReq ≠ none ∧ b.drainReq ≠ none ∧ limit, .drain),
        (b.hostReq ≠ none ∧ b.catchReq ≠ none ∧ limit, .catchup),
        (b.hostReq ≠ none, .host),
        (b.drainReq ≠ none, .drain),
        (b.catchReq ≠ none, .catchup) ]
    let wait := s.clock.timing.memoryWait
    (b.port ≠ .idle ∨ ¬s.NoRestart ∨ (b.hostReq = none ∧ b.drainReq = none ∧ b.catchReq = none) →
        exec .grant s = .next s) ∧
      (b.port = .idle → s.NoRestart →
        (∀ h : HostAccess, b.hostReq = some h → FirstRow .host rows →
            exec .grant s =
              .next
                { s with
                  bus :=
                    { b with
                      hostReq := none
                      port := .inFlight ⟨.host h.purpose false, h.access⟩ wait
                      share := if b.drainReq = none ∧ b.catchReq = none then 0 else b.share + 1 } }) ∧
          (∀ a : Access, b.drainReq = some a → FirstRow .drain rows →
            exec .grant s =
              .next
                { s with
                  bus := { b with drainReq := none, port := .inFlight ⟨.drain, a⟩ wait, share := 0 } }) ∧
          ∀ a : Access, b.catchReq = some a → FirstRow .catchup rows →
            exec .grant s =
              .next
                { s with
                  bus :=
                    { b with
                      catchReq := none
                      port := .inFlight ⟨.catchup, a⟩ wait
                      share := if s.progress = some .waitLine then b.share else 0 } })

/-- A READ head answered OKAY gets one word for each word of memory: the stamp beat holds the stamp value of
the decision; each other beat of a writer read classified in OPEN or PENDING holds memory's bytes with those
of the entries tagged F + 1 and then F + 2 over them; every other beat is memory's. A drain write that the
read held is issued in the same happening (R17, R96, R98, R144, R145). Which byte a strobe bit stands for is
the model's choice (log 12). -/
def Obligations.ReadAnswered : Prop :=
  ∀ (s : State) (q : HostRequest) (rest : List HostRequest) (d : Decision) (p : HostPurpose)
    (words : List Word),
    s.InFlight (.host p false) .read words.length → words.length ≤ 16 → (∀ r, p ≠ .draftWrite r) →
    s.host.queue = q :: rest → s.host.head = some ⟨.waitMemory, some d⟩ → q.kind = .read →
    d.view = none → s.link.waiting = none →
    ∃ data : List Word, s.DataOf q d words data ∧
      let c := Instr.memoryAnswer (.okay words)
      let ends : State :=
        { s with
          host := s.hostWith q rest ⟨.respond ⟨.okay, data⟩, some d⟩
          bus := { s.bus with port := .idle } }
      (s.DrainSettled → CompletesGranting c s ends) ∧
        ∀ (e : ParkEntry) (retried : Bool), s.park.slot = .waiting e.key retried → s.park.Sound →
          e ∈ s.park.entries → s.EntryInRange e →
          (s.line (s.lineOfEntry e)).stale.get (s.run e.region).draftBank = false →
          ∃ u : State, CompletesGranting c s u ∧ ends.DrainIssuedIn u e retried

/-- When the response of a read through a view is given, with its words or the error its access ended in, the
view's use ends: a view due to be dropped or closed leaves its slot with no notice and no count; one with a
count at 0 expires, counted and notified; any other stays, no longer in use. A HELD bank it was the last to
refer to becomes FREE. A PENDING region whose draft is complete publishes when the last view on its LIVE bank,
or on the HELD bank it waits for, is gone; with another view on the bank, or an incomplete draft, it does not.
The words are memory's, with the stamp value at the stamp beat (R17, R32, R39, R51, R52, R55, R144, R145). -/
def Obligations.ViewUseEnds : Prop :=
  ∀ (c : Instr) (s : State) (q : HostRequest) (rest : List HostRequest) (d : Decision) (k : Slot) (v : View)
    (bus : MemoryBus),
    (s.FailsBy c (.host .read false) false bus ∨ s.FailsBy c (.host .read false) true bus ∨
      ∃ words : List Word, c = .memoryAnswer (.okay words) ∧ words.length ≤ 16 ∧
        s.InFlight (.host .read false) .read words.length ∧ bus = { s.bus with port := .idle }) →
    s.host.queue = q :: rest → s.host.head = some ⟨.waitMemory, some d⟩ → q.kind = .read →
    d.view = some k → s.view k = some v → v.inUse = true → s.link.waiting = none → s.DrainSettled →
    let g := s.region v.region
    let dropped : Prop := v.dropDue = true ∨ d.close = true
    let spent : Prop := v.idle = 0 ∨ v.age = 0
    let last : Prop :=
      ∀ (j : Slot) (w : View), s.view j = some w → w.region = v.region → w.bank = v.bank → j = k
    ∃ resp : HostResponse, s.ReadResponse c q d resp ∧
      let ends (views : Vector (Option View) 32) (x : Region) (u : NoticeUnit) : State :=
        { s with
          views := views
          regions := s.regions.set v.region.val x v.region.isLt
          notices := u
          host := s.hostWith q rest ⟨.respond resp, some d⟩
          bus := bus }
      let gone := s.views.set k.val none k.isLt
      (¬dropped → ¬spent →
          CompletesGranting c s
            (ends (s.views.set k.val (some { v with inUse := false }) k.isLt) g s.notices)) ∧
        (s.phase v.region ≠ .pending ∨ ¬last ∨ ¬s.DraftComplete v.region →
          ∀ roles : PerBank Role, s.RolesAfter k v roles →
            (dropped →
                CompletesGranting c s
                  (ends gone { g with run := { g.run with roles := roles } } s.notices)) ∧
              (¬dropped → spent →
                CompletesGranting c s
                  (ends gone
                    { g with
                      run := { g.run with roles := roles }
                      counters := { g.counters with expired := satInc g.counters.expired } }
                    (s.notices.raised g.config.noticeMask
                      (s.noticeOf v.region .viewExpired (some v.tag) (if v.age = 0 then 1 else 0)))))) ∧
        (s.phase v.region = .pending → dropped ∨ spent → s.DraftComplete v.region → last →
          (v.bank = g.run.liveBank ∨ v.bank = g.run.thirdBank ∧ g.run.roles.get v.bank = .held) →
          Completes c s fun t =>
            t.view k = none ∧ (t.run v.region).frame = g.run.frame + 1 ∧
              t.progress = some (.respond resp) ∧
              (dropped → (t.region v.region).counters.expired = g.counters.expired) ∧
              (¬dropped → (t.region v.region).counters.expired = satInc g.counters.expired))

/-- The access of a head ends: a WRITE answered OKAY is answered OKAY; an ERROR answer gives MEMORY_ERROR; the
timer at 0 gives MEMORY_TIMEOUT, counts the timeout and leaves the port EXPIRED. A draft write is one less in
flight; in PENDING the write that completes the conditions publishes, or, with (d) alone failing, notes HELD,
and in RETIRING the last one brings the moment of fold-back. A read that fails lets go a drain write that it
held. While the timer runs there is no timeout, and with no transaction in flight neither answer nor timeout
is taken (R27, R33, R40, R84, R98, R128, R144, R160; the last is the model's choice, log 2). What waits is in
order (QueueLawsKept). -/
def Obligations.HostAccessEnds : Prop :=
  (∀ (s : State) (q : HostRequest) (rest : List HostRequest) (d : Decision) (p : HostPurpose),
    s.host.queue = q :: rest → s.host.head = some ⟨.waitMemory, some d⟩ → d.view = none →
    s.link.waiting = none → s.DrainSettled →
    (∀ r : RegionIx, p = .draftWrite r →
      s.phase r ≠ .retiring ∧
        (s.phase r = .pending → ¬({ s with regions := s.writeCounted p } : State).DraftComplete r)) →
    let ends (status : HostStatus) (bus : MemoryBus) : State :=
      { s with
        regions := s.writeCounted p
        host := s.hostWith q rest ⟨.respond ⟨status, []⟩, some d⟩
        bus := bus }
    (q.kind = .write → ∀ n : Nat, s.InFlight (.host p false) .write n →
        CompletesGranting (.memoryAnswer (.okay [])) s
          (ends .okay { s.bus with port := .idle })) ∧
      ∀ (c : Instr) (expired : Bool) (bus : MemoryBus), s.FailsBy c (.host p false) expired bus →
        CompletesGranting c s (ends (if expired then .memoryTimeout else .memoryError) bus)) ∧
    (∀ (c : Instr) (s : State) (q : HostRequest) (rest : List HostRequest) (d : Decision) (r : RegionIx)
      (expired : Bool) (bus : MemoryBus),
      s.host.queue = q :: rest → s.host.head = some ⟨.waitMemory, some d⟩ → d.view = none →
      s.link.waiting = none → s.phase r = .pending →
      (∃ n : Nat, q.kind = .write ∧ c = .memoryAnswer (.okay []) ∧
          s.InFlight (.host (.draftWrite r) false) .write n) ∨
        s.FailsBy c (.host (.draftWrite r) false) expired bus →
      ({ s with regions := s.writeCounted (.draftWrite r) } : State).DraftComplete r →
      s.BankAvailable r →
      Completes c s fun t =>
        (t.run r).frame = (s.run r).frame + 1 ∧ ∃ resp, t.progress = some (.respond resp)) ∧
    (∀ (c : Instr) (s : State) (q : HostRequest) (rest : List HostRequest) (d : Decision) (r : RegionIx)
      (status : HostStatus) (bus : MemoryBus),
      s.host.queue = q :: rest → s.host.head = some ⟨.waitMemory, some d⟩ → d.view = none →
      s.link.waiting = none → s.DrainSettled → s.phase r = .pending →
      (∃ n : Nat, q.kind = .write ∧ c = .memoryAnswer (.okay []) ∧ status = .okay ∧
            bus = { s.bus with port := .idle } ∧ s.InFlight (.host (.draftWrite r) false) .write n) ∨
          s.FailsBy c (.host (.draftWrite r) false) false bus ∧ status = .memoryError ∨
          s.FailsBy c (.host (.draftWrite r) false) true bus ∧ status = .memoryTimeout →
      ({ s with regions := s.writeCounted (.draftWrite r) } : State).DraftComplete r →
      ¬s.BankAvailable r →
      CompletesGranting c s
        ({ s with
            regions := s.writeCounted (.draftWrite r)
            host := s.hostWith q rest ⟨.respond ⟨status, []⟩, some d⟩
            bus := bus }.heldNoted r)) ∧
    (∀ (c : Instr) (s : State) (q : HostRequest) (rest : List HostRequest) (d : Decision) (r : RegionIx)
      (status : HostStatus) (bus : MemoryBus),
      s.host.queue = q :: rest → s.host.head = some ⟨.waitMemory, some d⟩ → d.view = none →
      s.link.waiting = none → s.DrainSettled → s.phase r = .retiring → s.catchup.Taken →
      s.AreasLaw → s.WaitsLaw →
      (∃ n : Nat, q.kind = .write ∧ c = .memoryAnswer (.okay []) ∧ status = .okay ∧
            bus = { s.bus with port := .idle } ∧ s.InFlight (.host (.draftWrite r) false) .write n) ∨
          s.FailsBy c (.host (.draftWrite r) false) false bus ∧ status = .memoryError ∨
          s.FailsBy c (.host (.draftWrite r) false) true bus ∧ status = .memoryTimeout →
      ∃ u : State, CompletesTaking c s u ∧
        { s with
          regions := s.writeCounted (.draftWrite r)
          host := s.hostWith q rest ⟨.respond ⟨status, []⟩, some d⟩
          bus := bus }.FoldBackIn u r) ∧
    (∀ (c : Instr) (s : State) (q : HostRequest) (rest : List HostRequest) (d : Decision) (expired : Bool)
      (bus : MemoryBus) (e : ParkEntry) (retried : Bool),
      s.FailsBy c (.host .read false) expired bus → s.host.queue = q :: rest →
      s.host.head = some ⟨.waitMemory, some d⟩ → d.view = none → s.link.waiting = none →
      s.park.slot = .waiting e.key retried → s.park.Sound → e ∈ s.park.entries → s.EntryInRange e →
      (s.line (s.lineOfEntry e)).stale.get (s.run e.region).draftBank = false →
      ∃ u : State, CompletesGranting c s u ∧
        { s with
          host := s.hostWith q rest
            ⟨.respond ⟨if expired then .memoryTimeout else .memoryError, []⟩, some d⟩
          bus := bus }.DrainIssuedIn u e retried) ∧
    (∀ (s : State) (txn : Txn) (timer : Nat), s.bus.port = .inFlight txn timer → timer ≠ 0 →
      exec .memoryTimeout s = .next s) ∧
    ∀ s : State, (∀ txn timer, s.bus.port ≠ .inFlight txn timer) →
      exec .memoryTimeout s = .next s ∧
        ∀ a : MemAnswer, a.wf = true → exec (.memoryAnswer a) s = .next s

/-! ### Copies -/

/-- An idle engine takes the head of the catch-up queue: its queued mark is cleared and its busy mark set, the
banks are resolved from the roles, and the read of the source line is requested with the region's WRITER_TAG.
A read answered OKAY fills the line buffer and requests the write of the destination line (R71, R72, R73).
With no idle engine or no entry nothing is taken, which is the model's choice (log 2). -/
def Obligations.CopyStarted : Prop :=
  (∀ (s : State) (e : CatchEntry) (rest : List CatchEntry) (r : RegionIx),
    s.catchup.engine = .idle → s.catchup.queue = e :: rest → s.AreasLaw → s.lineIn r e.line →
    let t := s.run r
    let dest : Bank :=
      match e.kind with
      | .fill => t.draftBank
      | .fold => .bankA
    ∃ x : Catchup,
      s.LineSet x e.line { s.line e.line with queued := false, busy := true } ∧
        CompletesGranting .catchupTake s
          { s with
            catchup :=
              { x with
                queue := rest
                engine := .reading ⟨e.line, e.kind, r, t.liveBank, dest⟩ false }
            bus :=
              { s.bus with
                catchReq :=
                  some
                    ⟨.read, (s.config r).lineAt t.liveBank e.line, 16, (s.config r).writerTag, []⟩ } }) ∧
    (∀ s : State, s.catchup.engine ≠ .idle ∨ s.catchup.queue = [] →
      CompletesGranting .catchupTake s s) ∧
    ∀ (s : State) (y : Copy) (retried : Bool) (words : List Word),
      s.catchup.engine = .reading y retried → words.length = 16 → s.InFlight .catchup .read 16 →
      s.NoRestart →
      CompletesGranting (.memoryAnswer (.okay words)) s
        { s with
          catchup := { s.catchup with engine := .writing y retried words }
          bus :=
            { s.bus with
              port := .idle
              catchReq :=
                some
                  ⟨.write, (s.config y.region).lineAt y.dest y.line, 16, (s.config y.region).writerTag,
                    words.map fun w => ⟨w, 0xF#4⟩⟩ } }

/-- The write of a copy answered OKAY makes the line current in the destination bank and clears its busy mark,
and the engine takes the next entry last, which is the model's choice (log 13). After a FILL the writes that
wait for the line are issued, but for a drain write that a writer read holds, and a PENDING region whose
conditions then hold publishes, or notes HELD where (d) alone fails; a FOLD is counted folded, and the last
one ends the retirement. In FAULTED and RETIRING the stale set is kept, and in RETIRING the end of the FILL
may bring the moment of fold-back (R33, R74, R79, R82, R98, R128, R129, R130). That a read holds a drain write
by its bank's role at classification is the model's choice (log 29). -/
def Obligations.CopyCompleted : Prop :=
  ∀ (s : State) (y : Copy) (retried : Bool) (words : List Word) (n : Nat),
    s.catchup.engine = .writing y retried words → s.InFlight .catchup .write n → s.AreasLaw →
    s.lineIn y.region y.line → s.NoRestart →
    let c := Instr.memoryAnswer (.okay [])
    let r := y.region
    let old := s.line y.line
    let life := (s.region r).life
    ∃ x z : Catchup,
      s.LineSet x y.line { old with stale := old.stale.set false y.dest, busy := false } ∧
        s.LineSet z y.line { old with busy := false } ∧ x.queue = s.catchup.queue ∧
        z.queue = s.catchup.queue ∧
        let ends (w : Catchup) : State :=
          { s with catchup := { w with engine := .idle }, bus := { s.bus with port := .idle } }
        let done := ends x
        (y.kind = .fill → s.NoneWaits y.line →
            (s.phase r = .opened ∨ s.phase r = .pending ∧ ¬done.DraftComplete r →
                CompletesTaking c s done) ∧
              (s.phase r = .pending → done.DraftComplete r → done.BankAvailable r →
                Completes c s fun t => (t.run r).frame = (s.run r).frame + 1) ∧
              (s.phase r = .pending → done.DraftComplete r → ¬done.BankAvailable r →
                CompletesTaking c s (done.heldNoted r)) ∧
              (s.phase r = .faulted → CompletesTaking c s (ends z))) ∧
          (y.kind = .fill → (s.phase r = .opened ∨ s.phase r = .pending) →
            y.dest = (s.run r).draftBank →
            ∀ (q : HostRequest) (rest : List HostRequest) (d : Decision),
              s.inWindow q r → s.host.queue = q :: rest → s.host.head = some ⟨.waitLine, some d⟩ →
              d.cls = .writerWrite → d.region = some r → d.view = none → d.line = some y.line →
              y.line = (s.config r).lineHit q →
              (d.commit = true ↔ (s.config r).hits q (s.config r).commit) →
              (∀ k retried', s.park.slot = .waiting k retried' → k.region ≠ r) →
              ∃ u : State, CompletesTaking c s u ∧ done.IssuedIn u r q rest) ∧
          (y.kind = .fill → (s.phase r = .opened ∨ s.phase r = .pending) →
            y.dest = (s.run r).draftBank →
            (∀ d : Decision, s.host.head = some ⟨.waitLine, some d⟩ → d.line ≠ some y.line) →
            ∀ (e : ParkEntry) (retried' : Bool), s.park.slot = .waiting e.key retried' → s.park.Sound →
              e ∈ s.park.entries → s.Eligible e → s.EntryInRange e → e.region = r →
              s.lineOfEntry e = y.line →
              (¬s.HeldForRead e →
                  ∃ u : State, CompletesTaking c s u ∧ done.DrainIssuedIn u e retried') ∧
                (s.HeldForRead e → CompletesTaking c s done)) ∧
          (y.kind = .fill → s.phase r = .retiring →
            ∃ u : State, CompletesTaking c s u ∧ (ends z).FoldBackIn u r) ∧
          (y.kind = .fold → s.phase r = .retiring → life.stage = .folding →
            let counted (m : Nat) : Region :=
              { s.region r with
                life := { life with foldsOutstanding := m, linesFolded := life.linesFolded + 1 } }
            (2 ≤ life.foldsOutstanding →
                CompletesTaking c s
                  { done with
                    regions :=
                      s.regions.set r.val (counted (life.foldsOutstanding - 1)) r.isLt }) ∧
              (life.foldsOutstanding = 1 →
                ∃ u : State, CompletesTaking c s u ∧
                  { done with regions := s.regions.set r.val (counted 0) r.isLt }.RetiredIn u r))

/-- The first failure of a copy is retried from the read, counted and notified. The second failure of a FILL
faults its region with cause COPY, its line left stale; that of a FOLD skips the line and counts it unfolded,
and the last one ends the retirement. In FAULTED and RETIRING a failure of a FILL ends the copy with no retry,
count, notice or fault, and in RETIRING it may bring the moment of fold-back (R76, R77, R78, R79, R125, R128,
R130). What waits is in order (QueueLawsKept). -/
def Obligations.CopyFails : Prop :=
  ∀ (c : Instr) (s : State) (y : Copy) (retried : Bool) (expired : Bool) (bus : MemoryBus),
    (s.catchup.engine = .reading y retried ∨
      ∃ words : List Word, s.catchup.engine = .writing y retried words) →
    s.FailsBy c .catchup expired bus → s.AreasLaw → s.lineIn y.region y.line →
    s.link.waiting = none →
    let r := y.region
    let g := s.region r
    let old := s.line y.line
    (s.Applies y → retried = false →
        CompletesGranting c s
          { s with
            catchup := { s.catchup with engine := .reading y true }
            bus :=
              { bus with
                catchReq :=
                  some ⟨.read, g.config.lineAt y.source y.line, 16, g.config.writerTag, []⟩ }
            regions :=
              s.regions.set r.val
                { g with counters := { g.counters with copyRetry := satInc g.counters.copyRetry } } r.isLt
            notices :=
              s.notices.raised g.config.noticeMask
                (s.noticeOf r .copyRetry none
                  (BitVec.ofNat 16
                    ((y.line - g.config.lineBase) % 256 + (if y.kind = .fold then 256 else 0) +
                      if expired then 512 else 0))) }) ∧
      (s.Applies y → retried = true → y.kind = .fill → s.WaitsLaw →
        (∀ e ∈ s.catchup.queue, e.line ≠ y.line) →
        Completes c s fun t =>
          s.FaultedIn t r .copy (y.line - g.config.lineBase) ∧
            t.line y.line = { old with busy := false }) ∧
      ∃ z : Catchup, s.LineSet z y.line { old with busy := false } ∧ z.queue = s.catchup.queue ∧
        let ends : State := { s with catchup := { z with engine := .idle }, bus := bus }
        let skipped (m : Nat) : State :=
          { ends with
            regions :=
              s.regions.set r.val
                { g with
                  life :=
                    { g.life with
                      foldsOutstanding := m
                      linesUnfolded := g.life.linesUnfolded + 1 } }
                r.isLt }
        (y.kind = .fill → s.phase r = .faulted → CompletesTaking c s ends) ∧
          (y.kind = .fill → s.phase r = .retiring →
            ∃ u : State, CompletesTaking c s u ∧ ends.FoldBackIn u r) ∧
          (s.Applies y → retried = true → y.kind = .fold → g.life.stage = .folding →
            (2 ≤ g.life.foldsOutstanding → CompletesTaking c s (skipped (g.life.foldsOutstanding - 1))) ∧
              (g.life.foldsOutstanding = 1 →
                ∃ u : State, CompletesTaking c s u ∧ (skipped 0).RetiredIn u r))

/-! ### The drain -/

/-- An idle slot takes the eligible entry nearest the head of the Park Queue: its write is issued where its
line is current and no writer read holds it; a queued line is promoted to the head of the catch-up queue, and
otherwise the slot waits. A waiting write is issued once its line is current and nothing holds it. During a
RESTART the slot takes and issues nothing (R97, R98, R102). That a read holds a drain write by its bank's role
at classification, and that nothing changes where the slot is not idle or not waiting, are the model's choice
(logs 29, 2). -/
def Obligations.DrainStarted : Prop :=
  (∀ (s : State) (before after : List ParkEntry) (e : ParkEntry),
    s.park.slot = .idle → s.NoRestart → s.park.Sound → s.park.entries = before ++ e :: after →
    (∀ x ∈ before, ¬s.Eligible x) → s.Eligible e → s.EntryInRange e →
    let ix := s.lineOfEntry e
    let stale : Prop := (s.line ix).stale.get (s.run e.region).draftBank = true
    let waits : State := { s with park := { s.park with slot := .waiting e.key false } }
    (¬stale → ¬s.HeldForRead e →
        ∃ u : State, CompletesGranting .drainTake s u ∧ s.DrainIssuedIn u e false) ∧
      (¬stale → s.HeldForRead e → CompletesGranting .drainTake s waits) ∧
      (stale → (s.line ix).queued = false → CompletesGranting .drainTake s waits) ∧
      (stale → (s.line ix).queued = true → s.catchup.engine ≠ .idle →
        ∀ (before after : List CatchEntry) (y : CatchEntry),
          s.catchup.queue = before ++ y :: after → y.line = ix → (∀ x ∈ before, x.line ≠ ix) →
          CompletesGranting .drainTake s
            { waits with catchup := { s.catchup with queue := y :: (before ++ after) } })) ∧
    (∀ s : State, (s.park.slot ≠ .idle ∨ ¬s.NoRestart ∨ ∀ e ∈ s.park.entries, ¬s.Eligible e) →
      CompletesGranting .drainTake s s) ∧
    (∀ (s : State) (e : ParkEntry) (retried : Bool),
      s.park.slot = .waiting e.key retried → s.park.Sound → e ∈ s.park.entries → s.EntryInRange e →
      let stale : Prop := (s.line (s.lineOfEntry e)).stale.get (s.run e.region).draftBank = true
      (¬stale → ¬s.HeldForRead e → s.NoRestart →
          ∃ u : State, CompletesGranting .drainWriteRelease s u ∧ s.DrainIssuedIn u e retried) ∧
        (stale ∨ s.HeldForRead e ∨ ¬s.NoRestart → CompletesGranting .drainWriteRelease s s)) ∧
    ∀ s : State, (∀ k retried, s.park.slot ≠ .waiting k retried) →
      CompletesGranting .drainWriteRelease s s

/-- A drain write answered OKAY leaves the queue, and one write less is in flight; an entry merged into since
its issue is written again; a PENDING region whose last draft-frame entry left publishes where the conditions
then hold, and notes HELD where (d) alone fails. A first failure is retried; a second one faults the region
with cause DRAIN. After the region has become FAULTED the answer is taken with nothing but the count, and in
RETIRING with the moment of fold-back that it may bring (R33, R40, R84, R99, R100, R125, R128). That the count
falls first, and that a read holds a drain write by its bank's role at classification, are the model's choice
(logs 14, 29). -/
def Obligations.DrainAnswered : Prop :=
  ∀ (s : State) (e : ParkEntry) (retried : Bool),
    s.park.slot = .writing e.key retried → s.link.waiting = none →
    let r := e.region
    let t := s.run r
    let ok := Instr.memoryAnswer (.okay [])
    let others : Prop := ∀ x ∈ s.park.entries, x.key ≠ e.key → ¬s.Eligible x
    let left := s.park.entries.filter fun x => x.key ≠ e.key
    let noPark : Prop := ∀ timer k, s.progress ≠ some (.waitPark timer k)
    (s.park.Sound → e ∈ s.park.entries → s.Eligible e → s.InFlight .drain .write 1 →
        (e.changed = false → s.phase r = .opened → others → noPark →
            CompletesGranting ok s
              { s with
                park := ⟨left, .idle⟩
                regions := s.writeCounted (.draftWrite r)
                bus := { s.bus with port := .idle } }) ∧
          (e.changed = false → s.phase r = .pending → noPark →
            let done : State :=
              { s with park := ⟨left, .idle⟩, regions := s.writeCounted (.draftWrite r) }
            done.DraftComplete r → done.BankAvailable r →
            Completes ok s fun u => (u.run r).frame = t.frame + 1) ∧
          (e.changed = false → s.phase r = .pending → others → noPark →
            let ends : State :=
              { s with
                park := ⟨left, .idle⟩
                regions := s.writeCounted (.draftWrite r)
                bus := { s.bus with port := .idle } }
            (¬ends.DraftComplete r → CompletesGranting ok s ends) ∧
              (ends.DraftComplete r → ¬ends.BankAvailable r →
                CompletesGranting ok s (ends.heldNoted r)))) ∧
      (s.park.Sound → e ∈ s.park.entries → s.Eligible e → s.EntryInRange e →
        (s.line (s.lineOfEntry e)).dirty = true →
        (s.line (s.lineOfEntry e)).stale.get t.draftBank = false → ¬s.HeldForRead e → 1 ≤ t.inFlight →
        let again (bus : MemoryBus) (retried : Bool) : State :=
          { s with
            park :=
              ⟨s.park.entries.map fun x => if x.key = e.key then { x with changed := false } else x,
                .writing e.key retried⟩
            bus := { bus with drainReq := some (s.drainOf e) } }
        (e.changed = true → s.InFlight .drain .write 1 →
            CompletesGranting ok s (again { s.bus with port := .idle } false)) ∧
          (retried = false → ∀ (c : Instr) (expired : Bool) (bus : MemoryBus),
            s.FailsBy c .drain expired bus → CompletesGranting c s (again bus true))) ∧
      (s.park.Sound → e ∈ s.park.entries → s.Eligible e → retried = true → s.AreasLaw → s.NoViewWaits →
        ∀ (c : Instr) (expired : Bool) (bus : MemoryBus), s.FailsBy c .drain expired bus →
          Completes c s fun u => s.FaultedIn u r .drain (e.word / 16)) ∧
      (others → (∀ x ∈ s.park.entries, x.region ≠ r) →
        let ends (bus : MemoryBus) : State :=
          { s with
            park := { s.park with slot := .idle }
            regions := s.writeCounted (.draftWrite r)
            bus := bus }
        let ended (c : Instr) (bus : MemoryBus) : Prop :=
          (s.phase r = .faulted → CompletesGranting c s (ends bus)) ∧
            (s.phase r = .retiring → s.catchup.Taken →
              (s.config r).lineBase + (s.config r).lines ≤ 2048 →
              ∃ u : State, CompletesTaking c s u ∧ (ends bus).FoldBackIn u r)
        (s.InFlight .drain .write 1 → ended ok { s.bus with port := .idle }) ∧
          ∀ (c : Instr) (expired : Bool) (bus : MemoryBus), s.FailsBy c .drain expired bus → ended c bus)

/-! ### The end of a retirement, publications and triggers -/

/-- At its moment the fold-back is queued: a FOLD entry for each line stale in bank A, in ascending order,
unless bank A is LIVE, and the stage becomes FOLDING; with none the retirement ends at once. A retirement in
FOLDING with no fold outstanding ends: the region is DISABLED with F and the fold counts kept, its line range
is cleared, and RETIRED is raised (R87, R128, R130). At any other moment nothing changes: the model's choice
(log 2). -/
def Obligations.RetirementEnds : Prop :=
  (∀ (s : State) (r : RegionIx), (s.config r).lineBase + (s.config r).lines ≤ 2048 →
    let c := s.config r
    let ready : Prop :=
      s.phase r = .retiring ∧ (s.region r).life.stage = .winding ∧ (s.run r).inFlight = 0 ∧
        ∀ ix : Nat, c.ownsLine ix = true → (s.line ix).busy = false
    let folds :=
      if (s.run r).liveBank = .bankA then []
      else ((List.range c.lines).map (c.lineBase + ·)).filter fun ix => (s.line ix).stale.a
    let folding : Region :=
      { s.region r with
        life := { (s.region r).life with stage := .folding, foldsOutstanding := folds.length } }
    (ready → folds ≠ [] →
        ∃ x : Catchup,
          (∀ ix : Nat,
              ({ s with catchup := x } : State).line ix =
                if ix ∈ folds then { s.line ix with queued := true } else s.line ix) ∧
            CompletesTaking (.foldBackQueued r) s
              { s with
                catchup :=
                  { x with
                    queue := s.catchup.queue ++ folds.map fun ix => ⟨ix, .fold⟩
                    engine := s.catchup.engine }
                regions := s.regions.set r.val folding r.isLt }) ∧
      (ready → folds = [] → (s.catchup.engine ≠ .idle ∨ s.catchup.queue = []) →
        ∃ u : State, CompletesGranting (.foldBackQueued r) s u ∧
          { s with regions := s.regions.set r.val folding r.isLt }.RetiredIn u r) ∧
      (¬ready → CompletesGranting (.foldBackQueued r) s s)) ∧
    ∀ (s : State) (r : RegionIx),
      ((s.region r).life.stage = .folding → (s.region r).life.foldsOutstanding = 0 →
          Completes (.retirementEnd r) s fun u => s.RetiredIn u r) ∧
        ((s.region r).life.stage ≠ .folding ∨ (s.region r).life.foldsOutstanding ≠ 0 →
          exec (.retirementEnd r) s = .next s)

/-- A publication: F becomes F + 1, the DRAFT bank LIVE with that frame; the old LIVE bank becomes DRAFT, or,
where views refer to it, HELD with the FREE bank DRAFT; each dirty line becomes stale in the two other banks;
the lines stale in the new DRAFT bank join the catch-up queue; PUBLISHED carries their number. With the
follow-on flag set and nothing parked the follow-on is EMPTY; with words parked the region is PENDING again.
Where the region is not PENDING or a condition fails, nothing changes (R34, R35, R36, R37, R38). The place of
the engine's take, and the last, are the model's choice (logs 2, 13). -/
def Obligations.PublicationEvent : Prop :=
  (∀ (s : State) (r : RegionIx), s.phase r = .pending → s.DraftComplete r → s.BankAvailable r →
    (s.run r).RolesSound → (s.config r).lineBase + (s.config r).lines ≤ 2048 →
    let g := s.region r
    let t := g.run
    let c := g.config
    let old := t.liveBank
    let live := t.draftBank
    let third := t.thirdBank
    let parked : Prop := ∃ e ∈ s.park.entries, e.region = r ∧ e.frameTag = t.frame + 2
    (Completes (.publication r) s fun u =>
        (u.run r).frame = t.frame + 1 ∧ (u.run r).roles.get live = .live ∧
          (s.ViewOn r old →
            (u.run r).roles.get old = .held ∧ (u.run r).roles.get third = .draft) ∧
          (¬s.ViewOn r old →
            (u.run r).roles.get old = .draft ∧
              (u.run r).roles.get third = t.roles.get third) ∧
          (u.run r).bankFrames = t.bankFrames.set (t.frame + 1) live ∧
          (u.run r).followOn = false ∧ (u.run r).heldNotice = false ∧
          (t.followOn = true → parked → u.phase r = .pending) ∧
          (t.followOn = false ∨ ¬parked → u.phase r = .opened) ∧
          ∀ ix : Nat, c.ownsLine ix = true →
            ∀ b : Bank,
              (u.line ix).stale.get b =
                if (s.line ix).dirty then decide (b ≠ live) else (s.line ix).stale.get b) ∧
      (¬parked → s.DrainSettled →
        let next := if decide (t.roles.get third = .free) && s.viewed r old then third else old
        let fills :=
          ((List.range c.lines).map (c.lineBase + ·)).filter fun ix =>
            if (s.line ix).dirty then decide (next ≠ live) else (s.line ix).stale.get next
        let published :=
          s.notices.raised c.noticeMask
            ⟨.published, r, t.frame + 1, none, BitVec.ofNat 16 fills.length, s.clock.tickCount⟩
        ∃ (x : Catchup) (roles : PerBank Role),
          (∀ ix : Nat,
              ({ s with catchup := x } : State).line ix =
                if c.ownsLine ix then
                  { s.line ix with
                    stale := if (s.line ix).dirty then ⟨live ≠ .bankA, live ≠ .bankB, live ≠ .bankC⟩
                      else (s.line ix).stale
                    dirty := false
                    queued := (s.line ix).queued || fills.contains ix }
                else s.line ix) ∧
            CompletesTaking (.publication r) s
              { s with
                catchup :=
                  { x with
                    queue := s.catchup.queue ++ fills.map fun ix => ⟨ix, .fill⟩
                    engine := s.catchup.engine }
                regions :=
                  s.regions.set r.val
                    { g with
                      run :=
                        ⟨.opened, roles, t.frame + 1, t.bankFrames.set (t.frame + 1) live, false, false,
                          t.inFlight, 0⟩
                      counters :=
                        if t.followOn then { g.counters with empty := satInc g.counters.empty }
                        else g.counters }
                    r.isLt
                notices :=
                  if t.followOn then
                    published.raised c.noticeMask
                      ⟨.empty, r, t.frame + 1, none, 4, s.clock.tickCount⟩
                  else published })) ∧
    ∀ (s : State) (r : RegionIx),
      (s.phase r ≠ .pending ∨ ¬s.DraftComplete r ∨ ¬s.BankAvailable r) →
      exec (.publication r) s = .next s

/-- An edge that is due is taken: the filtered level changes and the run count restarts; each region in OPEN
or PENDING that selects the line and the edge counts a STROBE trigger and takes it, and no other region counts
one. A running period timer at 0 is loaded with PERIOD_TICKS again, and its PERIOD trigger counted and taken.
Either, in OPEN with a draft that is not EMPTY, makes the region PENDING, with HELD noted where (d) alone
fails, and publishes where all four conditions hold (R29, R30, R33, R107, R110, R113, R115). With no edge due,
or the timer not at 0, nothing changes, which is the model's choice (log 2). -/
def Obligations.TriggersTaken : Prop :=
  (∀ (s : State) (line : Fin 4),
    let l := s.strobes.lines.get line
    (l.due = false → exec (.strobeEdge line) s = .next s) ∧
      (l.due = true →
        Completes (.strobeEdge line) s fun u =>
          u.strobes =
              { s.strobes with
                lines :=
                  s.strobes.lines.set line.val ⟨!l.level, l.sampled, 0, false⟩ line.isLt } ∧
            ∀ r : RegionIx,
              let g := s.region r
              let reached : Prop :=
                g.config.Selects line (!l.level) ∧ (s.phase r = .opened ∨ s.phase r = .pending)
              (¬reached →
                  (u.region r).counters = g.counters ∧ u.phase r = s.phase r ∧
                    (u.run r).frame = g.run.frame) ∧
                (reached →
                  (u.region r).counters.triggersStrobe = satInc g.counters.triggersStrobe ∧
                    (s.phase r = .opened → s.DraftEmpty r →
                      (u.region r).counters.empty = satInc g.counters.empty ∧ u.phase r = .opened ∧
                        (u.run r).frame = g.run.frame) ∧
                    (s.AreasLaw → s.phase r = .opened → ¬s.DraftEmpty r →
                      (¬s.DraftComplete r →
                          u.phase r = .pending ∧ (u.run r).heldNotice = false ∧
                            (u.run r).frame = g.run.frame) ∧
                        (s.DraftComplete r → ¬s.BankAvailable r →
                          u.phase r = .pending ∧ (u.run r).heldNotice = true ∧
                            (u.run r).frame = g.run.frame ∧
                            (u.region r).counters.held = satInc g.counters.held) ∧
                        (s.DraftComplete r → s.BankAvailable r →
                          u.phase r = .opened ∧ (u.run r).frame = g.run.frame + 1 ∧
                            (u.region r).counters.held = g.counters.held)) ∧
                    (s.phase r = .pending → g.run.followOn = false →
                      (u.run r).followOn = true ∧ (u.run r).frame = g.run.frame) ∧
                    (s.phase r = .pending → g.run.followOn = true →
                      (u.region r).counters.merged = satInc g.counters.merged ∧
                        (u.run r).frame = g.run.frame)))) ∧
    ∀ (s : State) (r : RegionIx),
      let g := s.region r
      let counted : Counters := { g.counters with triggersPeriod := satInc g.counters.triggersPeriod }
      let fired (x : Region) (u : NoticeUnit) : State :=
        { s with
          regions :=
            s.regions.set r.val { x with timer := ⟨true, g.config.periodTicks⟩ } r.isLt
          notices := u }
      let raised (k : NoticeKind) : NoticeUnit :=
        s.notices.raised g.config.noticeMask (s.noticeOf r k none 2)
      (g.timer.running = false ∨ g.timer.remaining ≠ 0 → exec (.periodTimerFire r) s = .next s) ∧
        (g.timer.running = true → g.timer.remaining = 0 →
          (s.phase r = .opened → s.DraftEmpty r →
              CompletesGranting (.periodTimerFire r) s
                (fired { g with counters := { counted with empty := satInc g.counters.empty } }
                  (raised .empty))) ∧
            (s.phase r = .opened → ¬s.DraftEmpty r →
              let waits : Runtime :=
                { g.run with phase := .pending, followOn := false, heldNotice := false }
              (¬s.DraftComplete r →
                  CompletesGranting (.periodTimerFire r) s
                    (fired { g with counters := counted, run := waits } s.notices)) ∧
                (s.DraftComplete r → ¬s.BankAvailable r →
                  CompletesGranting (.periodTimerFire r) s
                    (fired
                      { g with
                        counters := { counted with held := satInc g.counters.held }
                        run := { waits with heldNotice := true } }
                      (s.notices.raised g.config.noticeMask
                        (s.noticeOf r .held none
                          (match g.run.thirdBank with
                            | .bankA => 0
                            | .bankB => 1
                            | .bankC => 2))))) ∧
                (s.DraftComplete r → s.BankAvailable r →
                  ∃ v : State,
                    exec (.publication r)
                        (fired { g with counters := counted, run := waits } s.notices) = .next v ∧
                      exec (.periodTimerFire r) s = .next v)) ∧
            (s.phase r = .pending → g.run.followOn = false →
              CompletesGranting (.periodTimerFire r) s
                (fired { g with counters := counted, run := { g.run with followOn := true } }
                  s.notices)) ∧
            (s.phase r = .pending → g.run.followOn = true →
              CompletesGranting (.periodTimerFire r) s
                (fired { g with counters := { counted with merged := satInc g.counters.merged } }
                  (raised .merged))))

/-! ### The time base -/

/-- A tick, taken once the prescaler has reached TICK_DIV, advances the tick count by one, modulo 2^32; it
takes one from every countdown that is not 0: both counts of every view, the wait timer of a head in
WAIT_PARK, the timer of the transaction in flight and every running period timer (R53, R93, R105, R106, R115,
R159). What a countdown brings about at 0 is a command of its own, the tick is marked as due until it is
taken, and with none due nothing changes: the model's choice (logs 4, 5, 2). -/
def Obligations.TickTaken : Prop :=
  ∀ s : State,
    (s.clock.tickDue = false → exec .tick s = .next s) ∧
      (s.clock.tickDue = true →
        Completes .tick s fun t =>
          t.clock = { s.clock with tickDue := false, tickCount := s.clock.tickCount + 1 } ∧
            (∀ k : Slot,
              t.view k =
                (s.view k).map fun v => { v with idle := v.idle - 1, age := v.age - 1 }) ∧
            (∀ timer k d, s.host.head = some ⟨.waitPark timer k, d⟩ →
              t.host = { s.host with head := some ⟨.waitPark (timer - 1) k, d⟩ }) ∧
            ((∀ timer k, s.progress ≠ some (.waitPark timer k)) → t.host = s.host) ∧
            (∀ txn timer, s.bus.port = .inFlight txn timer →
              t.bus = { s.bus with port := .inFlight txn (timer - 1) }) ∧
            ((∀ txn timer, s.bus.port ≠ .inFlight txn timer) → t.bus = s.bus) ∧
            (∀ r : RegionIx,
              t.region r =
                { s.region r with
                  timer :=
                    if (s.region r).timer.running then ⟨true, (s.region r).timer.remaining - 1⟩
                    else (s.region r).timer }) ∧
            t.catchup = s.catchup ∧ t.park = s.park ∧ t.strobes = s.strobes ∧ t.notices = s.notices ∧
            t.link = s.link ∧ t.pending = s.pending)

/-- One REFCLK period counts the prescaler, which at TICK_DIV returns to 0 and brings a tick, moves the
synchroniser on and samples each line at its level of two periods ago: the first sample sets the filtered
level (log 7); a sample equal to it returns the run count to 0; one that differs adds one, and an edge is due
once the run exceeds the filter count. It is taken only when nothing of the period before is left to be taken
(R105, R109, R110). The delay line, the marks of an edge and of a tick and the last are the model's choice
(logs 5, 6, 7). -/
def Obligations.StrobeSampled : Prop :=
  ∀ (s : State) (pins : Vector Bool 4),
    (¬s.Settled → exec (.strobeSample pins) s = .next s) ∧
      (s.Settled →
        Completes (.strobeSample pins) s fun t =>
          t =
              { s with
                clock :=
                  if s.clock.prescaler + 1 < s.clock.timing.tickDiv then
                    { s.clock with prescaler := s.clock.prescaler + 1 }
                  else { s.clock with prescaler := 0, tickDue := true }
                strobes := t.strobes } ∧
            (∀ early late : Vector Bool 4, s.strobes.sync = [early, late] →
              t.strobes.sync = [late, pins] ∧
                ∀ i : Fin 4,
                  let l := s.strobes.lines.get i
                  let l' := t.strobes.lines.get i
                  let n := (s.clock.timing.filters.get i).count
                  (l.sampled = false → l' = ⟨early.get i, true, 0, false⟩) ∧
                    (l.sampled = true → early.get i = l.level → l' = ⟨l.level, true, 0, false⟩) ∧
                    (l.sampled = true → early.get i ≠ l.level →
                      l' = ⟨l.level, true, l.run + 1, decide (n < l.run + 1)⟩)) ∧
            (s.strobes.sync.length < 2 →
              t.strobes = { s.strobes with sync := s.strobes.sync ++ [pins] }))

/-- Every view that is not in use and has a count at 0 leaves its slot, and its region counts one expiry for
each; all others stay. In a region that is not PENDING, or whose draft is not complete, a HELD bank that lost
its last view becomes FREE, and F stays; a PENDING region whose draft is complete publishes once the last view
on its LIVE bank, or on the HELD bank it waits for, is gone. One view that expires alone gives one notice with
reason AGE where its age stands at 0, IDLE otherwise (R32, R39, R54, R57). With none due nothing changes, and
the expiry is a command of its own after the tick: the model's choice (logs 2, 4). -/
def Obligations.ViewsExpired : Prop :=
  ∀ s : State,
    let due (v : View) : Prop := v.inUse = false ∧ (v.idle = 0 ∨ v.age = 0)
    ((∀ (k : Slot) (v : View), s.view k = some v → ¬due v) → CompletesGranting .viewExpiry s s) ∧
      ∃ u : State, CompletesGranting .viewExpiry s u ∧
        (∀ (k : Slot) (v : View), s.view k = some v →
          (due v → u.view k = none) ∧ (¬due v → u.view k = some v)) ∧
        (∀ k : Slot, s.view k = none → u.view k = none) ∧
        (∀ (r : RegionIx) (gone : List Slot), gone.Nodup →
          (∀ k : Slot, k ∈ gone ↔ ∃ v : View, s.view k = some v ∧ v.region = r ∧ due v) →
          (u.region r).counters.expired = satInc^[gone.length] (s.region r).counters.expired) ∧
        (∀ (r : RegionIx) (b : Bank), s.phase r ≠ .pending ∨ s.AreasLaw ∧ ¬s.DraftComplete r →
          (u.run r).frame = (s.run r).frame ∧
            ((s.run r).roles.get b = .held → s.ViewOn r b → ¬u.ViewOn r b →
              (u.run r).roles.get b = .free) ∧
            ((s.run r).roles.get b ≠ .held ∨ u.ViewOn r b →
              (u.run r).roles.get b = (s.run r).roles.get b)) ∧
        (∀ (r : RegionIx) (b : Bank), s.AreasLaw → s.phase r = .pending → s.DraftComplete r →
          s.ViewOn r b → (∀ (k : Slot) (v : View), s.view k = some v → v.region = r → v.bank = b → due v) →
          (b = (s.run r).liveBank ∨ b = (s.run r).thirdBank ∧ (s.run r).roles.get b = .held) →
          (u.run r).frame = (s.run r).frame + 1) ∧
        (∀ (k : Slot) (v : View), s.view k = some v → due v → s.phase v.region ≠ .pending →
          (∀ (j : Slot) (w : View), s.view j = some w → due w → j = k) →
          u.notices =
            s.notices.raised (s.config v.region).noticeMask
              (s.noticeOf v.region .viewExpired (some v.tag) (if v.age = 0 then 1 else 0))) ∧
        u.host = s.host ∧ u.clock = s.clock ∧ u.strobes = s.strobes ∧ u.link = s.link

/-! ### Host-port reset, and the stops -/

/-- Host-port reset discards the queue and drops the head without a response, withdraws an ungranted HOST
access and leaves one in flight to complete without a head; an ungranted draft write counts as done, and so
does one in flight at its end, whatever its answer: in PENDING the conditions are evaluated, in RETIRING the
moment of fold-back may have come; the view in use ends its use; an enable that waited on the head is applied,
or waits for the transaction in flight, whose end applies it; a drain write held for the head is issued.
Nothing else changes, and the release of HRST_N lets the port accept requests again (R32, R33, R40, R61, R98,
R128, R136, R151, R164). The order of these parts is the model's choice (log 20). What waits is in order
(QueueLawsKept). -/
def Obligations.HostPortReset : Prop :=
  (∀ s : State,
    let emptied : HostPort := ⟨[], none, true, s.host.burstSpan⟩
    let bus : MemoryBus :=
      { s.bus with
        hostReq := none
        port :=
          match s.bus.port with
          | .inFlight ⟨.host p _, a⟩ timer => .inFlight ⟨.host p true, a⟩ timer
          | x => x }
    let reset : State := { s with host := emptied, bus := bus }
    let noView : Prop := ∀ d : Decision, s.decision = some d → d.view = none
    let noEnable : Prop := ∀ r seq o, s.link.waiting ≠ some (.enable r seq o)
    let heldInFlight : Prop := ∃ p a timer, s.bus.port = .inFlight ⟨.host p false, a⟩ timer
    let counted (r : RegionIx) : State := { reset with regions := s.writeCounted (.draftWrite r) }
    (s.DrainSettled →
        (noView → noEnable → (∀ a r, s.bus.hostReq ≠ some ⟨a, .draftWrite r⟩) →
            CompletesGranting .hostPortReset s reset) ∧
          (noView → noEnable →
            ∀ a r, s.bus.hostReq = some ⟨a, .draftWrite r⟩ →
              (s.phase r ≠ .retiring → (s.phase r = .pending → ¬(counted r).DraftComplete r) →
                  CompletesGranting .hostPortReset s (counted r)) ∧
                (s.phase r = .pending → (counted r).DraftComplete r → ¬s.BankAvailable r →
                  CompletesGranting .hostPortReset s ((counted r).heldNoted r)) ∧
                (s.phase r = .pending → (counted r).DraftComplete r → s.BankAvailable r →
                  Completes .hostPortReset s fun t =>
                    (t.run r).frame = (s.run r).frame + 1 ∧ t.host = emptied ∧ t.bus.hostReq = none) ∧
                (s.phase r = .retiring → s.catchup.Taken → s.AreasLaw → s.WaitsLaw →
                  ∃ u : State, CompletesTaking .hostPortReset s u ∧ (counted r).FoldBackIn u r)) ∧
          (noView → (∀ a r, s.bus.hostReq ≠ some ⟨a, .draftWrite r⟩) →
            ∀ r seq, s.link.waiting = some (.enable r seq false) →
              (heldInFlight →
                  CompletesGranting .hostPortReset s
                    { reset with
                      link := { s.link with waiting := some (.enable r seq true) } }) ∧
                (¬heldInFlight → s.AreasLaw → s.EntriesLaw → s.WaitsLaw →
                  ∃ u : State, CompletesGranting .hostPortReset s u ∧
                    reset.EnabledIn u r seq))) ∧
      (noView → noEnable → (∀ a r, s.bus.hostReq ≠ some ⟨a, .draftWrite r⟩) → s.NoRestart →
        ∀ (e : ParkEntry) (retried : Bool), s.park.slot = .waiting e.key retried → s.park.Sound →
          e ∈ s.park.entries → s.EntryInRange e →
          (s.line (s.lineOfEntry e)).stale.get (s.run e.region).draftBank = false →
          ∃ u : State, CompletesGranting .hostPortReset s u ∧ reset.DrainIssuedIn u e retried) ∧
      (noEnable → (∀ a r, s.bus.hostReq ≠ some ⟨a, .draftWrite r⟩) →
        ∀ (d : Decision) (k : Slot) (v : View), s.decision = some d → d.view = some k →
          s.view k = some v → v.inUse = true →
          Completes .hostPortReset s fun t =>
            t.host = emptied ∧ t.bus.hostReq = none ∧
              (v.dropDue = true ∨ v.idle = 0 ∨ v.age = 0 → t.view k = none) ∧
              (v.dropDue = false → v.idle ≠ 0 → v.age ≠ 0 →
                t.view k = some { v with inUse := false }) ∧
              (∀ j : Slot, j ≠ k → t.view j = s.view j) ∧
              (t.region v.region).counters.expired =
                if v.dropDue = false ∧ (v.idle = 0 ∨ v.age = 0) then
                  satInc (s.region v.region).counters.expired
                else (s.region v.region).counters.expired)) ∧
    (∀ (c : Instr) (s : State) (p : HostPurpose) (bus : MemoryBus), s.OrphanEnds c p bus → s.DrainSettled →
      let ends : State := { s with regions := s.writeCounted p, bus := bus }
      ((∀ r : RegionIx, p = .draftWrite r →
            s.phase r ≠ .retiring ∧ (s.phase r = .pending → ¬ends.DraftComplete r)) →
          s.link.waiting = none → CompletesGranting c s ends) ∧
        (∀ r : RegionIx, p = .draftWrite r → s.link.waiting = none →
          (s.phase r = .pending → ends.DraftComplete r → ¬ends.BankAvailable r →
              CompletesGranting c s (ends.heldNoted r)) ∧
            (s.phase r = .pending → ends.DraftComplete r → ends.BankAvailable r →
              Completes c s fun t => (t.run r).frame = (s.run r).frame + 1 ∧ t.host = s.host) ∧
            (s.phase r = .retiring → s.catchup.Taken → s.AreasLaw → s.WaitsLaw →
              ∃ u : State, CompletesTaking c s u ∧ ends.FoldBackIn u r)) ∧
        ∀ r seq, s.link.waiting = some (.enable r seq true) → s.EntriesLaw →
          s.host.head = none → p = .pass →
          ∃ u : State, CompletesGranting c s u ∧ ends.EnabledIn u r seq) ∧
    ∀ s : State,
      exec .hostPortResetRelease s = .next { s with host := { s.host with resetAsserted := false } }

/-- The stops by name, the model's choice (log 18): operands that are no host bus request, an answer of more
than 16 words, an OKAY answer with the wrong number of words. A frame of no byte is ignored, and one whose
first byte is 0xF0 is a FETCH frame of the bytes after it. A command frame that passes the checks is not
rejected, and a command that ends with no frame under way, or as a frame marked to be discarded, is not
executed: with no grant outstanding nothing but the link changes (R137, R153, R156, R179, R181, R184, log 9).
-/
def Obligations.StopsByName : Prop :=
  (∀ (q : HostRequest) (s : State), q.wf = false →
    exec (.hostRequestAccepted q) s = .refused .malformedRequest) ∧
    (∀ (words : List Word) (s : State), 16 < words.length →
      exec (.memoryAnswer (.okay words)) s = .refused .malformedAnswer) ∧
    (∀ (words : List Word) (s : State) (o : Owner) (kind : Kind) (n : Nat), words.length ≤ 16 →
      s.InFlight o kind n → (kind = .read → words.length ≠ n) → (kind = .write → words ≠ []) →
      exec (.memoryAnswer (.okay words)) s = .fault .answerLength) ∧
    (∀ (rest : List Byte) (s : State),
      exec (.commandFrameRejected []) s = .next s ∧
        exec (.commandFrameRejected (0xF0#8 :: rest)) s = exec (.fetch rest.length) s) ∧
    (∀ (frame : List Byte) (i : Instr) (s : State), commandFrameWf frame = true →
      decodeFrame frame = .ok i → exec (.commandFrameRejected frame) s = .next s) ∧
    ∀ (c : Instr) (s : State), c.linkParts.isSome = true → s.grantable = false →
      (s.link.discarding = true →
          exec c s =
            .next
              { s with
                link :=
                  { s.link with
                    discarding := false
                    dropped := min (s.link.dropped + 1) 255
                    mdo := .released } }) ∧
        (s.link.discarding = false → s.link.state ≠ .receiving → exec c s = .next s)
end

