-- ==== Sys2Proof/Laws/State.lean ====
section
/-! SUPPORT. One lemma for each field of the state and each setter, and what the reads of regions, lines
and views give after an update. -/

namespace Sys2Proof.Machine

/-! ### The setters, block by block -/

@[simp] theorem State.setCatchup_regions (s : State) (x : Catchup) : (s.setCatchup x).regions = s.regions := rfl
@[simp] theorem State.setCatchup_views (s : State) (x : Catchup) : (s.setCatchup x).views = s.views := rfl
@[simp] theorem State.setCatchup_catchup (s : State) (x : Catchup) : (s.setCatchup x).catchup = x := rfl
@[simp] theorem State.setCatchup_park (s : State) (x : Catchup) : (s.setCatchup x).park = s.park := rfl
@[simp] theorem State.setCatchup_host (s : State) (x : Catchup) : (s.setCatchup x).host = s.host := rfl
@[simp] theorem State.setCatchup_bus (s : State) (x : Catchup) : (s.setCatchup x).bus = s.bus := rfl
@[simp] theorem State.setCatchup_clock (s : State) (x : Catchup) : (s.setCatchup x).clock = s.clock := rfl
@[simp] theorem State.setCatchup_strobes (s : State) (x : Catchup) : (s.setCatchup x).strobes = s.strobes := rfl
@[simp] theorem State.setCatchup_notices (s : State) (x : Catchup) : (s.setCatchup x).notices = s.notices := rfl
@[simp] theorem State.setCatchup_link (s : State) (x : Catchup) : (s.setCatchup x).link = s.link := rfl
@[simp] theorem State.setCatchup_pending (s : State) (x : Catchup) : (s.setCatchup x).pending = s.pending := rfl

@[simp] theorem State.setPark_regions (s : State) (x : ParkQueue) : (s.setPark x).regions = s.regions := rfl
@[simp] theorem State.setPark_views (s : State) (x : ParkQueue) : (s.setPark x).views = s.views := rfl
@[simp] theorem State.setPark_catchup (s : State) (x : ParkQueue) : (s.setPark x).catchup = s.catchup := rfl
@[simp] theorem State.setPark_park (s : State) (x : ParkQueue) : (s.setPark x).park = x := rfl
@[simp] theorem State.setPark_host (s : State) (x : ParkQueue) : (s.setPark x).host = s.host := rfl
@[simp] theorem State.setPark_bus (s : State) (x : ParkQueue) : (s.setPark x).bus = s.bus := rfl
@[simp] theorem State.setPark_clock (s : State) (x : ParkQueue) : (s.setPark x).clock = s.clock := rfl
@[simp] theorem State.setPark_strobes (s : State) (x : ParkQueue) : (s.setPark x).strobes = s.strobes := rfl
@[simp] theorem State.setPark_notices (s : State) (x : ParkQueue) : (s.setPark x).notices = s.notices := rfl
@[simp] theorem State.setPark_link (s : State) (x : ParkQueue) : (s.setPark x).link = s.link := rfl
@[simp] theorem State.setPark_pending (s : State) (x : ParkQueue) : (s.setPark x).pending = s.pending := rfl

@[simp] theorem State.setViews_regions (s : State) (x : Vector (Option View) 32) : (s.setViews x).regions = s.regions := rfl
@[simp] theorem State.setViews_views (s : State) (x : Vector (Option View) 32) : (s.setViews x).views = x := rfl
@[simp] theorem State.setViews_catchup (s : State) (x : Vector (Option View) 32) : (s.setViews x).catchup = s.catchup := rfl
@[simp] theorem State.setViews_park (s : State) (x : Vector (Option View) 32) : (s.setViews x).park = s.park := rfl
@[simp] theorem State.setViews_host (s : State) (x : Vector (Option View) 32) : (s.setViews x).host = s.host := rfl
@[simp] theorem State.setViews_bus (s : State) (x : Vector (Option View) 32) : (s.setViews x).bus = s.bus := rfl
@[simp] theorem State.setViews_clock (s : State) (x : Vector (Option View) 32) : (s.setViews x).clock = s.clock := rfl
@[simp] theorem State.setViews_strobes (s : State) (x : Vector (Option View) 32) : (s.setViews x).strobes = s.strobes := rfl
@[simp] theorem State.setViews_notices (s : State) (x : Vector (Option View) 32) : (s.setViews x).notices = s.notices := rfl
@[simp] theorem State.setViews_link (s : State) (x : Vector (Option View) 32) : (s.setViews x).link = s.link := rfl
@[simp] theorem State.setViews_pending (s : State) (x : Vector (Option View) 32) : (s.setViews x).pending = s.pending := rfl

@[simp] theorem State.setHost_regions (s : State) (x : HostPort) : (s.setHost x).regions = s.regions := rfl
@[simp] theorem State.setHost_views (s : State) (x : HostPort) : (s.setHost x).views = s.views := rfl
@[simp] theorem State.setHost_catchup (s : State) (x : HostPort) : (s.setHost x).catchup = s.catchup := rfl
@[simp] theorem State.setHost_park (s : State) (x : HostPort) : (s.setHost x).park = s.park := rfl
@[simp] theorem State.setHost_host (s : State) (x : HostPort) : (s.setHost x).host = x := rfl
@[simp] theorem State.setHost_bus (s : State) (x : HostPort) : (s.setHost x).bus = s.bus := rfl
@[simp] theorem State.setHost_clock (s : State) (x : HostPort) : (s.setHost x).clock = s.clock := rfl
@[simp] theorem State.setHost_strobes (s : State) (x : HostPort) : (s.setHost x).strobes = s.strobes := rfl
@[simp] theorem State.setHost_notices (s : State) (x : HostPort) : (s.setHost x).notices = s.notices := rfl
@[simp] theorem State.setHost_link (s : State) (x : HostPort) : (s.setHost x).link = s.link := rfl
@[simp] theorem State.setHost_pending (s : State) (x : HostPort) : (s.setHost x).pending = s.pending := rfl

@[simp] theorem State.setBus_regions (s : State) (x : MemoryBus) : (s.setBus x).regions = s.regions := rfl
@[simp] theorem State.setBus_views (s : State) (x : MemoryBus) : (s.setBus x).views = s.views := rfl
@[simp] theorem State.setBus_catchup (s : State) (x : MemoryBus) : (s.setBus x).catchup = s.catchup := rfl
@[simp] theorem State.setBus_park (s : State) (x : MemoryBus) : (s.setBus x).park = s.park := rfl
@[simp] theorem State.setBus_host (s : State) (x : MemoryBus) : (s.setBus x).host = s.host := rfl
@[simp] theorem State.setBus_bus (s : State) (x : MemoryBus) : (s.setBus x).bus = x := rfl
@[simp] theorem State.setBus_clock (s : State) (x : MemoryBus) : (s.setBus x).clock = s.clock := rfl
@[simp] theorem State.setBus_strobes (s : State) (x : MemoryBus) : (s.setBus x).strobes = s.strobes := rfl
@[simp] theorem State.setBus_notices (s : State) (x : MemoryBus) : (s.setBus x).notices = s.notices := rfl
@[simp] theorem State.setBus_link (s : State) (x : MemoryBus) : (s.setBus x).link = s.link := rfl
@[simp] theorem State.setBus_pending (s : State) (x : MemoryBus) : (s.setBus x).pending = s.pending := rfl

@[simp] theorem State.setClock_regions (s : State) (x : TimeBase) : (s.setClock x).regions = s.regions := rfl
@[simp] theorem State.setClock_views (s : State) (x : TimeBase) : (s.setClock x).views = s.views := rfl
@[simp] theorem State.setClock_catchup (s : State) (x : TimeBase) : (s.setClock x).catchup = s.catchup := rfl
@[simp] theorem State.setClock_park (s : State) (x : TimeBase) : (s.setClock x).park = s.park := rfl
@[simp] theorem State.setClock_host (s : State) (x : TimeBase) : (s.setClock x).host = s.host := rfl
@[simp] theorem State.setClock_bus (s : State) (x : TimeBase) : (s.setClock x).bus = s.bus := rfl
@[simp] theorem State.setClock_clock (s : State) (x : TimeBase) : (s.setClock x).clock = x := rfl
@[simp] theorem State.setClock_strobes (s : State) (x : TimeBase) : (s.setClock x).strobes = s.strobes := rfl
@[simp] theorem State.setClock_notices (s : State) (x : TimeBase) : (s.setClock x).notices = s.notices := rfl
@[simp] theorem State.setClock_link (s : State) (x : TimeBase) : (s.setClock x).link = s.link := rfl
@[simp] theorem State.setClock_pending (s : State) (x : TimeBase) : (s.setClock x).pending = s.pending := rfl

@[simp] theorem State.setStrobes_regions (s : State) (x : Strobes) : (s.setStrobes x).regions = s.regions := rfl
@[simp] theorem State.setStrobes_views (s : State) (x : Strobes) : (s.setStrobes x).views = s.views := rfl
@[simp] theorem State.setStrobes_catchup (s : State) (x : Strobes) : (s.setStrobes x).catchup = s.catchup := rfl
@[simp] theorem State.setStrobes_park (s : State) (x : Strobes) : (s.setStrobes x).park = s.park := rfl
@[simp] theorem State.setStrobes_host (s : State) (x : Strobes) : (s.setStrobes x).host = s.host := rfl
@[simp] theorem State.setStrobes_bus (s : State) (x : Strobes) : (s.setStrobes x).bus = s.bus := rfl
@[simp] theorem State.setStrobes_clock (s : State) (x : Strobes) : (s.setStrobes x).clock = s.clock := rfl
@[simp] theorem State.setStrobes_strobes (s : State) (x : Strobes) : (s.setStrobes x).strobes = x := rfl
@[simp] theorem State.setStrobes_notices (s : State) (x : Strobes) : (s.setStrobes x).notices = s.notices := rfl
@[simp] theorem State.setStrobes_link (s : State) (x : Strobes) : (s.setStrobes x).link = s.link := rfl
@[simp] theorem State.setStrobes_pending (s : State) (x : Strobes) : (s.setStrobes x).pending = s.pending := rfl

@[simp] theorem State.setNotices_regions (s : State) (x : NoticeUnit) : (s.setNotices x).regions = s.regions := rfl
@[simp] theorem State.setNotices_views (s : State) (x : NoticeUnit) : (s.setNotices x).views = s.views := rfl
@[simp] theorem State.setNotices_catchup (s : State) (x : NoticeUnit) : (s.setNotices x).catchup = s.catchup := rfl
@[simp] theorem State.setNotices_park (s : State) (x : NoticeUnit) : (s.setNotices x).park = s.park := rfl
@[simp] theorem State.setNotices_host (s : State) (x : NoticeUnit) : (s.setNotices x).host = s.host := rfl
@[simp] theorem State.setNotices_bus (s : State) (x : NoticeUnit) : (s.setNotices x).bus = s.bus := rfl
@[simp] theorem State.setNotices_clock (s : State) (x : NoticeUnit) : (s.setNotices x).clock = s.clock := rfl
@[simp] theorem State.setNotices_strobes (s : State) (x : NoticeUnit) : (s.setNotices x).strobes = s.strobes := rfl
@[simp] theorem State.setNotices_notices (s : State) (x : NoticeUnit) : (s.setNotices x).notices = x := rfl
@[simp] theorem State.setNotices_link (s : State) (x : NoticeUnit) : (s.setNotices x).link = s.link := rfl
@[simp] theorem State.setNotices_pending (s : State) (x : NoticeUnit) : (s.setNotices x).pending = s.pending := rfl

@[simp] theorem State.setLink_regions (s : State) (x : Link) : (s.setLink x).regions = s.regions := rfl
@[simp] theorem State.setLink_views (s : State) (x : Link) : (s.setLink x).views = s.views := rfl
@[simp] theorem State.setLink_catchup (s : State) (x : Link) : (s.setLink x).catchup = s.catchup := rfl
@[simp] theorem State.setLink_park (s : State) (x : Link) : (s.setLink x).park = s.park := rfl
@[simp] theorem State.setLink_host (s : State) (x : Link) : (s.setLink x).host = s.host := rfl
@[simp] theorem State.setLink_bus (s : State) (x : Link) : (s.setLink x).bus = s.bus := rfl
@[simp] theorem State.setLink_clock (s : State) (x : Link) : (s.setLink x).clock = s.clock := rfl
@[simp] theorem State.setLink_strobes (s : State) (x : Link) : (s.setLink x).strobes = s.strobes := rfl
@[simp] theorem State.setLink_notices (s : State) (x : Link) : (s.setLink x).notices = s.notices := rfl
@[simp] theorem State.setLink_link (s : State) (x : Link) : (s.setLink x).link = x := rfl
@[simp] theorem State.setLink_pending (s : State) (x : Link) : (s.setLink x).pending = s.pending := rfl

/-! ### Updates of parts of a block leave the other blocks -/

@[simp] theorem State.modRegion_views (s : State) (r : RegionIx) (f : Region → Region) :
    (s.modRegion r f).views = s.views := rfl
@[simp] theorem State.modRegion_catchup (s : State) (r : RegionIx) (f : Region → Region) :
    (s.modRegion r f).catchup = s.catchup := rfl
@[simp] theorem State.modRegion_park (s : State) (r : RegionIx) (f : Region → Region) :
    (s.modRegion r f).park = s.park := rfl
@[simp] theorem State.modRegion_host (s : State) (r : RegionIx) (f : Region → Region) :
    (s.modRegion r f).host = s.host := rfl
@[simp] theorem State.modRegion_bus (s : State) (r : RegionIx) (f : Region → Region) :
    (s.modRegion r f).bus = s.bus := rfl
@[simp] theorem State.modRegion_clock (s : State) (r : RegionIx) (f : Region → Region) :
    (s.modRegion r f).clock = s.clock := rfl
@[simp] theorem State.modRegion_strobes (s : State) (r : RegionIx) (f : Region → Region) :
    (s.modRegion r f).strobes = s.strobes := rfl
@[simp] theorem State.modRegion_notices (s : State) (r : RegionIx) (f : Region → Region) :
    (s.modRegion r f).notices = s.notices := rfl
@[simp] theorem State.modRegion_link (s : State) (r : RegionIx) (f : Region → Region) :
    (s.modRegion r f).link = s.link := rfl
@[simp] theorem State.modRegion_pending (s : State) (r : RegionIx) (f : Region → Region) :
    (s.modRegion r f).pending = s.pending := rfl

@[simp] theorem State.modRegions_views (s : State) (f : Region → Region) :
    (s.modRegions f).views = s.views := rfl
@[simp] theorem State.modRegions_catchup (s : State) (f : Region → Region) :
    (s.modRegions f).catchup = s.catchup := rfl
@[simp] theorem State.modRegions_park (s : State) (f : Region → Region) :
    (s.modRegions f).park = s.park := rfl
@[simp] theorem State.modRegions_host (s : State) (f : Region → Region) :
    (s.modRegions f).host = s.host := rfl
@[simp] theorem State.modRegions_bus (s : State) (f : Region → Region) :
    (s.modRegions f).bus = s.bus := rfl
@[simp] theorem State.modRegions_clock (s : State) (f : Region → Region) :
    (s.modRegions f).clock = s.clock := rfl
@[simp] theorem State.modRegions_strobes (s : State) (f : Region → Region) :
    (s.modRegions f).strobes = s.strobes := rfl
@[simp] theorem State.modRegions_notices (s : State) (f : Region → Region) :
    (s.modRegions f).notices = s.notices := rfl
@[simp] theorem State.modRegions_link (s : State) (f : Region → Region) :
    (s.modRegions f).link = s.link := rfl
@[simp] theorem State.modRegions_pending (s : State) (f : Region → Region) :
    (s.modRegions f).pending = s.pending := rfl

@[simp] theorem State.modRun_views (s : State) (r : RegionIx) (f : Runtime → Runtime) :
    (s.modRun r f).views = s.views := rfl
@[simp] theorem State.modRun_catchup (s : State) (r : RegionIx) (f : Runtime → Runtime) :
    (s.modRun r f).catchup = s.catchup := rfl
@[simp] theorem State.modRun_park (s : State) (r : RegionIx) (f : Runtime → Runtime) :
    (s.modRun r f).park = s.park := rfl
@[simp] theorem State.modRun_host (s : State) (r : RegionIx) (f : Runtime → Runtime) :
    (s.modRun r f).host = s.host := rfl
@[simp] theorem State.modRun_bus (s : State) (r : RegionIx) (f : Runtime → Runtime) :
    (s.modRun r f).bus = s.bus := rfl
@[simp] theorem State.modRun_clock (s : State) (r : RegionIx) (f : Runtime → Runtime) :
    (s.modRun r f).clock = s.clock := rfl
@[simp] theorem State.modRun_strobes (s : State) (r : RegionIx) (f : Runtime → Runtime) :
    (s.modRun r f).strobes = s.strobes := rfl
@[simp] theorem State.modRun_notices (s : State) (r : RegionIx) (f : Runtime → Runtime) :
    (s.modRun r f).notices = s.notices := rfl
@[simp] theorem State.modRun_link (s : State) (r : RegionIx) (f : Runtime → Runtime) :
    (s.modRun r f).link = s.link := rfl
@[simp] theorem State.modRun_pending (s : State) (r : RegionIx) (f : Runtime → Runtime) :
    (s.modRun r f).pending = s.pending := rfl

@[simp] theorem State.modLife_views (s : State) (r : RegionIx) (f : Lifecycle → Lifecycle) :
    (s.modLife r f).views = s.views := rfl
@[simp] theorem State.modLife_catchup (s : State) (r : RegionIx) (f : Lifecycle → Lifecycle) :
    (s.modLife r f).catchup = s.catchup := rfl
@[simp] theorem State.modLife_park (s : State) (r : RegionIx) (f : Lifecycle → Lifecycle) :
    (s.modLife r f).park = s.park := rfl
@[simp] theorem State.modLife_host (s : State) (r : RegionIx) (f : Lifecycle → Lifecycle) :
    (s.modLife r f).host = s.host := rfl
@[simp] theorem State.modLife_bus (s : State) (r : RegionIx) (f : Lifecycle → Lifecycle) :
    (s.modLife r f).bus = s.bus := rfl
@[simp] theorem State.modLife_clock (s : State) (r : RegionIx) (f : Lifecycle → Lifecycle) :
    (s.modLife r f).clock = s.clock := rfl
@[simp] theorem State.modLife_strobes (s : State) (r : RegionIx) (f : Lifecycle → Lifecycle) :
    (s.modLife r f).strobes = s.strobes := rfl
@[simp] theorem State.modLife_notices (s : State) (r : RegionIx) (f : Lifecycle → Lifecycle) :
    (s.modLife r f).notices = s.notices := rfl
@[simp] theorem State.modLife_link (s : State) (r : RegionIx) (f : Lifecycle → Lifecycle) :
    (s.modLife r f).link = s.link := rfl
@[simp] theorem State.modLife_pending (s : State) (r : RegionIx) (f : Lifecycle → Lifecycle) :
    (s.modLife r f).pending = s.pending := rfl

@[simp] theorem State.modCounters_views (s : State) (r : RegionIx) (f : Counters → Counters) :
    (s.modCounters r f).views = s.views := rfl
@[simp] theorem State.modCounters_catchup (s : State) (r : RegionIx) (f : Counters → Counters) :
    (s.modCounters r f).catchup = s.catchup := rfl
@[simp] theorem State.modCounters_park (s : State) (r : RegionIx) (f : Counters → Counters) :
    (s.modCounters r f).park = s.park := rfl
@[simp] theorem State.modCounters_host (s : State) (r : RegionIx) (f : Counters → Counters) :
    (s.modCounters r f).host = s.host := rfl
@[simp] theorem State.modCounters_bus (s : State) (r : RegionIx) (f : Counters → Counters) :
    (s.modCounters r f).bus = s.bus := rfl
@[simp] theorem State.modCounters_clock (s : State) (r : RegionIx) (f : Counters → Counters) :
    (s.modCounters r f).clock = s.clock := rfl
@[simp] theorem State.modCounters_strobes (s : State) (r : RegionIx) (f : Counters → Counters) :
    (s.modCounters r f).strobes = s.strobes := rfl
@[simp] theorem State.modCounters_notices (s : State) (r : RegionIx) (f : Counters → Counters) :
    (s.modCounters r f).notices = s.notices := rfl
@[simp] theorem State.modCounters_link (s : State) (r : RegionIx) (f : Counters → Counters) :
    (s.modCounters r f).link = s.link := rfl
@[simp] theorem State.modCounters_pending (s : State) (r : RegionIx) (f : Counters → Counters) :
    (s.modCounters r f).pending = s.pending := rfl

@[simp] theorem State.setTimer_views (s : State) (r : RegionIx) (x : PeriodTimer) :
    (s.setTimer r x).views = s.views := rfl
@[simp] theorem State.setTimer_catchup (s : State) (r : RegionIx) (x : PeriodTimer) :
    (s.setTimer r x).catchup = s.catchup := rfl
@[simp] theorem State.setTimer_park (s : State) (r : RegionIx) (x : PeriodTimer) :
    (s.setTimer r x).park = s.park := rfl
@[simp] theorem State.setTimer_host (s : State) (r : RegionIx) (x : PeriodTimer) :
    (s.setTimer r x).host = s.host := rfl
@[simp] theorem State.setTimer_bus (s : State) (r : RegionIx) (x : PeriodTimer) :
    (s.setTimer r x).bus = s.bus := rfl
@[simp] theorem State.setTimer_clock (s : State) (r : RegionIx) (x : PeriodTimer) :
    (s.setTimer r x).clock = s.clock := rfl
@[simp] theorem State.setTimer_strobes (s : State) (r : RegionIx) (x : PeriodTimer) :
    (s.setTimer r x).strobes = s.strobes := rfl
@[simp] theorem State.setTimer_notices (s : State) (r : RegionIx) (x : PeriodTimer) :
    (s.setTimer r x).notices = s.notices := rfl
@[simp] theorem State.setTimer_link (s : State) (r : RegionIx) (x : PeriodTimer) :
    (s.setTimer r x).link = s.link := rfl
@[simp] theorem State.setTimer_pending (s : State) (r : RegionIx) (x : PeriodTimer) :
    (s.setTimer r x).pending = s.pending := rfl

@[simp] theorem State.modLines_regions (s : State) (f : Nat → LineEntry → LineEntry) :
    (s.modLines f).regions = s.regions := rfl
@[simp] theorem State.modLines_views (s : State) (f : Nat → LineEntry → LineEntry) :
    (s.modLines f).views = s.views := rfl
@[simp] theorem State.modLines_park (s : State) (f : Nat → LineEntry → LineEntry) :
    (s.modLines f).park = s.park := rfl
@[simp] theorem State.modLines_host (s : State) (f : Nat → LineEntry → LineEntry) :
    (s.modLines f).host = s.host := rfl
@[simp] theorem State.modLines_bus (s : State) (f : Nat → LineEntry → LineEntry) :
    (s.modLines f).bus = s.bus := rfl
@[simp] theorem State.modLines_clock (s : State) (f : Nat → LineEntry → LineEntry) :
    (s.modLines f).clock = s.clock := rfl
@[simp] theorem State.modLines_strobes (s : State) (f : Nat → LineEntry → LineEntry) :
    (s.modLines f).strobes = s.strobes := rfl
@[simp] theorem State.modLines_notices (s : State) (f : Nat → LineEntry → LineEntry) :
    (s.modLines f).notices = s.notices := rfl
@[simp] theorem State.modLines_link (s : State) (f : Nat → LineEntry → LineEntry) :
    (s.modLines f).link = s.link := rfl
@[simp] theorem State.modLines_pending (s : State) (f : Nat → LineEntry → LineEntry) :
    (s.modLines f).pending = s.pending := rfl

@[simp] theorem State.modLine_regions (s : State) (ix : Nat) (f : LineEntry → LineEntry) :
    (s.modLine ix f).regions = s.regions := rfl
@[simp] theorem State.modLine_views (s : State) (ix : Nat) (f : LineEntry → LineEntry) :
    (s.modLine ix f).views = s.views := rfl
@[simp] theorem State.modLine_park (s : State) (ix : Nat) (f : LineEntry → LineEntry) :
    (s.modLine ix f).park = s.park := rfl
@[simp] theorem State.modLine_host (s : State) (ix : Nat) (f : LineEntry → LineEntry) :
    (s.modLine ix f).host = s.host := rfl
@[simp] theorem State.modLine_bus (s : State) (ix : Nat) (f : LineEntry → LineEntry) :
    (s.modLine ix f).bus = s.bus := rfl
@[simp] theorem State.modLine_clock (s : State) (ix : Nat) (f : LineEntry → LineEntry) :
    (s.modLine ix f).clock = s.clock := rfl
@[simp] theorem State.modLine_strobes (s : State) (ix : Nat) (f : LineEntry → LineEntry) :
    (s.modLine ix f).strobes = s.strobes := rfl
@[simp] theorem State.modLine_notices (s : State) (ix : Nat) (f : LineEntry → LineEntry) :
    (s.modLine ix f).notices = s.notices := rfl
@[simp] theorem State.modLine_link (s : State) (ix : Nat) (f : LineEntry → LineEntry) :
    (s.modLine ix f).link = s.link := rfl
@[simp] theorem State.modLine_pending (s : State) (ix : Nat) (f : LineEntry → LineEntry) :
    (s.modLine ix f).pending = s.pending := rfl

@[simp] theorem State.modRange_regions (s : State) (c : RegionConfig) (f : LineEntry → LineEntry) :
    (s.modRange c f).regions = s.regions := rfl
@[simp] theorem State.modRange_views (s : State) (c : RegionConfig) (f : LineEntry → LineEntry) :
    (s.modRange c f).views = s.views := rfl
@[simp] theorem State.modRange_park (s : State) (c : RegionConfig) (f : LineEntry → LineEntry) :
    (s.modRange c f).park = s.park := rfl
@[simp] theorem State.modRange_host (s : State) (c : RegionConfig) (f : LineEntry → LineEntry) :
    (s.modRange c f).host = s.host := rfl
@[simp] theorem State.modRange_bus (s : State) (c : RegionConfig) (f : LineEntry → LineEntry) :
    (s.modRange c f).bus = s.bus := rfl
@[simp] theorem State.modRange_clock (s : State) (c : RegionConfig) (f : LineEntry → LineEntry) :
    (s.modRange c f).clock = s.clock := rfl
@[simp] theorem State.modRange_strobes (s : State) (c : RegionConfig) (f : LineEntry → LineEntry) :
    (s.modRange c f).strobes = s.strobes := rfl
@[simp] theorem State.modRange_notices (s : State) (c : RegionConfig) (f : LineEntry → LineEntry) :
    (s.modRange c f).notices = s.notices := rfl
@[simp] theorem State.modRange_link (s : State) (c : RegionConfig) (f : LineEntry → LineEntry) :
    (s.modRange c f).link = s.link := rfl
@[simp] theorem State.modRange_pending (s : State) (c : RegionConfig) (f : LineEntry → LineEntry) :
    (s.modRange c f).pending = s.pending := rfl

@[simp] theorem State.setQueue_regions (s : State) (q : List CatchEntry) :
    (s.setQueue q).regions = s.regions := rfl
@[simp] theorem State.setQueue_views (s : State) (q : List CatchEntry) :
    (s.setQueue q).views = s.views := rfl
@[simp] theorem State.setQueue_park (s : State) (q : List CatchEntry) :
    (s.setQueue q).park = s.park := rfl
@[simp] theorem State.setQueue_host (s : State) (q : List CatchEntry) :
    (s.setQueue q).host = s.host := rfl
@[simp] theorem State.setQueue_bus (s : State) (q : List CatchEntry) :
    (s.setQueue q).bus = s.bus := rfl
@[simp] theorem State.setQueue_clock (s : State) (q : List CatchEntry) :
    (s.setQueue q).clock = s.clock := rfl
@[simp] theorem State.setQueue_strobes (s : State) (q : List CatchEntry) :
    (s.setQueue q).strobes = s.strobes := rfl
@[simp] theorem State.setQueue_notices (s : State) (q : List CatchEntry) :
    (s.setQueue q).notices = s.notices := rfl
@[simp] theorem State.setQueue_link (s : State) (q : List CatchEntry) :
    (s.setQueue q).link = s.link := rfl
@[simp] theorem State.setQueue_pending (s : State) (q : List CatchEntry) :
    (s.setQueue q).pending = s.pending := rfl

@[simp] theorem State.setEngine_regions (s : State) (e : Engine) :
    (s.setEngine e).regions = s.regions := rfl
@[simp] theorem State.setEngine_views (s : State) (e : Engine) :
    (s.setEngine e).views = s.views := rfl
@[simp] theorem State.setEngine_park (s : State) (e : Engine) :
    (s.setEngine e).park = s.park := rfl
@[simp] theorem State.setEngine_host (s : State) (e : Engine) :
    (s.setEngine e).host = s.host := rfl
@[simp] theorem State.setEngine_bus (s : State) (e : Engine) :
    (s.setEngine e).bus = s.bus := rfl
@[simp] theorem State.setEngine_clock (s : State) (e : Engine) :
    (s.setEngine e).clock = s.clock := rfl
@[simp] theorem State.setEngine_strobes (s : State) (e : Engine) :
    (s.setEngine e).strobes = s.strobes := rfl
@[simp] theorem State.setEngine_notices (s : State) (e : Engine) :
    (s.setEngine e).notices = s.notices := rfl
@[simp] theorem State.setEngine_link (s : State) (e : Engine) :
    (s.setEngine e).link = s.link := rfl
@[simp] theorem State.setEngine_pending (s : State) (e : Engine) :
    (s.setEngine e).pending = s.pending := rfl

@[simp] theorem State.setSlot_regions (s : State) (d : DrainSlot) :
    (s.setSlot d).regions = s.regions := rfl
@[simp] theorem State.setSlot_views (s : State) (d : DrainSlot) :
    (s.setSlot d).views = s.views := rfl
@[simp] theorem State.setSlot_catchup (s : State) (d : DrainSlot) :
    (s.setSlot d).catchup = s.catchup := rfl
@[simp] theorem State.setSlot_host (s : State) (d : DrainSlot) :
    (s.setSlot d).host = s.host := rfl
@[simp] theorem State.setSlot_bus (s : State) (d : DrainSlot) :
    (s.setSlot d).bus = s.bus := rfl
@[simp] theorem State.setSlot_clock (s : State) (d : DrainSlot) :
    (s.setSlot d).clock = s.clock := rfl
@[simp] theorem State.setSlot_strobes (s : State) (d : DrainSlot) :
    (s.setSlot d).strobes = s.strobes := rfl
@[simp] theorem State.setSlot_notices (s : State) (d : DrainSlot) :
    (s.setSlot d).notices = s.notices := rfl
@[simp] theorem State.setSlot_link (s : State) (d : DrainSlot) :
    (s.setSlot d).link = s.link := rfl
@[simp] theorem State.setSlot_pending (s : State) (d : DrainSlot) :
    (s.setSlot d).pending = s.pending := rfl

@[simp] theorem State.setEntries_regions (s : State) (l : List ParkEntry) :
    (s.setEntries l).regions = s.regions := rfl
@[simp] theorem State.setEntries_views (s : State) (l : List ParkEntry) :
    (s.setEntries l).views = s.views := rfl
@[simp] theorem State.setEntries_catchup (s : State) (l : List ParkEntry) :
    (s.setEntries l).catchup = s.catchup := rfl
@[simp] theorem State.setEntries_host (s : State) (l : List ParkEntry) :
    (s.setEntries l).host = s.host := rfl
@[simp] theorem State.setEntries_bus (s : State) (l : List ParkEntry) :
    (s.setEntries l).bus = s.bus := rfl
@[simp] theorem State.setEntries_clock (s : State) (l : List ParkEntry) :
    (s.setEntries l).clock = s.clock := rfl
@[simp] theorem State.setEntries_strobes (s : State) (l : List ParkEntry) :
    (s.setEntries l).strobes = s.strobes := rfl
@[simp] theorem State.setEntries_notices (s : State) (l : List ParkEntry) :
    (s.setEntries l).notices = s.notices := rfl
@[simp] theorem State.setEntries_link (s : State) (l : List ParkEntry) :
    (s.setEntries l).link = s.link := rfl
@[simp] theorem State.setEntries_pending (s : State) (l : List ParkEntry) :
    (s.setEntries l).pending = s.pending := rfl

@[simp] theorem State.modEntry_regions (s : State) (k : ParkKey) (f : ParkEntry → ParkEntry) :
    (s.modEntry k f).regions = s.regions := rfl
@[simp] theorem State.modEntry_views (s : State) (k : ParkKey) (f : ParkEntry → ParkEntry) :
    (s.modEntry k f).views = s.views := rfl
@[simp] theorem State.modEntry_catchup (s : State) (k : ParkKey) (f : ParkEntry → ParkEntry) :
    (s.modEntry k f).catchup = s.catchup := rfl
@[simp] theorem State.modEntry_host (s : State) (k : ParkKey) (f : ParkEntry → ParkEntry) :
    (s.modEntry k f).host = s.host := rfl
@[simp] theorem State.modEntry_bus (s : State) (k : ParkKey) (f : ParkEntry → ParkEntry) :
    (s.modEntry k f).bus = s.bus := rfl
@[simp] theorem State.modEntry_clock (s : State) (k : ParkKey) (f : ParkEntry → ParkEntry) :
    (s.modEntry k f).clock = s.clock := rfl
@[simp] theorem State.modEntry_strobes (s : State) (k : ParkKey) (f : ParkEntry → ParkEntry) :
    (s.modEntry k f).strobes = s.strobes := rfl
@[simp] theorem State.modEntry_notices (s : State) (k : ParkKey) (f : ParkEntry → ParkEntry) :
    (s.modEntry k f).notices = s.notices := rfl
@[simp] theorem State.modEntry_link (s : State) (k : ParkKey) (f : ParkEntry → ParkEntry) :
    (s.modEntry k f).link = s.link := rfl
@[simp] theorem State.modEntry_pending (s : State) (k : ParkKey) (f : ParkEntry → ParkEntry) :
    (s.modEntry k f).pending = s.pending := rfl

@[simp] theorem State.setView_regions (s : State) (k : Slot) (v : Option View) :
    (s.setView k v).regions = s.regions := rfl
@[simp] theorem State.setView_catchup (s : State) (k : Slot) (v : Option View) :
    (s.setView k v).catchup = s.catchup := rfl
@[simp] theorem State.setView_park (s : State) (k : Slot) (v : Option View) :
    (s.setView k v).park = s.park := rfl
@[simp] theorem State.setView_host (s : State) (k : Slot) (v : Option View) :
    (s.setView k v).host = s.host := rfl
@[simp] theorem State.setView_bus (s : State) (k : Slot) (v : Option View) :
    (s.setView k v).bus = s.bus := rfl
@[simp] theorem State.setView_clock (s : State) (k : Slot) (v : Option View) :
    (s.setView k v).clock = s.clock := rfl
@[simp] theorem State.setView_strobes (s : State) (k : Slot) (v : Option View) :
    (s.setView k v).strobes = s.strobes := rfl
@[simp] theorem State.setView_notices (s : State) (k : Slot) (v : Option View) :
    (s.setView k v).notices = s.notices := rfl
@[simp] theorem State.setView_link (s : State) (k : Slot) (v : Option View) :
    (s.setView k v).link = s.link := rfl
@[simp] theorem State.setView_pending (s : State) (k : Slot) (v : Option View) :
    (s.setView k v).pending = s.pending := rfl

@[simp] theorem State.setHead_regions (s : State) (h : Option Head) :
    (s.setHead h).regions = s.regions := rfl
@[simp] theorem State.setHead_views (s : State) (h : Option Head) :
    (s.setHead h).views = s.views := rfl
@[simp] theorem State.setHead_catchup (s : State) (h : Option Head) :
    (s.setHead h).catchup = s.catchup := rfl
@[simp] theorem State.setHead_park (s : State) (h : Option Head) :
    (s.setHead h).park = s.park := rfl
@[simp] theorem State.setHead_bus (s : State) (h : Option Head) :
    (s.setHead h).bus = s.bus := rfl
@[simp] theorem State.setHead_clock (s : State) (h : Option Head) :
    (s.setHead h).clock = s.clock := rfl
@[simp] theorem State.setHead_strobes (s : State) (h : Option Head) :
    (s.setHead h).strobes = s.strobes := rfl
@[simp] theorem State.setHead_notices (s : State) (h : Option Head) :
    (s.setHead h).notices = s.notices := rfl
@[simp] theorem State.setHead_link (s : State) (h : Option Head) :
    (s.setHead h).link = s.link := rfl
@[simp] theorem State.setHead_pending (s : State) (h : Option Head) :
    (s.setHead h).pending = s.pending := rfl

@[simp] theorem State.setProgress_regions (s : State) (p : Progress) :
    (s.setProgress p).regions = s.regions := rfl
@[simp] theorem State.setProgress_views (s : State) (p : Progress) :
    (s.setProgress p).views = s.views := rfl
@[simp] theorem State.setProgress_catchup (s : State) (p : Progress) :
    (s.setProgress p).catchup = s.catchup := rfl
@[simp] theorem State.setProgress_park (s : State) (p : Progress) :
    (s.setProgress p).park = s.park := rfl
@[simp] theorem State.setProgress_bus (s : State) (p : Progress) :
    (s.setProgress p).bus = s.bus := rfl
@[simp] theorem State.setProgress_clock (s : State) (p : Progress) :
    (s.setProgress p).clock = s.clock := rfl
@[simp] theorem State.setProgress_strobes (s : State) (p : Progress) :
    (s.setProgress p).strobes = s.strobes := rfl
@[simp] theorem State.setProgress_notices (s : State) (p : Progress) :
    (s.setProgress p).notices = s.notices := rfl
@[simp] theorem State.setProgress_link (s : State) (p : Progress) :
    (s.setProgress p).link = s.link := rfl
@[simp] theorem State.setProgress_pending (s : State) (p : Progress) :
    (s.setProgress p).pending = s.pending := rfl

@[simp] theorem State.requestHost_regions (s : State) (a : HostAccess) :
    (s.requestHost a).regions = s.regions := rfl
@[simp] theorem State.requestHost_views (s : State) (a : HostAccess) :
    (s.requestHost a).views = s.views := rfl
@[simp] theorem State.requestHost_catchup (s : State) (a : HostAccess) :
    (s.requestHost a).catchup = s.catchup := rfl
@[simp] theorem State.requestHost_park (s : State) (a : HostAccess) :
    (s.requestHost a).park = s.park := rfl
@[simp] theorem State.requestHost_host (s : State) (a : HostAccess) :
    (s.requestHost a).host = s.host := rfl
@[simp] theorem State.requestHost_clock (s : State) (a : HostAccess) :
    (s.requestHost a).clock = s.clock := rfl
@[simp] theorem State.requestHost_strobes (s : State) (a : HostAccess) :
    (s.requestHost a).strobes = s.strobes := rfl
@[simp] theorem State.requestHost_notices (s : State) (a : HostAccess) :
    (s.requestHost a).notices = s.notices := rfl
@[simp] theorem State.requestHost_link (s : State) (a : HostAccess) :
    (s.requestHost a).link = s.link := rfl
@[simp] theorem State.requestHost_pending (s : State) (a : HostAccess) :
    (s.requestHost a).pending = s.pending := rfl

@[simp] theorem State.requestDrain_regions (s : State) (a : Access) :
    (s.requestDrain a).regions = s.regions := rfl
@[simp] theorem State.requestDrain_views (s : State) (a : Access) :
    (s.requestDrain a).views = s.views := rfl
@[simp] theorem State.requestDrain_catchup (s : State) (a : Access) :
    (s.requestDrain a).catchup = s.catchup := rfl
@[simp] theorem State.requestDrain_park (s : State) (a : Access) :
    (s.requestDrain a).park = s.park := rfl
@[simp] theorem State.requestDrain_host (s : State) (a : Access) :
    (s.requestDrain a).host = s.host := rfl
@[simp] theorem State.requestDrain_clock (s : State) (a : Access) :
    (s.requestDrain a).clock = s.clock := rfl
@[simp] theorem State.requestDrain_strobes (s : State) (a : Access) :
    (s.requestDrain a).strobes = s.strobes := rfl
@[simp] theorem State.requestDrain_notices (s : State) (a : Access) :
    (s.requestDrain a).notices = s.notices := rfl
@[simp] theorem State.requestDrain_link (s : State) (a : Access) :
    (s.requestDrain a).link = s.link := rfl
@[simp] theorem State.requestDrain_pending (s : State) (a : Access) :
    (s.requestDrain a).pending = s.pending := rfl

@[simp] theorem State.requestCatchup_regions (s : State) (a : Access) :
    (s.requestCatchup a).regions = s.regions := rfl
@[simp] theorem State.requestCatchup_views (s : State) (a : Access) :
    (s.requestCatchup a).views = s.views := rfl
@[simp] theorem State.requestCatchup_catchup (s : State) (a : Access) :
    (s.requestCatchup a).catchup = s.catchup := rfl
@[simp] theorem State.requestCatchup_park (s : State) (a : Access) :
    (s.requestCatchup a).park = s.park := rfl
@[simp] theorem State.requestCatchup_host (s : State) (a : Access) :
    (s.requestCatchup a).host = s.host := rfl
@[simp] theorem State.requestCatchup_clock (s : State) (a : Access) :
    (s.requestCatchup a).clock = s.clock := rfl
@[simp] theorem State.requestCatchup_strobes (s : State) (a : Access) :
    (s.requestCatchup a).strobes = s.strobes := rfl
@[simp] theorem State.requestCatchup_notices (s : State) (a : Access) :
    (s.requestCatchup a).notices = s.notices := rfl
@[simp] theorem State.requestCatchup_link (s : State) (a : Access) :
    (s.requestCatchup a).link = s.link := rfl
@[simp] theorem State.requestCatchup_pending (s : State) (a : Access) :
    (s.requestCatchup a).pending = s.pending := rfl

/-! ### Reads of regions -/

theorem State.region_modRegion (s : State) (r j : RegionIx) (f : Region → Region) :
    (s.modRegion r f).region j = if j = r then f (s.region r) else s.region j := by
  simp only [State.region, State.modRegion, Vector.get_eq_getElem, Vector.getElem_set]
  by_cases h : j = r
  · simp [h]
  · have : ¬ r.val = j.val := fun e => h (Fin.ext e.symm)
    simp [h, this]

@[simp] theorem State.region_modRegion_self (s : State) (r : RegionIx) (f : Region → Region) :
    (s.modRegion r f).region r = f (s.region r) := by simp [State.region_modRegion]

theorem State.region_modRegion_ne (s : State) {r j : RegionIx} (h : j ≠ r) (f : Region → Region) :
    (s.modRegion r f).region j = s.region j := by simp [State.region_modRegion, h]

theorem State.region_modRun (s : State) (r j : RegionIx) (f : Runtime → Runtime) :
    (s.modRun r f).region j =
      if j = r then { s.region r with run := f (s.region r).run } else s.region j :=
  s.region_modRegion r j _

theorem State.region_modLife (s : State) (r j : RegionIx) (f : Lifecycle → Lifecycle) :
    (s.modLife r f).region j =
      if j = r then { s.region r with life := f (s.region r).life } else s.region j :=
  s.region_modRegion r j _

theorem State.region_modCounters (s : State) (r j : RegionIx) (f : Counters → Counters) :
    (s.modCounters r f).region j =
      if j = r then { s.region r with counters := f (s.region r).counters } else s.region j :=
  s.region_modRegion r j _

theorem State.region_setTimer (s : State) (r j : RegionIx) (x : PeriodTimer) :
    (s.setTimer r x).region j = if j = r then { s.region r with timer := x } else s.region j :=
  s.region_modRegion r j _

/-- A state with the same regions reads every region as before. -/
theorem State.region_congr {s t : State} (h : t.regions = s.regions) (r : RegionIx) :
    t.region r = s.region r := by simp [State.region, h]

@[simp] theorem State.config_modRun (s : State) (r j : RegionIx) (f : Runtime → Runtime) :
    (s.modRun r f).config j = s.config j := by
  simp only [State.config, State.region_modRun]; split <;> simp_all

@[simp] theorem State.config_modLife (s : State) (r j : RegionIx) (f : Lifecycle → Lifecycle) :
    (s.modLife r f).config j = s.config j := by
  simp only [State.config, State.region_modLife]; split <;> simp_all

@[simp] theorem State.config_modCounters (s : State) (r j : RegionIx) (f : Counters → Counters) :
    (s.modCounters r f).config j = s.config j := by
  simp only [State.config, State.region_modCounters]; split <;> simp_all

@[simp] theorem State.config_setTimer (s : State) (r j : RegionIx) (x : PeriodTimer) :
    (s.setTimer r x).config j = s.config j := by
  simp only [State.config, State.region_setTimer]; split <;> simp_all

@[simp] theorem State.run_modLife (s : State) (r j : RegionIx) (f : Lifecycle → Lifecycle) :
    (s.modLife r f).run j = s.run j := by
  simp only [State.run, State.region_modLife]; split <;> simp_all

@[simp] theorem State.run_modCounters (s : State) (r j : RegionIx) (f : Counters → Counters) :
    (s.modCounters r f).run j = s.run j := by
  simp only [State.run, State.region_modCounters]; split <;> simp_all

@[simp] theorem State.run_setTimer (s : State) (r j : RegionIx) (x : PeriodTimer) :
    (s.setTimer r x).run j = s.run j := by
  simp only [State.run, State.region_setTimer]; split <;> simp_all

theorem State.run_modRun (s : State) (r j : RegionIx) (f : Runtime → Runtime) :
    (s.modRun r f).run j = if j = r then f (s.run r) else s.run j := by
  simp only [State.run, State.region_modRun]; split <;> simp_all

@[simp] theorem State.run_modRun_self (s : State) (r : RegionIx) (f : Runtime → Runtime) :
    (s.modRun r f).run r = f (s.run r) := by simp [State.run_modRun]

theorem State.run_modRun_ne (s : State) {r j : RegionIx} (h : j ≠ r) (f : Runtime → Runtime) :
    (s.modRun r f).run j = s.run j := by simp [State.run_modRun, h]

/-! ### Reads of tables -/

theorem mapFrom_getElem {α : Type} (f : Nat → α → α) (i : Nat) (l : List α) (k : Nat)
    (h : k < (mapFrom f i l).length) :
    (mapFrom f i l)[k] = f (i + k) (l[k]'(by rw [← length_mapFrom f i l]; exact h)) := by
  induction l generalizing i k with
  | nil => simp [mapFrom] at h
  | cons a t ih =>
    cases k with
    | zero => simp [mapFrom]
    | succ k => simp only [mapFrom, List.getElem_cons_succ]; rw [ih]; congr 1; omega

@[simp] theorem vmap_getElem {α : Type} {n : Nat} (f : Nat → α → α) (v : Vector α n) (k : Nat)
    (h : k < n) : (vmap f v)[k] = f k v[k] := by
  have := mapFrom_getElem f 0 v.toList k (by simp [length_mapFrom, h])
  simpa [vmap, Vector.getElem_mk] using this

@[simp] theorem vmap_get {α : Type} {n : Nat} (f : Nat → α → α) (v : Vector α n) (k : Fin n) :
    (vmap f v).get k = f k.val (v.get k) := by
  simp [Vector.get_eq_getElem]

@[simp] theorem State.region_modRegions (s : State) (f : Region → Region) (r : RegionIx) :
    (s.modRegions f).region r = f (s.region r) := by simp [State.modRegions, State.region]

/-- The line at an index after every line has been changed. -/
theorem State.line_modLines (s : State) (f : Nat → LineEntry → LineEntry) (ix : Nat) (h : ix < 2048) :
    (s.modLines f).line ix = f ix (s.line ix) := by
  simp [State.line, State.modLines, State.setCatchup, h]

theorem State.line_modLine (s : State) (ix j : Nat) (f : LineEntry → LineEntry) (h : j < 2048) :
    (s.modLine ix f).line j = if j = ix then f (s.line j) else s.line j := by
  simp [State.modLine, State.line_modLines s _ j h]

theorem State.line_modRange (s : State) (c : RegionConfig) (f : LineEntry → LineEntry) (j : Nat)
    (h : j < 2048) :
    (s.modRange c f).line j = if c.ownsLine j then f (s.line j) else s.line j := by
  simp [State.modRange, State.line_modLines s _ j h]

/-- A state with the same line table reads every line as before. -/
theorem State.line_congr {s t : State} (h : t.catchup.lines = s.catchup.lines) (ix : Nat) :
    t.line ix = s.line ix := by simp [State.line, h]

theorem State.view_setView (s : State) (k j : Slot) (v : Option View) :
    (s.setView k v).view j = if j = k then v else s.view j := by
  simp only [State.view, State.setView, State.setViews_views, Vector.get_eq_getElem, Vector.getElem_set]
  by_cases h : j = k
  · simp [h]
  · have : ¬ k.val = j.val := fun e => h (Fin.ext e.symm)
    simp [h, this]

/-- A view after the views that pass a test are dropped: kept if it fails the test. -/
theorem State.view_dropWhere (s : State) (test : Nat → View → Bool) (k : Slot) :
    (s.dropWhere test).view k = (s.view k).filter fun v => !test k.val v := by
  simp [State.view, State.dropWhere]

end Sys2Proof.Machine
end

