-- ==== Sys2Proof/Laws/Frames.lean ====
section
/-! SUPPORT. The frame of each shared operation: one lemma that names every block the operation leaves as it
stands. -/

namespace Sys2Proof.Machine

/-- What every step of a fold leaves as it stands, the fold does. -/
theorem foldl_frame {σ α β : Type} (f : σ → α → σ) (g : σ → β) (h : ∀ s a, g (f s a) = g s) (l : List α)
    (s : σ) : g (l.foldl f s) = g s := by
  induction l generalizing s with
  | nil => rfl
  | cons a t ih => simp [ih, h]

/-! ### Notices and counters -/

@[simp] theorem State.raiseNotice_frame (s : State) (r : RegionIx) (k : NoticeKind) (t : Option Tag)
    (d : BitVec 16) :
    (s.raiseNotice r k t d).regions = s.regions ∧ (s.raiseNotice r k t d).views = s.views ∧
      (s.raiseNotice r k t d).catchup = s.catchup ∧ (s.raiseNotice r k t d).park = s.park ∧
      (s.raiseNotice r k t d).host = s.host ∧ (s.raiseNotice r k t d).bus = s.bus ∧
      (s.raiseNotice r k t d).clock = s.clock ∧ (s.raiseNotice r k t d).strobes = s.strobes ∧
      (s.raiseNotice r k t d).link = s.link ∧ (s.raiseNotice r k t d).pending = s.pending := by
  unfold State.raiseNotice; split <;> simp

@[simp] theorem State.chargeRefusal_frame (s : State) (r : RegionIx) (t : Tag) (w : RefuseReason) :
    (s.chargeRefusal r t w).views = s.views ∧ (s.chargeRefusal r t w).catchup = s.catchup ∧
      (s.chargeRefusal r t w).park = s.park ∧ (s.chargeRefusal r t w).host = s.host ∧
      (s.chargeRefusal r t w).bus = s.bus ∧ (s.chargeRefusal r t w).clock = s.clock ∧
      (s.chargeRefusal r t w).strobes = s.strobes ∧ (s.chargeRefusal r t w).link = s.link ∧
      (s.chargeRefusal r t w).pending = s.pending := by
  simp only [State.chargeRefusal]; split <;> simp

@[simp] theorem State.chargeShortage_frame (s : State) (r : RegionIx) (t : Tag) :
    (s.chargeShortage r t).views = s.views ∧ (s.chargeShortage r t).catchup = s.catchup ∧
      (s.chargeShortage r t).park = s.park ∧ (s.chargeShortage r t).host = s.host ∧
      (s.chargeShortage r t).bus = s.bus ∧ (s.chargeShortage r t).clock = s.clock ∧
      (s.chargeShortage r t).strobes = s.strobes ∧ (s.chargeShortage r t).link = s.link ∧
      (s.chargeShortage r t).pending = s.pending := by
  simp only [State.chargeShortage]; split <;> simp

@[simp] theorem State.chargeEmpty_frame (s : State) (r : RegionIx) (x : Source) :
    (s.chargeEmpty r x).views = s.views ∧ (s.chargeEmpty r x).catchup = s.catchup ∧
      (s.chargeEmpty r x).park = s.park ∧ (s.chargeEmpty r x).host = s.host ∧
      (s.chargeEmpty r x).bus = s.bus ∧ (s.chargeEmpty r x).clock = s.clock ∧
      (s.chargeEmpty r x).strobes = s.strobes ∧ (s.chargeEmpty r x).link = s.link ∧
      (s.chargeEmpty r x).pending = s.pending := by
  simp [State.chargeEmpty]

@[simp] theorem State.chargeMerged_frame (s : State) (r : RegionIx) (x : Source) :
    (s.chargeMerged r x).views = s.views ∧ (s.chargeMerged r x).catchup = s.catchup ∧
      (s.chargeMerged r x).park = s.park ∧ (s.chargeMerged r x).host = s.host ∧
      (s.chargeMerged r x).bus = s.bus ∧ (s.chargeMerged r x).clock = s.clock ∧
      (s.chargeMerged r x).strobes = s.strobes ∧ (s.chargeMerged r x).link = s.link ∧
      (s.chargeMerged r x).pending = s.pending := by
  simp [State.chargeMerged]

@[simp] theorem State.chargeHeld_frame (s : State) (r : RegionIx) :
    (s.chargeHeld r).views = s.views ∧ (s.chargeHeld r).catchup = s.catchup ∧
      (s.chargeHeld r).park = s.park ∧ (s.chargeHeld r).host = s.host ∧ (s.chargeHeld r).bus = s.bus ∧
      (s.chargeHeld r).clock = s.clock ∧ (s.chargeHeld r).strobes = s.strobes ∧
      (s.chargeHeld r).link = s.link ∧ (s.chargeHeld r).pending = s.pending := by
  simp [State.chargeHeld]

@[simp] theorem State.chargeExpiry_frame (s : State) (v : View) :
    (s.chargeExpiry v).views = s.views ∧ (s.chargeExpiry v).catchup = s.catchup ∧
      (s.chargeExpiry v).park = s.park ∧ (s.chargeExpiry v).host = s.host ∧ (s.chargeExpiry v).bus = s.bus ∧
      (s.chargeExpiry v).clock = s.clock ∧ (s.chargeExpiry v).strobes = s.strobes ∧
      (s.chargeExpiry v).link = s.link ∧ (s.chargeExpiry v).pending = s.pending := by
  simp [State.chargeExpiry]

@[simp] theorem State.chargeParkTimeout_frame (s : State) (r : RegionIx) (t : Tag) (k : Nat) :
    (s.chargeParkTimeout r t k).views = s.views ∧ (s.chargeParkTimeout r t k).catchup = s.catchup ∧
      (s.chargeParkTimeout r t k).park = s.park ∧ (s.chargeParkTimeout r t k).host = s.host ∧
      (s.chargeParkTimeout r t k).bus = s.bus ∧ (s.chargeParkTimeout r t k).clock = s.clock ∧
      (s.chargeParkTimeout r t k).strobes = s.strobes ∧ (s.chargeParkTimeout r t k).link = s.link ∧
      (s.chargeParkTimeout r t k).pending = s.pending := by
  simp [State.chargeParkTimeout]

@[simp] theorem State.chargeCopyRetry_frame (s : State) (c : Copy) (x : FailCause) :
    (s.chargeCopyRetry c x).views = s.views ∧ (s.chargeCopyRetry c x).catchup = s.catchup ∧
      (s.chargeCopyRetry c x).park = s.park ∧ (s.chargeCopyRetry c x).host = s.host ∧
      (s.chargeCopyRetry c x).bus = s.bus ∧ (s.chargeCopyRetry c x).clock = s.clock ∧
      (s.chargeCopyRetry c x).strobes = s.strobes ∧ (s.chargeCopyRetry c x).link = s.link ∧
      (s.chargeCopyRetry c x).pending = s.pending := by
  simp [State.chargeCopyRetry]

/-! ### The memory bus and the catch-up unit -/

@[simp] theorem State.grantNext_frame (s : State) :
    (s.grantNext).regions = s.regions ∧ (s.grantNext).views = s.views ∧ (s.grantNext).catchup = s.catchup ∧
      (s.grantNext).park = s.park ∧ (s.grantNext).host = s.host ∧ (s.grantNext).clock = s.clock ∧
      (s.grantNext).strobes = s.strobes ∧ (s.grantNext).notices = s.notices ∧ (s.grantNext).link = s.link ∧
      (s.grantNext).pending = s.pending := by
  unfold State.grantNext; repeat' split
  all_goals simp

@[simp] theorem State.startReading_frame (s : State) (c : Copy) (x : Bool) :
    (s.startReading c x).regions = s.regions ∧ (s.startReading c x).views = s.views ∧
      (s.startReading c x).park = s.park ∧ (s.startReading c x).host = s.host ∧
      (s.startReading c x).clock = s.clock ∧ (s.startReading c x).strobes = s.strobes ∧
      (s.startReading c x).notices = s.notices ∧ (s.startReading c x).link = s.link ∧
      (s.startReading c x).pending = s.pending := by
  simp [State.startReading]

@[simp] theorem State.engineTake_frame (s : State) :
    (s.engineTake).regions = s.regions ∧ (s.engineTake).views = s.views ∧ (s.engineTake).park = s.park ∧
      (s.engineTake).host = s.host ∧ (s.engineTake).clock = s.clock ∧ (s.engineTake).strobes = s.strobes ∧
      (s.engineTake).notices = s.notices ∧ (s.engineTake).link = s.link ∧
      (s.engineTake).pending = s.pending := by
  unfold State.engineTake; repeat' split
  all_goals simp

@[simp] theorem State.appendLines_frame (s : State) (k : CopyKind) (l : List Nat) :
    (s.appendLines k l).regions = s.regions ∧ (s.appendLines k l).views = s.views ∧
      (s.appendLines k l).park = s.park ∧ (s.appendLines k l).host = s.host ∧
      (s.appendLines k l).clock = s.clock ∧ (s.appendLines k l).strobes = s.strobes ∧
      (s.appendLines k l).notices = s.notices ∧ (s.appendLines k l).link = s.link ∧
      (s.appendLines k l).pending = s.pending := by
  simp [State.appendLines]

@[simp] theorem State.promote_frame (s : State) (i : Nat) :
    (s.promote i).regions = s.regions ∧ (s.promote i).views = s.views ∧ (s.promote i).park = s.park ∧
      (s.promote i).host = s.host ∧ (s.promote i).clock = s.clock ∧ (s.promote i).strobes = s.strobes ∧
      (s.promote i).notices = s.notices ∧ (s.promote i).link = s.link ∧
      (s.promote i).pending = s.pending := by
  simp [State.promote]

@[simp] theorem State.engineNext_frame (s : State) :
    (s.engineNext).regions = s.regions ∧ (s.engineNext).views = s.views ∧ (s.engineNext).park = s.park ∧
      (s.engineNext).host = s.host ∧ (s.engineNext).clock = s.clock ∧ (s.engineNext).strobes = s.strobes ∧
      (s.engineNext).notices = s.notices ∧ (s.engineNext).link = s.link ∧
      (s.engineNext).pending = s.pending := by
  simp [State.engineNext]

@[simp] theorem State.removeFills_frame (s : State) (r : RegionIx) :
    (s.removeFills r).regions = s.regions ∧ (s.removeFills r).views = s.views ∧
      (s.removeFills r).park = s.park ∧ (s.removeFills r).host = s.host ∧ (s.removeFills r).bus = s.bus ∧
      (s.removeFills r).clock = s.clock ∧ (s.removeFills r).strobes = s.strobes ∧
      (s.removeFills r).notices = s.notices ∧ (s.removeFills r).link = s.link ∧
      (s.removeFills r).pending = s.pending := by
  simp [State.removeFills]

@[simp] theorem State.clearBusy_frame (s : State) (i : Nat) :
    (s.clearBusy i).regions = s.regions ∧ (s.clearBusy i).views = s.views ∧ (s.clearBusy i).park = s.park ∧
      (s.clearBusy i).host = s.host ∧ (s.clearBusy i).bus = s.bus ∧ (s.clearBusy i).clock = s.clock ∧
      (s.clearBusy i).strobes = s.strobes ∧ (s.clearBusy i).notices = s.notices ∧
      (s.clearBusy i).link = s.link ∧ (s.clearBusy i).pending = s.pending := by
  simp [State.clearBusy]

/-! ### The draft write path and the drain slot -/

@[simp] theorem State.markDirty_frame (s : State) (r : RegionIx) (i : Nat) :
    (s.markDirty r i).views = s.views ∧ (s.markDirty r i).park = s.park ∧ (s.markDirty r i).host = s.host ∧
      (s.markDirty r i).bus = s.bus ∧ (s.markDirty r i).clock = s.clock ∧
      (s.markDirty r i).strobes = s.strobes ∧ (s.markDirty r i).notices = s.notices ∧
      (s.markDirty r i).link = s.link ∧ (s.markDirty r i).pending = s.pending := by
  unfold State.markDirty; split <;> simp

@[simp] theorem State.countIssue_frame (s : State) (r : RegionIx) (i : Nat) :
    (s.countIssue r i).views = s.views ∧ (s.countIssue r i).park = s.park ∧
      (s.countIssue r i).host = s.host ∧ (s.countIssue r i).bus = s.bus ∧
      (s.countIssue r i).clock = s.clock ∧ (s.countIssue r i).strobes = s.strobes ∧
      (s.countIssue r i).notices = s.notices ∧ (s.countIssue r i).link = s.link ∧
      (s.countIssue r i).pending = s.pending := by
  simp [State.countIssue]

@[simp] theorem State.issueDrain_frame (s : State) (k : ParkKey) (x : Bool) :
    (s.issueDrain k x).views = s.views ∧ (s.issueDrain k x).host = s.host ∧
      (s.issueDrain k x).clock = s.clock ∧ (s.issueDrain k x).strobes = s.strobes ∧
      (s.issueDrain k x).notices = s.notices ∧ (s.issueDrain k x).link = s.link ∧
      (s.issueDrain k x).pending = s.pending := by
  unfold State.issueDrain; split <;> simp

@[simp] theorem State.drainTry_frame (s : State) (k : ParkKey) (x : Bool) :
    (s.drainTry k x).views = s.views ∧ (s.drainTry k x).host = s.host ∧ (s.drainTry k x).clock = s.clock ∧
      (s.drainTry k x).strobes = s.strobes ∧ (s.drainTry k x).notices = s.notices ∧
      (s.drainTry k x).link = s.link ∧ (s.drainTry k x).pending = s.pending := by
  simp only [State.drainTry]; repeat' split
  all_goals simp

@[simp] theorem State.drainNext_frame (s : State) :
    (s.drainNext).views = s.views ∧ (s.drainNext).host = s.host ∧ (s.drainNext).clock = s.clock ∧
      (s.drainNext).strobes = s.strobes ∧ (s.drainNext).notices = s.notices ∧ (s.drainNext).link = s.link ∧
      (s.drainNext).pending = s.pending := by
  unfold State.drainNext; repeat' split
  all_goals simp

@[simp] theorem State.drainRelease_frame (s : State) :
    (s.drainRelease).views = s.views ∧ (s.drainRelease).host = s.host ∧ (s.drainRelease).clock = s.clock ∧
      (s.drainRelease).strobes = s.strobes ∧ (s.drainRelease).notices = s.notices ∧
      (s.drainRelease).link = s.link ∧ (s.drainRelease).pending = s.pending := by
  unfold State.drainRelease; repeat' split
  all_goals simp

/-! ### The Rotation Unit -/

@[simp] theorem State.enterPending_frame (s : State) (r : RegionIx) :
    (s.enterPending r).views = s.views ∧ (s.enterPending r).catchup = s.catchup ∧
      (s.enterPending r).park = s.park ∧ (s.enterPending r).host = s.host ∧ (s.enterPending r).bus = s.bus ∧
      (s.enterPending r).clock = s.clock ∧ (s.enterPending r).strobes = s.strobes ∧
      (s.enterPending r).notices = s.notices ∧ (s.enterPending r).link = s.link ∧
      (s.enterPending r).pending = s.pending := by
  simp [State.enterPending]

@[simp] theorem State.noteHeld_frame (s : State) (r : RegionIx) :
    (s.noteHeld r).views = s.views ∧ (s.noteHeld r).catchup = s.catchup ∧ (s.noteHeld r).park = s.park ∧
      (s.noteHeld r).host = s.host ∧ (s.noteHeld r).bus = s.bus ∧ (s.noteHeld r).clock = s.clock ∧
      (s.noteHeld r).strobes = s.strobes ∧ (s.noteHeld r).link = s.link ∧
      (s.noteHeld r).pending = s.pending := by
  unfold State.noteHeld; split <;> simp

@[simp] theorem State.waitNoted_frame (s : State) (r : RegionIx) :
    (s.waitNoted r).views = s.views ∧ (s.waitNoted r).catchup = s.catchup ∧ (s.waitNoted r).park = s.park ∧
      (s.waitNoted r).host = s.host ∧ (s.waitNoted r).bus = s.bus ∧ (s.waitNoted r).clock = s.clock ∧
      (s.waitNoted r).strobes = s.strobes ∧ (s.waitNoted r).link = s.link ∧
      (s.waitNoted r).pending = s.pending := by
  unfold State.waitNoted; split <;> simp

@[simp] theorem State.publishCore_frame (s : State) (r : RegionIx) :
    (s.publishCore r).views = s.views ∧ (s.publishCore r).park = s.park ∧ (s.publishCore r).host = s.host ∧
      (s.publishCore r).clock = s.clock ∧ (s.publishCore r).strobes = s.strobes ∧
      (s.publishCore r).link = s.link ∧ (s.publishCore r).pending = s.pending := by
  simp [State.publishCore]

@[simp] theorem State.followOn_frame (s : State) (r : RegionIx) :
    (s.followOn r).views = s.views ∧ (s.followOn r).park = s.park ∧ (s.followOn r).host = s.host ∧
      (s.followOn r).clock = s.clock ∧ (s.followOn r).strobes = s.strobes ∧ (s.followOn r).link = s.link ∧
      (s.followOn r).pending = s.pending := by
  simp only [State.followOn]; repeat' split
  all_goals simp

@[simp] theorem State.publish_frame (s : State) (r : RegionIx) :
    (s.publish r).views = s.views ∧ (s.publish r).host = s.host ∧ (s.publish r).clock = s.clock ∧
      (s.publish r).strobes = s.strobes ∧ (s.publish r).link = s.link ∧
      (s.publish r).pending = s.pending := by
  simp [State.publish]

@[simp] theorem State.evaluate_frame (s : State) (r : RegionIx) :
    (s.evaluate r).views = s.views ∧ (s.evaluate r).host = s.host ∧ (s.evaluate r).clock = s.clock ∧
      (s.evaluate r).strobes = s.strobes ∧ (s.evaluate r).link = s.link ∧
      (s.evaluate r).pending = s.pending := by
  unfold State.evaluate; repeat' split
  all_goals simp

@[simp] theorem State.takeTrigger_frame (s : State) (r : RegionIx) (x : Source) :
    (s.takeTrigger r x).views = s.views ∧ (s.takeTrigger r x).host = s.host ∧
      (s.takeTrigger r x).clock = s.clock ∧ (s.takeTrigger r x).strobes = s.strobes ∧
      (s.takeTrigger r x).link = s.link ∧ (s.takeTrigger r x).pending = s.pending := by
  unfold State.takeTrigger; repeat' split
  all_goals simp

@[simp] theorem State.deliver_frame (s : State) (r : RegionIx) (x : Source) :
    (s.deliver r x).views = s.views ∧ (s.deliver r x).host = s.host ∧ (s.deliver r x).clock = s.clock ∧
      (s.deliver r x).strobes = s.strobes ∧ (s.deliver r x).link = s.link ∧
      (s.deliver r x).pending = s.pending := by
  unfold State.deliver; split <;> simp

@[simp] theorem State.lastViewEnded_frame (s : State) (r : RegionIx) (b : Bank) :
    (s.lastViewEnded r b).views = s.views ∧ (s.lastViewEnded r b).host = s.host ∧
      (s.lastViewEnded r b).clock = s.clock ∧ (s.lastViewEnded r b).strobes = s.strobes ∧
      (s.lastViewEnded r b).link = s.link ∧ (s.lastViewEnded r b).pending = s.pending := by
  unfold State.lastViewEnded; split <;> simp

@[simp] theorem State.reportRegion_frame (s : State) (g : List View) (r : RegionIx) :
    (s.reportRegion g r).views = s.views ∧ (s.reportRegion g r).host = s.host ∧
      (s.reportRegion g r).clock = s.clock ∧ (s.reportRegion g r).strobes = s.strobes ∧
      (s.reportRegion g r).link = s.link ∧ (s.reportRegion g r).pending = s.pending := by
  simp only [State.reportRegion]
  refine ⟨?_, ?_, ?_, ?_, ?_, ?_⟩
  all_goals exact foldl_frame _ _ (by simp) _ _

@[simp] theorem State.reportBanks_frame (s : State) (g : List View) :
    (s.reportBanks g).views = s.views ∧ (s.reportBanks g).host = s.host ∧
      (s.reportBanks g).clock = s.clock ∧ (s.reportBanks g).strobes = s.strobes ∧
      (s.reportBanks g).link = s.link ∧ (s.reportBanks g).pending = s.pending := by
  simp only [State.reportBanks]
  refine ⟨?_, ?_, ?_, ?_, ?_, ?_⟩
  all_goals exact foldl_frame _ _ (by simp) _ _

@[simp] theorem State.deliverStrobe_frame (s : State) (i : Fin 4) (x : Bool) :
    (s.deliverStrobe i x).views = s.views ∧ (s.deliverStrobe i x).host = s.host ∧
      (s.deliverStrobe i x).clock = s.clock ∧ (s.deliverStrobe i x).strobes = s.strobes ∧
      (s.deliverStrobe i x).link = s.link ∧ (s.deliverStrobe i x).pending = s.pending := by
  simp only [State.deliverStrobe]
  refine ⟨?_, ?_, ?_, ?_, ?_, ?_⟩
  all_goals exact foldl_frame _ _ (by intro s r; split <;> simp) _ _

/-! ### The View Table -/

@[simp] theorem State.dropWhere_frame (s : State) (f : Nat → View → Bool) :
    (s.dropWhere f).regions = s.regions ∧ (s.dropWhere f).catchup = s.catchup ∧
      (s.dropWhere f).park = s.park ∧ (s.dropWhere f).host = s.host ∧ (s.dropWhere f).bus = s.bus ∧
      (s.dropWhere f).clock = s.clock ∧ (s.dropWhere f).strobes = s.strobes ∧
      (s.dropWhere f).notices = s.notices ∧ (s.dropWhere f).link = s.link ∧
      (s.dropWhere f).pending = s.pending := by
  simp [State.dropWhere]

@[simp] theorem State.removeViews_frame (s : State) (f : Nat → View → Bool) :
    (s.removeViews f).host = s.host ∧ (s.removeViews f).clock = s.clock ∧
      (s.removeViews f).strobes = s.strobes ∧ (s.removeViews f).link = s.link ∧
      (s.removeViews f).pending = s.pending := by
  simp [State.removeViews]

/-- Counting and notifying a list of expiries changes counters and notices alone. -/
theorem State.chargeAll_frame (s : State) (l : List View) :
    (l.foldl (fun s v => s.chargeExpiry v) s).views = s.views ∧
      (l.foldl (fun s v => s.chargeExpiry v) s).catchup = s.catchup ∧
      (l.foldl (fun s v => s.chargeExpiry v) s).park = s.park ∧
      (l.foldl (fun s v => s.chargeExpiry v) s).host = s.host ∧
      (l.foldl (fun s v => s.chargeExpiry v) s).bus = s.bus ∧
      (l.foldl (fun s v => s.chargeExpiry v) s).clock = s.clock ∧
      (l.foldl (fun s v => s.chargeExpiry v) s).strobes = s.strobes ∧
      (l.foldl (fun s v => s.chargeExpiry v) s).link = s.link ∧
      (l.foldl (fun s v => s.chargeExpiry v) s).pending = s.pending := by
  refine ⟨?_, ?_, ?_, ?_, ?_, ?_, ?_, ?_, ?_⟩
  all_goals exact foldl_frame _ _ (by simp) _ _

@[simp] theorem State.expireViews_frame (s : State) (f : Nat → View → Bool) :
    (s.expireViews f).host = s.host ∧ (s.expireViews f).clock = s.clock ∧
      (s.expireViews f).strobes = s.strobes ∧ (s.expireViews f).link = s.link ∧
      (s.expireViews f).pending = s.pending := by
  simp [State.expireViews, State.chargeAll_frame]

@[simp] theorem State.endUse_frame (s : State) (k : Slot) (x : Bool) :
    (s.endUse k x).host = s.host ∧ (s.endUse k x).clock = s.clock ∧ (s.endUse k x).strobes = s.strobes ∧
      (s.endUse k x).link = s.link ∧ (s.endUse k x).pending = s.pending := by
  simp only [State.endUse]; repeat' split
  all_goals simp

@[simp] theorem State.abandonUse_frame (s : State) (k : Slot) :
    (s.abandonUse k).host = s.host ∧ (s.abandonUse k).clock = s.clock ∧
      (s.abandonUse k).strobes = s.strobes ∧ (s.abandonUse k).link = s.link ∧
      (s.abandonUse k).pending = s.pending := by
  simp [State.abandonUse]

@[simp] theorem State.dropUse_frame (s : State) :
    (s.dropUse).host = s.host ∧ (s.dropUse).clock = s.clock ∧ (s.dropUse).strobes = s.strobes ∧
      (s.dropUse).link = s.link ∧ (s.dropUse).pending = s.pending := by
  unfold State.dropUse; split <;> simp

@[simp] theorem State.refreshView_frame (s : State) (k : Slot) :
    (s.refreshView k).regions = s.regions ∧ (s.refreshView k).catchup = s.catchup ∧
      (s.refreshView k).park = s.park ∧ (s.refreshView k).host = s.host ∧ (s.refreshView k).bus = s.bus ∧
      (s.refreshView k).clock = s.clock ∧ (s.refreshView k).strobes = s.strobes ∧
      (s.refreshView k).notices = s.notices ∧ (s.refreshView k).link = s.link ∧
      (s.refreshView k).pending = s.pending := by
  unfold State.refreshView; split <;> simp

@[simp] theorem State.openView_frame (s : State) (k : Slot) (r : RegionIx) (t : Tag) :
    (s.openView k r t).catchup = s.catchup ∧ (s.openView k r t).park = s.park ∧
      (s.openView k r t).host = s.host ∧ (s.openView k r t).bus = s.bus ∧
      (s.openView k r t).clock = s.clock ∧ (s.openView k r t).strobes = s.strobes ∧
      (s.openView k r t).notices = s.notices ∧ (s.openView k r t).link = s.link ∧
      (s.openView k r t).pending = s.pending := by
  simp [State.openView]

/-! ### The response slot and the Region Lifecycle -/

@[simp] theorem State.placeResponse_frame (s : State) (x : LinkResponse) :
    (s.placeResponse x).regions = s.regions ∧ (s.placeResponse x).views = s.views ∧
      (s.placeResponse x).catchup = s.catchup ∧ (s.placeResponse x).park = s.park ∧
      (s.placeResponse x).host = s.host ∧ (s.placeResponse x).bus = s.bus ∧
      (s.placeResponse x).clock = s.clock ∧ (s.placeResponse x).strobes = s.strobes ∧
      (s.placeResponse x).notices = s.notices ∧ (s.placeResponse x).pending = s.pending := by
  simp [State.placeResponse]

@[simp] theorem State.ack_frame (s : State) (q : Byte) (p : List Byte) :
    (s.ack q p).regions = s.regions ∧ (s.ack q p).views = s.views ∧ (s.ack q p).catchup = s.catchup ∧
      (s.ack q p).park = s.park ∧ (s.ack q p).host = s.host ∧ (s.ack q p).bus = s.bus ∧
      (s.ack q p).clock = s.clock ∧ (s.ack q p).strobes = s.strobes ∧ (s.ack q p).notices = s.notices ∧
      (s.ack q p).pending = s.pending := by
  simp [State.ack]

@[simp] theorem State.nak_frame (s : State) (q : Byte) (n : Nak) :
    (s.nak q n).regions = s.regions ∧ (s.nak q n).views = s.views ∧ (s.nak q n).catchup = s.catchup ∧
      (s.nak q n).park = s.park ∧ (s.nak q n).host = s.host ∧ (s.nak q n).bus = s.bus ∧
      (s.nak q n).clock = s.clock ∧ (s.nak q n).strobes = s.strobes ∧ (s.nak q n).notices = s.notices ∧
      (s.nak q n).pending = s.pending := by
  simp [State.nak]

@[simp] theorem State.enableApply_frame (s : State) (r : RegionIx) (q : Byte) :
    (s.enableApply r q).views = s.views ∧ (s.enableApply r q).park = s.park ∧
      (s.enableApply r q).host = s.host ∧ (s.enableApply r q).clock = s.clock ∧
      (s.enableApply r q).strobes = s.strobes ∧ (s.enableApply r q).notices = s.notices ∧
      (s.enableApply r q).pending = s.pending := by
  simp [State.enableApply]

@[simp] theorem State.enableDue_frame (s : State) :
    (s.enableDue).views = s.views ∧ (s.enableDue).park = s.park ∧ (s.enableDue).host = s.host ∧
      (s.enableDue).clock = s.clock ∧ (s.enableDue).strobes = s.strobes ∧
      (s.enableDue).notices = s.notices ∧ (s.enableDue).pending = s.pending := by
  unfold State.enableDue; repeat' split
  all_goals simp

@[simp] theorem State.retirementEnd_frame (s : State) (r : RegionIx) :
    (s.retirementEnd r).views = s.views ∧ (s.retirementEnd r).park = s.park ∧
      (s.retirementEnd r).host = s.host ∧ (s.retirementEnd r).bus = s.bus ∧
      (s.retirementEnd r).clock = s.clock ∧ (s.retirementEnd r).strobes = s.strobes ∧
      (s.retirementEnd r).link = s.link ∧ (s.retirementEnd r).pending = s.pending := by
  simp [State.retirementEnd]

@[simp] theorem State.endIfFolded_frame (s : State) (r : RegionIx) :
    (s.endIfFolded r).views = s.views ∧ (s.endIfFolded r).park = s.park ∧ (s.endIfFolded r).host = s.host ∧
      (s.endIfFolded r).bus = s.bus ∧ (s.endIfFolded r).clock = s.clock ∧
      (s.endIfFolded r).strobes = s.strobes ∧ (s.endIfFolded r).link = s.link ∧
      (s.endIfFolded r).pending = s.pending := by
  unfold State.endIfFolded; split <;> simp

@[simp] theorem State.foldBack_frame (s : State) (r : RegionIx) :
    (s.foldBack r).views = s.views ∧ (s.foldBack r).park = s.park ∧ (s.foldBack r).host = s.host ∧
      (s.foldBack r).clock = s.clock ∧ (s.foldBack r).strobes = s.strobes ∧ (s.foldBack r).link = s.link ∧
      (s.foldBack r).pending = s.pending := by
  unfold State.foldBack; split <;> simp

@[simp] theorem State.foldReport_frame (s : State) (r : RegionIx) (x : Bool) :
    (s.foldReport r x).views = s.views ∧ (s.foldReport r x).park = s.park ∧
      (s.foldReport r x).host = s.host ∧ (s.foldReport r x).bus = s.bus ∧
      (s.foldReport r x).clock = s.clock ∧ (s.foldReport r x).strobes = s.strobes ∧
      (s.foldReport r x).link = s.link ∧ (s.foldReport r x).pending = s.pending := by
  simp [State.foldReport]

@[simp] theorem State.draftWriteDone_frame (s : State) (r : RegionIx) :
    (s.draftWriteDone r).views = s.views ∧ (s.draftWriteDone r).host = s.host ∧
      (s.draftWriteDone r).clock = s.clock ∧ (s.draftWriteDone r).strobes = s.strobes ∧
      (s.draftWriteDone r).link = s.link ∧ (s.draftWriteDone r).pending = s.pending := by
  simp [State.draftWriteDone]

/-! ### The Host Bus Port -/

@[simp] theorem State.endDecisionUse_frame (s : State) (d : Option Decision) :
    (s.endDecisionUse d).host = s.host ∧ (s.endDecisionUse d).clock = s.clock ∧
      (s.endDecisionUse d).strobes = s.strobes ∧ (s.endDecisionUse d).link = s.link ∧
      (s.endDecisionUse d).pending = s.pending := by
  unfold State.endDecisionUse; repeat' split
  all_goals simp

@[simp] theorem State.giveResponse_frame (s : State) (x : HostResponse) :
    (s.giveResponse x).clock = s.clock ∧ (s.giveResponse x).strobes = s.strobes ∧
      (s.giveResponse x).pending = s.pending := by
  simp [State.giveResponse]

/-- A response given leaves the head in RESPOND with it, and the request queue as it stands (R149). -/
@[simp] theorem State.giveResponse_host (s : State) (x : HostResponse) :
    (s.giveResponse x).host = { s.host with head := s.host.head.map fun h => { h with progress := .respond x } } := by
  simp [State.giveResponse, State.setProgress, State.setHead]

@[simp] theorem State.abortHead_frame (s : State) (r : RegionIx) :
    (s.abortHead r).clock = s.clock ∧ (s.abortHead r).strobes = s.strobes ∧
      (s.abortHead r).pending = s.pending := by
  unfold State.abortHead; split <;> simp

@[simp] theorem State.wordTrigger_frame (s : State) (r : RegionIx) (x : Bool) :
    (s.wordTrigger r x).views = s.views ∧ (s.wordTrigger r x).host = s.host ∧
      (s.wordTrigger r x).clock = s.clock ∧ (s.wordTrigger r x).strobes = s.strobes ∧
      (s.wordTrigger r x).link = s.link ∧ (s.wordTrigger r x).pending = s.pending := by
  unfold State.wordTrigger; split <;> simp

@[simp] theorem State.issueHost_frame (s : State) (r : RegionIx) :
    (s.issueHost r).views = s.views ∧ (s.issueHost r).clock = s.clock ∧
      (s.issueHost r).strobes = s.strobes ∧ (s.issueHost r).link = s.link ∧
      (s.issueHost r).pending = s.pending := by
  unfold State.issueHost; split <;> simp

@[simp] theorem State.draftWrite_frame (s : State) (r : RegionIx) (q : HostRequest) :
    (s.draftWrite r q).views = s.views ∧ (s.draftWrite r q).clock = s.clock ∧
      (s.draftWrite r q).strobes = s.strobes ∧ (s.draftWrite r q).link = s.link ∧
      (s.draftWrite r q).pending = s.pending := by
  simp only [State.draftWrite]; repeat' split
  all_goals simp

@[simp] theorem State.placeBeat_frame (s : State) (k : ParkKey) (b : Beat) :
    (s.placeBeat k b).regions = s.regions ∧ (s.placeBeat k b).views = s.views ∧
      (s.placeBeat k b).catchup = s.catchup ∧ (s.placeBeat k b).host = s.host ∧
      (s.placeBeat k b).bus = s.bus ∧ (s.placeBeat k b).clock = s.clock ∧
      (s.placeBeat k b).strobes = s.strobes ∧ (s.placeBeat k b).notices = s.notices ∧
      (s.placeBeat k b).link = s.link ∧ (s.placeBeat k b).pending = s.pending := by
  unfold State.placeBeat; split <;> simp

@[simp] theorem State.placeBeats_frame (s : State) (r : RegionIx) (t : Word) (w : Nat) (l : List Beat) :
    (s.placeBeats r t w l).regions = s.regions ∧ (s.placeBeats r t w l).views = s.views ∧
      (s.placeBeats r t w l).catchup = s.catchup ∧ (s.placeBeats r t w l).host = s.host ∧
      (s.placeBeats r t w l).bus = s.bus ∧ (s.placeBeats r t w l).clock = s.clock ∧
      (s.placeBeats r t w l).strobes = s.strobes ∧ (s.placeBeats r t w l).notices = s.notices ∧
      (s.placeBeats r t w l).link = s.link ∧ (s.placeBeats r t w l).pending = s.pending := by
  induction l generalizing s w with
  | nil => simp [State.placeBeats]
  | cons b l ih => simp [State.placeBeats, ih]

@[simp] theorem State.placeWrite_frame (s : State) (r : RegionIx) (q : HostRequest) (x : Bool) :
    (s.placeWrite r q x).clock = s.clock ∧ (s.placeWrite r q x).strobes = s.strobes ∧
      (s.placeWrite r q x).pending = s.pending := by
  simp [State.placeWrite]

@[simp] theorem State.parkWrite_frame (s : State) (r : RegionIx) (n : Nat) :
    (s.parkWrite r n).clock = s.clock ∧ (s.parkWrite r n).strobes = s.strobes ∧
      (s.parkWrite r n).pending = s.pending := by
  simp only [State.parkWrite]; repeat' split
  all_goals simp

@[simp] theorem State.reevaluatePark_frame (s : State) :
    (s.reevaluatePark).clock = s.clock ∧ (s.reevaluatePark).strobes = s.strobes ∧
      (s.reevaluatePark).pending = s.pending := by
  unfold State.reevaluatePark; repeat' split
  all_goals simp

@[simp] theorem State.releaseWrites_frame (s : State) (r : RegionIx) (i : Nat) :
    (s.releaseWrites r i).clock = s.clock ∧ (s.releaseWrites r i).strobes = s.strobes ∧
      (s.releaseWrites r i).pending = s.pending := by
  simp only [State.releaseWrites]; repeat' split
  all_goals simp

@[simp] theorem State.lineCurrent_frame (s : State) (r : RegionIx) (i : Nat) :
    (s.lineCurrent r i).clock = s.clock ∧ (s.lineCurrent r i).strobes = s.strobes ∧
      (s.lineCurrent r i).pending = s.pending := by
  simp [State.lineCurrent]

@[simp] theorem State.accessMemory_frame (s : State) (q : HostRequest) (d : Decision) (p : HostPurpose) :
    (s.accessMemory q d p).clock = s.clock ∧ (s.accessMemory q d p).strobes = s.strobes ∧
      (s.accessMemory q d p).pending = s.pending := by
  simp [State.accessMemory]

@[simp] theorem State.passRequest_frame (s : State) (q : HostRequest) :
    (s.passRequest q).clock = s.clock ∧ (s.passRequest q).strobes = s.strobes ∧
      (s.passRequest q).pending = s.pending := by
  simp [State.passRequest]

@[simp] theorem State.refuse_frame (s : State) (r : RegionIx) (q : HostRequest) (w : RefuseReason) :
    (s.refuse r q w).clock = s.clock ∧ (s.refuse r q w).strobes = s.strobes ∧
      (s.refuse r q w).pending = s.pending := by
  simp [State.refuse]

@[simp] theorem State.writerWrite_frame (s : State) (r : RegionIx) (q : HostRequest) :
    (s.writerWrite r q).clock = s.clock ∧ (s.writerWrite r q).strobes = s.strobes ∧
      (s.writerWrite r q).pending = s.pending := by
  simp only [State.writerWrite]; repeat' split
  all_goals simp

@[simp] theorem State.writerRead_frame (s : State) (r : RegionIx) (q : HostRequest) :
    (s.writerRead r q).clock = s.clock ∧ (s.writerRead r q).strobes = s.strobes ∧
      (s.writerRead r q).pending = s.pending := by
  simp [State.writerRead]

@[simp] theorem State.viewRead_frame (s : State) (r : RegionIx) (q : HostRequest) :
    (s.viewRead r q).clock = s.clock ∧ (s.viewRead r q).strobes = s.strobes ∧
      (s.viewRead r q).pending = s.pending := by
  simp only [State.viewRead]; repeat' split
  all_goals simp

@[simp] theorem State.sendOn_frame (s : State) (q : HostRequest) :
    (s.sendOn q).clock = s.clock ∧ (s.sendOn q).strobes = s.strobes ∧ (s.sendOn q).pending = s.pending := by
  unfold State.sendOn; repeat' split
  all_goals simp

@[simp] theorem State.refuseSpan_frame (s : State) :
    (s.refuseSpan).clock = s.clock ∧ (s.refuseSpan).strobes = s.strobes ∧
      (s.refuseSpan).pending = s.pending := by
  simp [State.refuseSpan]

@[simp] theorem State.decideHead_frame (s : State) :
    (s.decideHead).clock = s.clock ∧ (s.decideHead).strobes = s.strobes ∧
      (s.decideHead).pending = s.pending := by
  unfold State.decideHead; repeat' split
  all_goals simp

/-! ### Faults, retirement, restart and host-port reset -/

@[simp] theorem State.dropEntries_frame (s : State) (r : RegionIx) :
    (s.dropEntries r).regions = s.regions ∧ (s.dropEntries r).views = s.views ∧
      (s.dropEntries r).catchup = s.catchup ∧ (s.dropEntries r).host = s.host ∧
      (s.dropEntries r).bus = s.bus ∧ (s.dropEntries r).clock = s.clock ∧
      (s.dropEntries r).strobes = s.strobes ∧ (s.dropEntries r).notices = s.notices ∧
      (s.dropEntries r).link = s.link ∧ (s.dropEntries r).pending = s.pending := by
  simp [State.dropEntries]

@[simp] theorem State.noteDiscard_frame (s : State) (r : RegionIx) (n : Nat) :
    (s.noteDiscard r n).regions = s.regions ∧ (s.noteDiscard r n).views = s.views ∧
      (s.noteDiscard r n).catchup = s.catchup ∧ (s.noteDiscard r n).park = s.park ∧
      (s.noteDiscard r n).host = s.host ∧ (s.noteDiscard r n).bus = s.bus ∧
      (s.noteDiscard r n).clock = s.clock ∧ (s.noteDiscard r n).strobes = s.strobes ∧
      (s.noteDiscard r n).link = s.link ∧ (s.noteDiscard r n).pending = s.pending := by
  unfold State.noteDiscard; split <;> simp

@[simp] theorem State.reevaluateOthers_frame (s : State) (r : RegionIx) (n : Nat) :
    (s.reevaluateOthers r n).clock = s.clock ∧ (s.reevaluateOthers r n).strobes = s.strobes ∧
      (s.reevaluateOthers r n).pending = s.pending := by
  unfold State.reevaluateOthers; split <;> simp

@[simp] theorem State.parkDiscard_frame (s : State) (r : RegionIx) :
    (s.parkDiscard r).clock = s.clock ∧ (s.parkDiscard r).strobes = s.strobes ∧
      (s.parkDiscard r).pending = s.pending := by
  simp [State.parkDiscard]

@[simp] theorem State.fault_frame (s : State) (r : RegionIx) (x : FaultCause) (n : Nat) :
    (s.fault r x n).clock = s.clock ∧ (s.fault r x n).strobes = s.strobes ∧
      (s.fault r x n).pending = s.pending := by
  simp [State.fault]

@[simp] theorem State.retireAccept_frame (s : State) (r : RegionIx) :
    (s.retireAccept r).clock = s.clock ∧ (s.retireAccept r).strobes = s.strobes ∧
      (s.retireAccept r).pending = s.pending := by
  simp [State.retireAccept]

@[simp] theorem State.restartBlocks_frame (s : State) :
    (s.restartBlocks).clock = s.clock ∧ (s.restartBlocks).strobes = s.strobes ∧
      (s.restartBlocks).pending = s.pending := by
  simp [State.restartBlocks]

@[simp] theorem State.restartApply_frame (s : State) (q : Byte) :
    (s.restartApply q).clock = s.clock ∧ (s.restartApply q).strobes = s.strobes ∧
      (s.restartApply q).pending = s.pending := by
  simp only [State.restartApply]; split <;> simp

@[simp] theorem State.restartDue_frame (s : State) :
    (s.restartDue).clock = s.clock ∧ (s.restartDue).strobes = s.strobes ∧
      (s.restartDue).pending = s.pending := by
  unfold State.restartDue; repeat' split
  all_goals simp

@[simp] theorem State.withdrawnDone_frame (s : State) (a : Option HostAccess) :
    (s.withdrawnDone a).views = s.views ∧ (s.withdrawnDone a).host = s.host ∧
      (s.withdrawnDone a).clock = s.clock ∧ (s.withdrawnDone a).strobes = s.strobes ∧
      (s.withdrawnDone a).link = s.link ∧ (s.withdrawnDone a).pending = s.pending := by
  unfold State.withdrawnDone; split <;> simp

@[simp] theorem State.hostPortReset_frame (s : State) :
    (s.hostPortReset).clock = s.clock ∧ (s.hostPortReset).strobes = s.strobes ∧
      (s.hostPortReset).pending = s.pending := by
  simp [State.hostPortReset]

/-! ### The end of a transaction -/

@[simp] theorem State.copyReadDone_frame (s : State) (c : Copy) (x : Bool) (l : List Word) :
    (s.copyReadDone c x l).regions = s.regions ∧ (s.copyReadDone c x l).views = s.views ∧
      (s.copyReadDone c x l).park = s.park ∧ (s.copyReadDone c x l).host = s.host ∧
      (s.copyReadDone c x l).clock = s.clock ∧ (s.copyReadDone c x l).strobes = s.strobes ∧
      (s.copyReadDone c x l).notices = s.notices ∧ (s.copyReadDone c x l).link = s.link ∧
      (s.copyReadDone c x l).pending = s.pending := by
  simp [State.copyReadDone]

@[simp] theorem State.copyDone_frame (s : State) (c : Copy) :
    (s.copyDone c).clock = s.clock ∧ (s.copyDone c).strobes = s.strobes ∧
      (s.copyDone c).pending = s.pending := by
  simp only [State.copyDone]; repeat' split
  all_goals simp

@[simp] theorem State.copyFailed_frame (s : State) (c : Copy) (x : Bool) (w : FailCause) :
    (s.copyFailed c x w).clock = s.clock ∧ (s.copyFailed c x w).strobes = s.strobes ∧
      (s.copyFailed c x w).pending = s.pending := by
  simp only [State.copyFailed]; repeat' split
  all_goals simp

@[simp] theorem State.deliverCatchup_frame (s : State) (d : Delivery) :
    (s.deliverCatchup d).clock = s.clock ∧ (s.deliverCatchup d).strobes = s.strobes ∧
      (s.deliverCatchup d).pending = s.pending := by
  unfold State.deliverCatchup; split <;> simp

@[simp] theorem State.frameDrained_frame (s : State) (r : RegionIx) :
    (s.frameDrained r).views = s.views ∧ (s.frameDrained r).host = s.host ∧
      (s.frameDrained r).clock = s.clock ∧ (s.frameDrained r).strobes = s.strobes ∧
      (s.frameDrained r).link = s.link ∧ (s.frameDrained r).pending = s.pending := by
  unfold State.frameDrained; split <;> simp

@[simp] theorem State.removeEntry_frame (s : State) (k : ParkKey) :
    (s.removeEntry k).regions = s.regions ∧ (s.removeEntry k).views = s.views ∧
      (s.removeEntry k).catchup = s.catchup ∧ (s.removeEntry k).host = s.host ∧
      (s.removeEntry k).bus = s.bus ∧ (s.removeEntry k).clock = s.clock ∧
      (s.removeEntry k).strobes = s.strobes ∧ (s.removeEntry k).notices = s.notices ∧
      (s.removeEntry k).link = s.link ∧ (s.removeEntry k).pending = s.pending := by
  simp [State.removeEntry]

@[simp] theorem State.drainDone_frame (s : State) (k : ParkKey) (e : ParkEntry) :
    (s.drainDone k e).clock = s.clock ∧ (s.drainDone k e).strobes = s.strobes ∧
      (s.drainDone k e).pending = s.pending := by
  simp only [State.drainDone]; repeat' split
  all_goals simp

@[simp] theorem State.drainFailed_frame (s : State) (k : ParkKey) (x : Bool) :
    (s.drainFailed k x).clock = s.clock ∧ (s.drainFailed k x).strobes = s.strobes ∧
      (s.drainFailed k x).pending = s.pending := by
  simp only [State.drainFailed]; repeat' split
  all_goals simp

@[simp] theorem State.drainAnswered_frame (s : State) (k : ParkKey) (x : Bool) (d : Delivery) :
    (s.drainAnswered k x d).clock = s.clock ∧ (s.drainAnswered k x d).strobes = s.strobes ∧
      (s.drainAnswered k x d).pending = s.pending := by
  unfold State.drainAnswered; repeat' split
  all_goals simp

@[simp] theorem State.deliverDrain_frame (s : State) (d : Delivery) :
    (s.deliverDrain d).clock = s.clock ∧ (s.deliverDrain d).strobes = s.strobes ∧
      (s.deliverDrain d).pending = s.pending := by
  unfold State.deliverDrain; split <;> simp

@[simp] theorem State.answerHead_frame (s : State) (d : Delivery) :
    (s.answerHead d).clock = s.clock ∧ (s.answerHead d).strobes = s.strobes ∧
      (s.answerHead d).pending = s.pending := by
  unfold State.answerHead; split <;> simp

@[simp] theorem State.orphanEnded_frame (s : State) :
    (s.orphanEnded).clock = s.clock ∧ (s.orphanEnded).strobes = s.strobes ∧
      (s.orphanEnded).pending = s.pending := by
  unfold State.orphanEnded; split <;> simp

@[simp] theorem State.hostWriteDone_frame (s : State) (p : HostPurpose) :
    (s.hostWriteDone p).views = s.views ∧ (s.hostWriteDone p).host = s.host ∧
      (s.hostWriteDone p).clock = s.clock ∧ (s.hostWriteDone p).strobes = s.strobes ∧
      (s.hostWriteDone p).link = s.link ∧ (s.hostWriteDone p).pending = s.pending := by
  unfold State.hostWriteDone; split <;> simp

@[simp] theorem State.deliverHost_frame (s : State) (p : HostPurpose) (x : Bool) (d : Delivery) :
    (s.deliverHost p x d).clock = s.clock ∧ (s.deliverHost p x d).strobes = s.strobes ∧
      (s.deliverHost p x d).pending = s.pending := by
  unfold State.deliverHost; split <;> simp

@[simp] theorem State.handOver_frame (s : State) (o : Owner) (d : Delivery) :
    (s.handOver o d).clock = s.clock ∧ (s.handOver o d).strobes = s.strobes ∧
      (s.handOver o d).pending = s.pending := by
  unfold State.handOver; split <;> simp

@[simp] theorem State.endTransaction_frame (s : State) (o : Owner) (d : Delivery) :
    (s.endTransaction o d).clock = s.clock ∧ (s.endTransaction o d).strobes = s.strobes ∧
      (s.endTransaction o d).pending = s.pending := by
  simp [State.endTransaction]

/-! ### The Management Link -/

@[simp] theorem State.setTiming_frame (s : State) (q : Byte) (x : TimingRecord) :
    (s.setTiming q x).regions = s.regions ∧ (s.setTiming q x).views = s.views ∧
      (s.setTiming q x).catchup = s.catchup ∧ (s.setTiming q x).park = s.park ∧
      (s.setTiming q x).host = s.host ∧ (s.setTiming q x).bus = s.bus ∧
      (s.setTiming q x).strobes = s.strobes ∧ (s.setTiming q x).notices = s.notices ∧
      (s.setTiming q x).pending = s.pending := by
  unfold State.setTiming; split <;> simp

@[simp] theorem State.setIrq_frame (s : State) (q v : Byte) :
    (s.setIrq q v).regions = s.regions ∧ (s.setIrq q v).views = s.views ∧
      (s.setIrq q v).catchup = s.catchup ∧ (s.setIrq q v).park = s.park ∧ (s.setIrq q v).host = s.host ∧
      (s.setIrq q v).bus = s.bus ∧ (s.setIrq q v).clock = s.clock ∧ (s.setIrq q v).strobes = s.strobes ∧
      (s.setIrq q v).pending = s.pending := by
  unfold State.setIrq; split <;> simp

@[simp] theorem State.storeRegion_frame (s : State) (r : RegionIx) (x : RegionRecord) :
    (s.storeRegion r x).views = s.views ∧ (s.storeRegion r x).catchup = s.catchup ∧
      (s.storeRegion r x).park = s.park ∧ (s.storeRegion r x).host = s.host ∧
      (s.storeRegion r x).bus = s.bus ∧ (s.storeRegion r x).clock = s.clock ∧
      (s.storeRegion r x).strobes = s.strobes ∧ (s.storeRegion r x).notices = s.notices ∧
      (s.storeRegion r x).link = s.link ∧ (s.storeRegion r x).pending = s.pending := by
  simp [State.storeRegion]

@[simp] theorem State.writeRegion_frame (s : State) (q i : Byte) (x : RegionRecord) :
    (s.writeRegion q i x).views = s.views ∧ (s.writeRegion q i x).catchup = s.catchup ∧
      (s.writeRegion q i x).park = s.park ∧ (s.writeRegion q i x).host = s.host ∧
      (s.writeRegion q i x).bus = s.bus ∧ (s.writeRegion q i x).clock = s.clock ∧
      (s.writeRegion q i x).strobes = s.strobes ∧ (s.writeRegion q i x).notices = s.notices ∧
      (s.writeRegion q i x).pending = s.pending := by
  unfold State.writeRegion; repeat' split
  all_goals simp

@[simp] theorem State.enableOrWait_frame (s : State) (r : RegionIx) (q : Byte) :
    (s.enableOrWait r q).views = s.views ∧ (s.enableOrWait r q).park = s.park ∧
      (s.enableOrWait r q).host = s.host ∧ (s.enableOrWait r q).clock = s.clock ∧
      (s.enableOrWait r q).strobes = s.strobes ∧ (s.enableOrWait r q).notices = s.notices ∧
      (s.enableOrWait r q).pending = s.pending := by
  unfold State.enableOrWait; split <;> simp

@[simp] theorem State.enableRegion_frame (s : State) (q : Byte) (r : RegionIx) :
    (s.enableRegion q r).views = s.views ∧ (s.enableRegion q r).park = s.park ∧
      (s.enableRegion q r).host = s.host ∧ (s.enableRegion q r).clock = s.clock ∧
      (s.enableRegion q r).strobes = s.strobes ∧ (s.enableRegion q r).notices = s.notices ∧
      (s.enableRegion q r).pending = s.pending := by
  unfold State.enableRegion; repeat' split
  all_goals simp

@[simp] theorem State.retireRegion_frame (s : State) (q : Byte) (r : RegionIx) :
    (s.retireRegion q r).clock = s.clock ∧ (s.retireRegion q r).strobes = s.strobes ∧
      (s.retireRegion q r).pending = s.pending := by
  unfold State.retireRegion; split <;> simp

@[simp] theorem State.publishRegion_frame (s : State) (q : Byte) (r : RegionIx) :
    (s.publishRegion q r).views = s.views ∧ (s.publishRegion q r).host = s.host ∧
      (s.publishRegion q r).clock = s.clock ∧ (s.publishRegion q r).strobes = s.strobes ∧
      (s.publishRegion q r).pending = s.pending := by
  unfold State.publishRegion; split <;> simp

@[simp] theorem State.dropViews_frame (s : State) (f : View → Bool) :
    (s.dropViews f).host = s.host ∧ (s.dropViews f).clock = s.clock ∧ (s.dropViews f).strobes = s.strobes ∧
      (s.dropViews f).link = s.link ∧ (s.dropViews f).pending = s.pending := by
  simp [State.dropViews]

@[simp] theorem State.dropViewsCommand_frame (s : State) (q w : Byte) :
    (s.dropViewsCommand q w).host = s.host ∧ (s.dropViewsCommand q w).clock = s.clock ∧
      (s.dropViewsCommand q w).strobes = s.strobes ∧ (s.dropViewsCommand q w).pending = s.pending := by
  unfold State.dropViewsCommand; split <;> simp

@[simp] theorem State.countersFirst_frame (s : State) (q : Byte) (r : RegionIx) (x : Bool) :
    (s.countersFirst q r x).views = s.views ∧ (s.countersFirst q r x).catchup = s.catchup ∧
      (s.countersFirst q r x).park = s.park ∧ (s.countersFirst q r x).host = s.host ∧
      (s.countersFirst q r x).bus = s.bus ∧ (s.countersFirst q r x).clock = s.clock ∧
      (s.countersFirst q r x).strobes = s.strobes ∧ (s.countersFirst q r x).pending = s.pending := by
  simp only [State.countersFirst]; split <;> simp

@[simp] theorem State.countersRest_frame (s : State) (q : Byte) (r : RegionIx) :
    (s.countersRest q r).regions = s.regions ∧ (s.countersRest q r).views = s.views ∧
      (s.countersRest q r).catchup = s.catchup ∧ (s.countersRest q r).park = s.park ∧
      (s.countersRest q r).host = s.host ∧ (s.countersRest q r).bus = s.bus ∧
      (s.countersRest q r).clock = s.clock ∧ (s.countersRest q r).strobes = s.strobes ∧
      (s.countersRest q r).notices = s.notices ∧ (s.countersRest q r).pending = s.pending := by
  simp only [State.countersRest]; split <;> simp

/-! ### Frames of the link and the time base -/

/-- A frame's end releases MDO and changes nothing else of the link (R179). -/
@[simp] theorem Link.frameEnded_frame (l : Link) :
    l.frameEnded.mdo = .released ∧ l.frameEnded.state = l.state ∧ l.frameEnded.slot = l.slot ∧
      l.frameEnded.dropped = l.dropped ∧ l.frameEnded.discarding = l.discarding ∧
      l.frameEnded.waiting = l.waiting ∧ l.frameEnded.fetched = l.fetched :=
  ⟨rfl, rfl, rfl, rfl, rfl, rfl, rfl⟩

/-- All that the end of a command frame can do: a frame to be discarded is dropped, one received is executed in
EXECUTING with MDO released, and with no frame under way nothing ends (R179, R183, R184). -/
theorem State.endFrame_cases (s : State) (run : State → State) :
    (s.link.discarding = true ∧ s.endFrame run = s.setLink s.link.frameDropped) ∨
      (s.link.discarding = false ∧ s.link.state = .receiving ∧
        s.endFrame run = run (s.setLink { s.link.frameEnded with state := .executing })) ∨
      (s.link.discarding = false ∧ s.link.state ≠ .receiving ∧ s.endFrame run = s) := by
  unfold State.endFrame
  cases hd : s.link.discarding <;> cases hs : s.link.state <;> simp

/-- All that a FETCH frame can do is to change the link, and there neither the state nor the slot. -/
theorem State.fetchFrame_frame (s : State) (n : Nat) :
    s.fetchFrame n = s.setLink (s.fetchFrame n).link ∧ (s.fetchFrame n).link.state = s.link.state ∧
      (s.fetchFrame n).link.slot = s.link.slot ∧ (s.fetchFrame n).link.waiting = s.link.waiting ∧
      (s.fetchFrame n).link.discarding = s.link.discarding := by
  unfold State.fetchFrame
  split
  · exact ⟨rfl, rfl, rfl, rfl, rfl⟩
  · exact ⟨rfl, rfl, rfl, rfl, rfl⟩

@[simp] theorem TimeBase.period_timing (c : TimeBase) : c.period.timing = c.timing := by
  unfold TimeBase.period; split <;> rfl
@[simp] theorem TimeBase.period_tickCount (c : TimeBase) : c.period.tickCount = c.tickCount := by
  unfold TimeBase.period; split <;> rfl

/-- A prescaler count below TICK_DIV stays below it (R105). -/
theorem TimeBase.period_prescaler_lt (c : TimeBase) (h : 1 ≤ c.timing.tickDiv) :
    c.period.prescaler < c.timing.tickDiv := by
  unfold TimeBase.period
  split
  · exact h
  · simp only
    omega

@[simp] theorem TimeBase.tick_timing (c : TimeBase) : c.tick.timing = c.timing := rfl
@[simp] theorem TimeBase.tick_prescaler (c : TimeBase) : c.tick.prescaler = c.prescaler := rfl
@[simp] theorem TimeBase.tick_tickDue (c : TimeBase) : c.tick.tickDue = false := rfl
@[simp] theorem TimeBase.tick_tickCount (c : TimeBase) : c.tick.tickCount = c.tickCount + 1 := rfl

end Sys2Proof.Machine
end

