-- ==== Sys2Proof/Laws/Entries.lean ====
section
/-! SUPPORT. Which region entries an operation stores: none but WRITE_REGION's and power-on's. One lemma for
each shared operation that changes a region: the configuration and the WRITTEN flag of every region are kept
(R3). -/

namespace Sys2Proof.Machine

/-- The stored part of a region: its configuration and WRITTEN flag (R1, R3). -/
def State.entry (s : State) (r : RegionIx) : RegionConfig × Bool := ((s.region r).config, (s.region r).written)

/-- The configuration is the first part of the entry. -/
theorem State.config_of_entry {s t : State} {r : RegionIx} (h : t.entry r = s.entry r) :
    t.config r = s.config r := congrArg Prod.fst h

/-- A state with the same regions has the same entries. -/
theorem State.entry_congr {s t : State} (h : t.regions = s.regions) (r : RegionIx) : t.entry r = s.entry r := by
  simp [State.entry, State.region_congr h]


@[simp] theorem State.entry_modRun (s : State) (r j : RegionIx) (f : Runtime → Runtime) :
    (s.modRun r f).entry j = s.entry j := by
  simp only [State.entry, State.region_modRun]; split <;> simp_all

@[simp] theorem State.entry_modLife (s : State) (r j : RegionIx) (f : Lifecycle → Lifecycle) :
    (s.modLife r f).entry j = s.entry j := by
  simp only [State.entry, State.region_modLife]; split <;> simp_all

@[simp] theorem State.entry_modCounters (s : State) (r j : RegionIx) (f : Counters → Counters) :
    (s.modCounters r f).entry j = s.entry j := by
  simp only [State.entry, State.region_modCounters]; split <;> simp_all

@[simp] theorem State.entry_setTimer (s : State) (r j : RegionIx) (f : PeriodTimer) :
    (s.setTimer r f).entry j = s.entry j := by
  simp only [State.entry, State.region_setTimer]; split <;> simp_all

@[simp] theorem State.entry_setCatchup (s : State) (x : Catchup) (j : RegionIx) :
    (s.setCatchup x).entry j = s.entry j := rfl

@[simp] theorem State.entry_setPark (s : State) (x : ParkQueue) (j : RegionIx) :
    (s.setPark x).entry j = s.entry j := rfl

@[simp] theorem State.entry_setViews (s : State) (x : Vector (Option View) 32) (j : RegionIx) :
    (s.setViews x).entry j = s.entry j := rfl

@[simp] theorem State.entry_setHost (s : State) (x : HostPort) (j : RegionIx) :
    (s.setHost x).entry j = s.entry j := rfl

@[simp] theorem State.entry_setBus (s : State) (x : MemoryBus) (j : RegionIx) :
    (s.setBus x).entry j = s.entry j := rfl

@[simp] theorem State.entry_setClock (s : State) (x : TimeBase) (j : RegionIx) :
    (s.setClock x).entry j = s.entry j := rfl

@[simp] theorem State.entry_setStrobes (s : State) (x : Strobes) (j : RegionIx) :
    (s.setStrobes x).entry j = s.entry j := rfl

@[simp] theorem State.entry_setNotices (s : State) (x : NoticeUnit) (j : RegionIx) :
    (s.setNotices x).entry j = s.entry j := rfl

@[simp] theorem State.entry_setLink (s : State) (x : Link) (j : RegionIx) :
    (s.setLink x).entry j = s.entry j := rfl

@[simp] theorem State.entry_modLines (s : State) (f : Nat → LineEntry → LineEntry) (j : RegionIx) :
    (s.modLines f).entry j = s.entry j := rfl

@[simp] theorem State.entry_modLine (s : State) (i : Nat) (f : LineEntry → LineEntry) (j : RegionIx) :
    (s.modLine i f).entry j = s.entry j := rfl

@[simp] theorem State.entry_modRange (s : State) (c : RegionConfig) (f : LineEntry → LineEntry) (j : RegionIx) :
    (s.modRange c f).entry j = s.entry j := rfl

@[simp] theorem State.entry_setQueue (s : State) (q : List CatchEntry) (j : RegionIx) :
    (s.setQueue q).entry j = s.entry j := rfl

@[simp] theorem State.entry_setEngine (s : State) (e : Engine) (j : RegionIx) :
    (s.setEngine e).entry j = s.entry j := rfl

@[simp] theorem State.entry_setSlot (s : State) (d : DrainSlot) (j : RegionIx) :
    (s.setSlot d).entry j = s.entry j := rfl

@[simp] theorem State.entry_setEntries (s : State) (l : List ParkEntry) (j : RegionIx) :
    (s.setEntries l).entry j = s.entry j := rfl

@[simp] theorem State.entry_modEntry (s : State) (k : ParkKey) (f : ParkEntry → ParkEntry) (j : RegionIx) :
    (s.modEntry k f).entry j = s.entry j := rfl

@[simp] theorem State.entry_setView (s : State) (k : Slot) (v : Option View) (j : RegionIx) :
    (s.setView k v).entry j = s.entry j := rfl

@[simp] theorem State.entry_setHead (s : State) (h : Option Head) (j : RegionIx) :
    (s.setHead h).entry j = s.entry j := rfl

@[simp] theorem State.entry_setProgress (s : State) (p : Progress) (j : RegionIx) :
    (s.setProgress p).entry j = s.entry j := rfl

@[simp] theorem State.entry_requestHost (s : State) (a : HostAccess) (j : RegionIx) :
    (s.requestHost a).entry j = s.entry j := rfl

@[simp] theorem State.entry_requestDrain (s : State) (a : Access) (j : RegionIx) :
    (s.requestDrain a).entry j = s.entry j := rfl

@[simp] theorem State.entry_requestCatchup (s : State) (a : Access) (j : RegionIx) :
    (s.requestCatchup a).entry j = s.entry j := rfl

@[simp] theorem State.entry_raiseNotice (s : State) (r : RegionIx) (k : NoticeKind) (t : Option Tag)
    (d : BitVec 16) (j : RegionIx) :
    (s.raiseNotice r k t d).entry j = s.entry j :=
  State.entry_congr (by simp) j

@[simp] theorem State.entry_chargeRefusal (s : State) (r : RegionIx) (t : Tag) (w : RefuseReason) (j : RegionIx) :
    (s.chargeRefusal r t w).entry j = s.entry j := by
  simp only [State.chargeRefusal]; split <;> simp

@[simp] theorem State.entry_chargeShortage (s : State) (r : RegionIx) (t : Tag) (j : RegionIx) :
    (s.chargeShortage r t).entry j = s.entry j := by
  simp only [State.chargeShortage]; split <;> simp

@[simp] theorem State.entry_chargeEmpty (s : State) (r : RegionIx) (x : Source) (j : RegionIx) :
    (s.chargeEmpty r x).entry j = s.entry j := by
  simp [State.chargeEmpty]

@[simp] theorem State.entry_chargeMerged (s : State) (r : RegionIx) (x : Source) (j : RegionIx) :
    (s.chargeMerged r x).entry j = s.entry j := by
  simp [State.chargeMerged]

@[simp] theorem State.entry_chargeHeld (s : State) (r : RegionIx) (j : RegionIx) :
    (s.chargeHeld r).entry j = s.entry j := by
  simp [State.chargeHeld]

@[simp] theorem State.entry_chargeExpiry (s : State) (v : View) (j : RegionIx) :
    (s.chargeExpiry v).entry j = s.entry j := by
  simp [State.chargeExpiry]

@[simp] theorem State.entry_chargeParkTimeout (s : State) (r : RegionIx) (t : Tag) (k : Nat) (j : RegionIx) :
    (s.chargeParkTimeout r t k).entry j = s.entry j := by
  simp [State.chargeParkTimeout]

@[simp] theorem State.entry_chargeCopyRetry (s : State) (c : Copy) (x : FailCause) (j : RegionIx) :
    (s.chargeCopyRetry c x).entry j = s.entry j := by
  simp [State.chargeCopyRetry]

@[simp] theorem State.entry_grantNext (s : State) (j : RegionIx) :
    (s.grantNext).entry j = s.entry j :=
  State.entry_congr (by simp) j

@[simp] theorem State.entry_startReading (s : State) (c : Copy) (x : Bool) (j : RegionIx) :
    (s.startReading c x).entry j = s.entry j :=
  State.entry_congr (by simp) j

@[simp] theorem State.entry_engineTake (s : State) (j : RegionIx) :
    (s.engineTake).entry j = s.entry j :=
  State.entry_congr (by simp) j

@[simp] theorem State.entry_appendLines (s : State) (k : CopyKind) (l : List Nat) (j : RegionIx) :
    (s.appendLines k l).entry j = s.entry j :=
  State.entry_congr (by simp) j

@[simp] theorem State.entry_promote (s : State) (i : Nat) (j : RegionIx) :
    (s.promote i).entry j = s.entry j :=
  State.entry_congr (by simp) j

@[simp] theorem State.entry_engineNext (s : State) (j : RegionIx) :
    (s.engineNext).entry j = s.entry j :=
  State.entry_congr (by simp) j

@[simp] theorem State.entry_removeFills (s : State) (r : RegionIx) (j : RegionIx) :
    (s.removeFills r).entry j = s.entry j :=
  State.entry_congr (by simp) j

@[simp] theorem State.entry_clearBusy (s : State) (i : Nat) (j : RegionIx) :
    (s.clearBusy i).entry j = s.entry j :=
  State.entry_congr (by simp) j

@[simp] theorem State.entry_markDirty (s : State) (r : RegionIx) (i : Nat) (j : RegionIx) :
    (s.markDirty r i).entry j = s.entry j := by
  unfold State.markDirty; split <;> simp

@[simp] theorem State.entry_countIssue (s : State) (r : RegionIx) (i : Nat) (j : RegionIx) :
    (s.countIssue r i).entry j = s.entry j := by
  simp [State.countIssue]

@[simp] theorem State.entry_issueDrain (s : State) (k : ParkKey) (x : Bool) (j : RegionIx) :
    (s.issueDrain k x).entry j = s.entry j := by
  unfold State.issueDrain; split <;> simp

@[simp] theorem State.entry_drainTry (s : State) (k : ParkKey) (x : Bool) (j : RegionIx) :
    (s.drainTry k x).entry j = s.entry j := by
  simp only [State.drainTry]; repeat' split
  all_goals simp

@[simp] theorem State.entry_drainNext (s : State) (j : RegionIx) :
    (s.drainNext).entry j = s.entry j := by
  unfold State.drainNext; repeat' split
  all_goals simp

@[simp] theorem State.entry_drainRelease (s : State) (j : RegionIx) :
    (s.drainRelease).entry j = s.entry j := by
  unfold State.drainRelease; repeat' split
  all_goals simp

@[simp] theorem State.entry_enterPending (s : State) (r : RegionIx) (j : RegionIx) :
    (s.enterPending r).entry j = s.entry j := by
  simp [State.enterPending]

@[simp] theorem State.entry_noteHeld (s : State) (r : RegionIx) (j : RegionIx) :
    (s.noteHeld r).entry j = s.entry j := by
  unfold State.noteHeld; split <;> simp

@[simp] theorem State.entry_waitNoted (s : State) (r : RegionIx) (j : RegionIx) :
    (s.waitNoted r).entry j = s.entry j := by
  unfold State.waitNoted; split <;> simp

@[simp] theorem State.entry_publishCore (s : State) (r : RegionIx) (j : RegionIx) :
    (s.publishCore r).entry j = s.entry j := by
  simp [State.publishCore]

@[simp] theorem State.entry_followOn (s : State) (r : RegionIx) (j : RegionIx) :
    (s.followOn r).entry j = s.entry j := by
  simp only [State.followOn]; repeat' split
  all_goals simp

@[simp] theorem State.entry_publish (s : State) (r : RegionIx) (j : RegionIx) :
    (s.publish r).entry j = s.entry j := by
  simp [State.publish]

@[simp] theorem State.entry_evaluate (s : State) (r : RegionIx) (j : RegionIx) :
    (s.evaluate r).entry j = s.entry j := by
  unfold State.evaluate; repeat' split
  all_goals simp

@[simp] theorem State.entry_takeTrigger (s : State) (r : RegionIx) (x : Source) (j : RegionIx) :
    (s.takeTrigger r x).entry j = s.entry j := by
  unfold State.takeTrigger; repeat' split
  all_goals simp

@[simp] theorem State.entry_deliver (s : State) (r : RegionIx) (x : Source) (j : RegionIx) :
    (s.deliver r x).entry j = s.entry j := by
  unfold State.deliver; split <;> simp

@[simp] theorem State.entry_lastViewEnded (s : State) (r : RegionIx) (b : Bank) (j : RegionIx) :
    (s.lastViewEnded r b).entry j = s.entry j := by
  unfold State.lastViewEnded; split <;> simp

@[simp] theorem State.entry_reportRegion (s : State) (g : List View) (r : RegionIx) (j : RegionIx) :
    (s.reportRegion g r).entry j = s.entry j := by
  simp only [State.reportRegion]
  exact foldl_frame _ (fun s : State => s.entry j) (by simp) _ _

@[simp] theorem State.entry_reportBanks (s : State) (g : List View) (j : RegionIx) :
    (s.reportBanks g).entry j = s.entry j := by
  simp only [State.reportBanks]
  exact foldl_frame _ (fun s : State => s.entry j) (by simp) _ _

@[simp] theorem State.entry_deliverStrobe (s : State) (i : Fin 4) (x : Bool) (j : RegionIx) :
    (s.deliverStrobe i x).entry j = s.entry j := by
  simp only [State.deliverStrobe]
  exact foldl_frame _ (fun s : State => s.entry j) (by intro s r; split <;> simp) _ _

@[simp] theorem State.entry_dropWhere (s : State) (f : Nat → View → Bool) (j : RegionIx) :
    (s.dropWhere f).entry j = s.entry j :=
  State.entry_congr (by simp) j

@[simp] theorem State.entry_removeViews (s : State) (f : Nat → View → Bool) (j : RegionIx) :
    (s.removeViews f).entry j = s.entry j := by
  simp [State.removeViews]

@[simp] theorem State.entry_expireViews (s : State) (f : Nat → View → Bool) (j : RegionIx) :
    (s.expireViews f).entry j = s.entry j := by
  simp only [State.expireViews, State.entry_reportBanks]
  exact (foldl_frame _ (fun s : State => s.entry j) (by simp) _ _).trans (by simp)

@[simp] theorem State.entry_endUse (s : State) (k : Slot) (x : Bool) (j : RegionIx) :
    (s.endUse k x).entry j = s.entry j := by
  simp only [State.endUse]; repeat' split
  all_goals simp

@[simp] theorem State.entry_abandonUse (s : State) (k : Slot) (j : RegionIx) :
    (s.abandonUse k).entry j = s.entry j := by
  simp [State.abandonUse]

@[simp] theorem State.entry_dropUse (s : State) (j : RegionIx) :
    (s.dropUse).entry j = s.entry j := by
  unfold State.dropUse; split <;> simp

@[simp] theorem State.entry_refreshView (s : State) (k : Slot) (j : RegionIx) :
    (s.refreshView k).entry j = s.entry j :=
  State.entry_congr (by simp) j

@[simp] theorem State.entry_openView (s : State) (k : Slot) (r : RegionIx) (t : Tag) (j : RegionIx) :
    (s.openView k r t).entry j = s.entry j := by
  simp [State.openView]

@[simp] theorem State.entry_placeResponse (s : State) (x : LinkResponse) (j : RegionIx) :
    (s.placeResponse x).entry j = s.entry j :=
  State.entry_congr (by simp) j

@[simp] theorem State.entry_ack (s : State) (q : Byte) (p : List Byte) (j : RegionIx) :
    (s.ack q p).entry j = s.entry j :=
  State.entry_congr (by simp) j

@[simp] theorem State.entry_nak (s : State) (q : Byte) (n : Nak) (j : RegionIx) :
    (s.nak q n).entry j = s.entry j :=
  State.entry_congr (by simp) j

@[simp] theorem State.entry_enableApply (s : State) (r : RegionIx) (q : Byte) (j : RegionIx) :
    (s.enableApply r q).entry j = s.entry j := by
  simp [State.enableApply]

@[simp] theorem State.entry_enableDue (s : State) (j : RegionIx) :
    (s.enableDue).entry j = s.entry j := by
  unfold State.enableDue; repeat' split
  all_goals simp

@[simp] theorem State.entry_retirementEnd (s : State) (r : RegionIx) (j : RegionIx) :
    (s.retirementEnd r).entry j = s.entry j := by
  simp [State.retirementEnd]

@[simp] theorem State.entry_endIfFolded (s : State) (r : RegionIx) (j : RegionIx) :
    (s.endIfFolded r).entry j = s.entry j := by
  unfold State.endIfFolded; split <;> simp

@[simp] theorem State.entry_foldBack (s : State) (r : RegionIx) (j : RegionIx) :
    (s.foldBack r).entry j = s.entry j := by
  unfold State.foldBack; split <;> simp

@[simp] theorem State.entry_foldReport (s : State) (r : RegionIx) (x : Bool) (j : RegionIx) :
    (s.foldReport r x).entry j = s.entry j := by
  simp [State.foldReport]

@[simp] theorem State.entry_draftWriteDone (s : State) (r : RegionIx) (j : RegionIx) :
    (s.draftWriteDone r).entry j = s.entry j := by
  simp [State.draftWriteDone]

@[simp] theorem State.entry_endDecisionUse (s : State) (d : Option Decision) (j : RegionIx) :
    (s.endDecisionUse d).entry j = s.entry j := by
  unfold State.endDecisionUse; repeat' split
  all_goals simp

@[simp] theorem State.entry_giveResponse (s : State) (x : HostResponse) (j : RegionIx) :
    (s.giveResponse x).entry j = s.entry j := by
  simp [State.giveResponse]

@[simp] theorem State.entry_abortHead (s : State) (r : RegionIx) (j : RegionIx) :
    (s.abortHead r).entry j = s.entry j := by
  unfold State.abortHead; split <;> simp

@[simp] theorem State.entry_wordTrigger (s : State) (r : RegionIx) (x : Bool) (j : RegionIx) :
    (s.wordTrigger r x).entry j = s.entry j := by
  unfold State.wordTrigger; split <;> simp

@[simp] theorem State.entry_issueHost (s : State) (r : RegionIx) (j : RegionIx) :
    (s.issueHost r).entry j = s.entry j := by
  unfold State.issueHost; split <;> simp

@[simp] theorem State.entry_draftWrite (s : State) (r : RegionIx) (q : HostRequest) (j : RegionIx) :
    (s.draftWrite r q).entry j = s.entry j := by
  simp only [State.draftWrite]; repeat' split
  all_goals simp

@[simp] theorem State.entry_placeBeat (s : State) (k : ParkKey) (b : Beat) (j : RegionIx) :
    (s.placeBeat k b).entry j = s.entry j :=
  State.entry_congr (by simp) j

@[simp] theorem State.entry_placeBeats (s : State) (r : RegionIx) (t : Word) (w : Nat) (l : List Beat) (j : RegionIx) :
    (s.placeBeats r t w l).entry j = s.entry j :=
  State.entry_congr (by simp) j

@[simp] theorem State.entry_placeWrite (s : State) (r : RegionIx) (q : HostRequest) (x : Bool) (j : RegionIx) :
    (s.placeWrite r q x).entry j = s.entry j := by
  simp [State.placeWrite]

@[simp] theorem State.entry_parkWrite (s : State) (r : RegionIx) (n : Nat) (j : RegionIx) :
    (s.parkWrite r n).entry j = s.entry j := by
  simp only [State.parkWrite]; repeat' split
  all_goals simp

@[simp] theorem State.entry_reevaluatePark (s : State) (j : RegionIx) :
    (s.reevaluatePark).entry j = s.entry j := by
  unfold State.reevaluatePark; repeat' split
  all_goals simp

@[simp] theorem State.entry_releaseWrites (s : State) (r : RegionIx) (i : Nat) (j : RegionIx) :
    (s.releaseWrites r i).entry j = s.entry j := by
  simp only [State.releaseWrites]; repeat' split
  all_goals simp

@[simp] theorem State.entry_lineCurrent (s : State) (r : RegionIx) (i : Nat) (j : RegionIx) :
    (s.lineCurrent r i).entry j = s.entry j := by
  simp [State.lineCurrent]

@[simp] theorem State.entry_accessMemory (s : State) (q : HostRequest) (d : Decision) (p : HostPurpose) (j : RegionIx) :
    (s.accessMemory q d p).entry j = s.entry j := by
  simp [State.accessMemory]

@[simp] theorem State.entry_passRequest (s : State) (q : HostRequest) (j : RegionIx) :
    (s.passRequest q).entry j = s.entry j := by
  simp [State.passRequest]

@[simp] theorem State.entry_refuse (s : State) (r : RegionIx) (q : HostRequest) (w : RefuseReason) (j : RegionIx) :
    (s.refuse r q w).entry j = s.entry j := by
  simp [State.refuse]

@[simp] theorem State.entry_writerWrite (s : State) (r : RegionIx) (q : HostRequest) (j : RegionIx) :
    (s.writerWrite r q).entry j = s.entry j := by
  simp only [State.writerWrite]; repeat' split
  all_goals simp

@[simp] theorem State.entry_writerRead (s : State) (r : RegionIx) (q : HostRequest) (j : RegionIx) :
    (s.writerRead r q).entry j = s.entry j := by
  simp [State.writerRead]

@[simp] theorem State.entry_viewRead (s : State) (r : RegionIx) (q : HostRequest) (j : RegionIx) :
    (s.viewRead r q).entry j = s.entry j := by
  simp only [State.viewRead]; repeat' split
  all_goals simp

@[simp] theorem State.entry_sendOn (s : State) (q : HostRequest) (j : RegionIx) :
    (s.sendOn q).entry j = s.entry j := by
  unfold State.sendOn; repeat' split
  all_goals simp

@[simp] theorem State.entry_refuseSpan (s : State) (j : RegionIx) :
    (s.refuseSpan).entry j = s.entry j := by
  simp [State.refuseSpan]

@[simp] theorem State.entry_decideHead (s : State) (j : RegionIx) :
    (s.decideHead).entry j = s.entry j := by
  unfold State.decideHead; repeat' split
  all_goals simp

@[simp] theorem State.entry_dropEntries (s : State) (r : RegionIx) (j : RegionIx) :
    (s.dropEntries r).entry j = s.entry j :=
  State.entry_congr (by simp) j

@[simp] theorem State.entry_noteDiscard (s : State) (r : RegionIx) (n : Nat) (j : RegionIx) :
    (s.noteDiscard r n).entry j = s.entry j :=
  State.entry_congr (by simp) j

@[simp] theorem State.entry_reevaluateOthers (s : State) (r : RegionIx) (n : Nat) (j : RegionIx) :
    (s.reevaluateOthers r n).entry j = s.entry j := by
  unfold State.reevaluateOthers; split <;> simp

@[simp] theorem State.entry_parkDiscard (s : State) (r : RegionIx) (j : RegionIx) :
    (s.parkDiscard r).entry j = s.entry j := by
  simp [State.parkDiscard]

@[simp] theorem State.entry_fault (s : State) (r : RegionIx) (x : FaultCause) (n : Nat) (j : RegionIx) :
    (s.fault r x n).entry j = s.entry j := by
  simp [State.fault]

@[simp] theorem State.entry_retireAccept (s : State) (r : RegionIx) (j : RegionIx) :
    (s.retireAccept r).entry j = s.entry j := by
  simp [State.retireAccept]

@[simp] theorem State.entry_restartBlocks (s : State) (j : RegionIx) :
    s.restartBlocks.entry j = s.entry j := by
  simp [State.restartBlocks, State.entry, State.region_congr (State.setNotices_regions _ _),
    State.region_congr (State.setBus_regions _ _), State.region_congr (State.setHost_regions _ _),
    State.region_congr (State.setPark_regions _ _), State.region_congr (State.setCatchup_regions _ _),
    State.region_congr (State.setViews_regions _ _), Region.restarted]

@[simp] theorem State.entry_restartApply (s : State) (q : Byte) (j : RegionIx) :
    (s.restartApply q).entry j = s.entry j := by
  simp only [State.restartApply]; split <;> simp

@[simp] theorem State.entry_restartDue (s : State) (j : RegionIx) :
    (s.restartDue).entry j = s.entry j := by
  unfold State.restartDue; repeat' split
  all_goals simp

@[simp] theorem State.entry_withdrawnDone (s : State) (a : Option HostAccess) (j : RegionIx) :
    (s.withdrawnDone a).entry j = s.entry j := by
  unfold State.withdrawnDone; split <;> simp

@[simp] theorem State.entry_hostPortReset (s : State) (j : RegionIx) :
    (s.hostPortReset).entry j = s.entry j := by
  simp [State.hostPortReset]

@[simp] theorem State.entry_copyReadDone (s : State) (c : Copy) (x : Bool) (l : List Word) (j : RegionIx) :
    (s.copyReadDone c x l).entry j = s.entry j :=
  State.entry_congr (by simp) j

@[simp] theorem State.entry_copyDone (s : State) (c : Copy) (j : RegionIx) :
    (s.copyDone c).entry j = s.entry j := by
  simp only [State.copyDone]; repeat' split
  all_goals simp

@[simp] theorem State.entry_copyFailed (s : State) (c : Copy) (x : Bool) (w : FailCause) (j : RegionIx) :
    (s.copyFailed c x w).entry j = s.entry j := by
  simp only [State.copyFailed]; repeat' split
  all_goals simp

@[simp] theorem State.entry_deliverCatchup (s : State) (d : Delivery) (j : RegionIx) :
    (s.deliverCatchup d).entry j = s.entry j := by
  unfold State.deliverCatchup; split <;> simp

@[simp] theorem State.entry_frameDrained (s : State) (r : RegionIx) (j : RegionIx) :
    (s.frameDrained r).entry j = s.entry j := by
  unfold State.frameDrained; split <;> simp

@[simp] theorem State.entry_removeEntry (s : State) (k : ParkKey) (j : RegionIx) :
    (s.removeEntry k).entry j = s.entry j :=
  State.entry_congr (by simp) j

@[simp] theorem State.entry_drainDone (s : State) (k : ParkKey) (e : ParkEntry) (j : RegionIx) :
    (s.drainDone k e).entry j = s.entry j := by
  simp only [State.drainDone]; repeat' split
  all_goals simp

@[simp] theorem State.entry_drainFailed (s : State) (k : ParkKey) (x : Bool) (j : RegionIx) :
    (s.drainFailed k x).entry j = s.entry j := by
  simp only [State.drainFailed]; repeat' split
  all_goals simp

@[simp] theorem State.entry_drainAnswered (s : State) (k : ParkKey) (x : Bool) (d : Delivery) (j : RegionIx) :
    (s.drainAnswered k x d).entry j = s.entry j := by
  unfold State.drainAnswered; repeat' split
  all_goals simp

@[simp] theorem State.entry_deliverDrain (s : State) (d : Delivery) (j : RegionIx) :
    (s.deliverDrain d).entry j = s.entry j := by
  unfold State.deliverDrain; split <;> simp

@[simp] theorem State.entry_answerHead (s : State) (d : Delivery) (j : RegionIx) :
    (s.answerHead d).entry j = s.entry j := by
  unfold State.answerHead; split <;> simp

@[simp] theorem State.entry_orphanEnded (s : State) (j : RegionIx) :
    (s.orphanEnded).entry j = s.entry j := by
  unfold State.orphanEnded; split <;> simp

@[simp] theorem State.entry_hostWriteDone (s : State) (p : HostPurpose) (j : RegionIx) :
    (s.hostWriteDone p).entry j = s.entry j := by
  unfold State.hostWriteDone; split <;> simp

@[simp] theorem State.entry_deliverHost (s : State) (p : HostPurpose) (x : Bool) (d : Delivery) (j : RegionIx) :
    (s.deliverHost p x d).entry j = s.entry j := by
  unfold State.deliverHost; split <;> simp

@[simp] theorem State.entry_handOver (s : State) (o : Owner) (d : Delivery) (j : RegionIx) :
    (s.handOver o d).entry j = s.entry j := by
  unfold State.handOver; split <;> simp

@[simp] theorem State.entry_endTransaction (s : State) (o : Owner) (d : Delivery) (j : RegionIx) :
    (s.endTransaction o d).entry j = s.entry j := by
  simp [State.endTransaction]

@[simp] theorem State.entry_setTiming (s : State) (q : Byte) (x : TimingRecord) (j : RegionIx) :
    (s.setTiming q x).entry j = s.entry j :=
  State.entry_congr (by simp) j

@[simp] theorem State.entry_setIrq (s : State) (q v : Byte) (j : RegionIx) :
    (s.setIrq q v).entry j = s.entry j :=
  State.entry_congr (by simp) j

@[simp] theorem State.entry_enableOrWait (s : State) (r : RegionIx) (q : Byte) (j : RegionIx) :
    (s.enableOrWait r q).entry j = s.entry j := by
  unfold State.enableOrWait; split <;> simp

@[simp] theorem State.entry_enableRegion (s : State) (q : Byte) (r : RegionIx) (j : RegionIx) :
    (s.enableRegion q r).entry j = s.entry j := by
  unfold State.enableRegion; repeat' split
  all_goals simp

@[simp] theorem State.entry_retireRegion (s : State) (q : Byte) (r : RegionIx) (j : RegionIx) :
    (s.retireRegion q r).entry j = s.entry j := by
  unfold State.retireRegion; split <;> simp

@[simp] theorem State.entry_publishRegion (s : State) (q : Byte) (r : RegionIx) (j : RegionIx) :
    (s.publishRegion q r).entry j = s.entry j := by
  unfold State.publishRegion; split <;> simp

@[simp] theorem State.entry_dropViews (s : State) (f : View → Bool) (j : RegionIx) :
    (s.dropViews f).entry j = s.entry j := by
  simp [State.dropViews]

@[simp] theorem State.entry_dropViewsCommand (s : State) (q w : Byte) (j : RegionIx) :
    (s.dropViewsCommand q w).entry j = s.entry j := by
  unfold State.dropViewsCommand; split <;> simp

@[simp] theorem State.entry_countersFirst (s : State) (q : Byte) (r : RegionIx) (x : Bool) (j : RegionIx) :
    (s.countersFirst q r x).entry j = s.entry j := by
  simp only [State.countersFirst]; split <;> simp

@[simp] theorem State.entry_countersRest (s : State) (q : Byte) (r : RegionIx) (j : RegionIx) :
    (s.countersRest q r).entry j = s.entry j :=
  State.entry_congr (by simp) j

end Sys2Proof.Machine
end

