-- ==== Sys2Proof/Laws/PerInstr.lean ====
section
/-! SUPPORT. What holds of every command as syntax, one lemma for each constructor of `Instr`. -/

namespace Sys2Proof.Laws.Payload

/-- The payload that a link command is written with has the length R186 gives its command code. -/
def Statement (i : Instr) : Prop :=
  ∀ (c : CommandCode) (seq : Byte) (payload : List Byte),
    i.linkParts = some (c, seq, payload) → payload.length = c.payloadLength

theorem of_none {i : Instr} (h : i.linkParts = none) : Statement i := by
  intro c q p hp
  simp [h] at hp

theorem of_eq {i : Instr} {c : CommandCode} {seq : Byte} {payload : List Byte}
    (h : i.linkParts = some (c, seq, payload)) (hl : payload.length = c.payloadLength) : Statement i := by
  intro c' q p hp
  obtain ⟨rfl, rfl, rfl⟩ : c = c' ∧ seq = q ∧ payload = p := by simpa [h] using hp
  exact hl

theorem powerOn :
    Statement .powerOn := of_none rfl

theorem hostPortReset :
    Statement .hostPortReset := of_none rfl

theorem hostPortResetRelease :
    Statement .hostPortResetRelease := of_none rfl

theorem hostRequestAccepted (req : HostRequest) :
    Statement (.hostRequestAccepted req) := of_none rfl

theorem hostResponseTaken :
    Statement .hostResponseTaken := of_none rfl

theorem publication (r : RegionIx) :
    Statement (.publication r) := of_none rfl

theorem tick :
    Statement .tick := of_none rfl

theorem viewExpiry :
    Statement .viewExpiry := of_none rfl

theorem parkTimeout :
    Statement .parkTimeout := of_none rfl

theorem parkSpaceFound :
    Statement .parkSpaceFound := of_none rfl

theorem periodTimerFire (r : RegionIx) :
    Statement (.periodTimerFire r) := of_none rfl

theorem strobeEdge (line : Fin 4) :
    Statement (.strobeEdge line) := of_none rfl

theorem grant :
    Statement .grant := of_none rfl

theorem memoryAnswer (answer : MemAnswer) :
    Statement (.memoryAnswer answer) := of_none rfl

theorem memoryTimeout :
    Statement .memoryTimeout := of_none rfl

theorem lateAnswerDiscarded :
    Statement .lateAnswerDiscarded := of_none rfl

theorem lineCurrentRelease (line : Nat) :
    Statement (.lineCurrentRelease line) := of_none rfl

theorem catchupTake :
    Statement .catchupTake := of_none rfl

theorem drainTake :
    Statement .drainTake := of_none rfl

theorem drainWriteRelease :
    Statement .drainWriteRelease := of_none rfl

theorem foldBackQueued (r : RegionIx) :
    Statement (.foldBackQueued r) := of_none rfl

theorem retirementEnd (r : RegionIx) :
    Statement (.retirementEnd r) := of_none rfl

theorem enableApplied :
    Statement .enableApplied := of_none rfl

theorem restartApplied :
    Statement .restartApplied := of_none rfl

theorem fetch (clocked : Nat) :
    Statement (.fetch clocked) := of_none rfl

theorem commandDropped :
    Statement .commandDropped := of_none rfl

theorem commandFrameRejected (frame : List Byte) :
    Statement (.commandFrameRejected frame) := of_none rfl

theorem ident (seq : Byte) :
    Statement (.ident seq) := of_eq rfl rfl

theorem setTiming (seq : Byte) (timing : TimingRecord) :
    Statement (.setTiming seq timing) := of_eq rfl rfl

theorem writeRegion (seq region : Byte) (record : RegionRecord) :
    Statement (.writeRegion seq region record) := of_eq rfl rfl

theorem readRegionConfig (seq region : Byte) :
    Statement (.readRegionConfig seq region) := of_eq rfl rfl

theorem readRegionState (seq region : Byte) :
    Statement (.readRegionState seq region) := of_eq rfl rfl

theorem enableRegion (seq region : Byte) :
    Statement (.enableRegion seq region) := of_eq rfl rfl

theorem retireRegion (seq region : Byte) :
    Statement (.retireRegion seq region) := of_eq rfl rfl

theorem publish (seq region : Byte) :
    Statement (.publish seq region) := of_eq rfl rfl

theorem dropViews (seq which : Byte) :
    Statement (.dropViews seq which) := of_eq rfl rfl

theorem readViews (seq start : Byte) :
    Statement (.readViews seq start) := of_eq rfl rfl

theorem readNotices (seq : Byte) :
    Statement (.readNotices seq) := of_eq rfl rfl

theorem readCountersFirst (seq region : Byte) (opts : BitVec 7) :
    Statement (.readCountersFirst seq region opts) := of_eq rfl rfl

theorem readCountersRest (seq region : Byte) (opts : BitVec 7) :
    Statement (.readCountersRest seq region opts) := of_eq rfl rfl

theorem setIrq (seq value : Byte) :
    Statement (.setIrq seq value) := of_eq rfl rfl

theorem restart (seq : Byte) :
    Statement (.restart seq) := of_eq rfl rfl

theorem strobeSample (pins : Vector Bool 4) :
    Statement (.strobeSample pins) := of_none rfl

theorem commandFrameFirstByte :
    Statement .commandFrameFirstByte := of_none rfl

end Sys2Proof.Laws.Payload
end

