-- ==== Sys2Proof/Tests/Slice0.lean ====
section
/-! SUPPORT. Tests: the check of well-formedness, one step of each command against the worked examples of
spec/, and states that meet the hypotheses of the statements. Each example's file is named beside its test. -/

namespace Sys2Proof.Tests

open Sys2Proof Sys2Proof.Machine

set_option Elab.async false

/-! ### Building small states -/

/-- A value read from the next state of a command; none where it stops. -/
def ran {α : Type} (c : Instr) (s : State) (read : State → α) : Option α :=
  match exec c s with
  | .next t => some (read t)
  | _ => none

/-- A configuration: writer 2, readers 5 and 9, every notice kind queued. -/
def conf (base lines lineBase : Nat) : RegionConfig :=
  { RegionConfig.cleared with
    windowBase := BitVec.ofNat 32 base
    lines := lines
    bankBBase := BitVec.ofNat 32 (base + 0x4000)
    bankCBase := BitVec.ofNat 32 (base + 0x8000)
    lineBase := lineBase
    writerTag := 2
    readerMask := 0x0220
    close := lines * 16 - 1
    periodTicks := 8
    viewIdle := 5
    viewAge := 20
    noticeMask := 0x0FFF }

/-- A region with a configuration, a phase, the roles of A, B and C, a frame and the bank frames. -/
def reg (c : RegionConfig) (p : Phase) (a b d : Role) (f : Word) (fa fb fc : Word) : Region :=
  { Region.powerOn with
    config := c
    written := true
    run := { Runtime.powerOn with phase := p, roles := ⟨a, b, d⟩, frame := f, bankFrames := ⟨fa, fb, fc⟩ } }

/-- A state with one more region. -/
def withReg (s : State) (r : RegionIx) (g : Region) : State :=
  { s with regions := s.regions.set r.val g r.isLt }

/-- A state with one line entry: the banks it is stale in, dirty, queued, busy. -/
def withLine (s : State) (ix : Nat) (a b c dirty queued busy : Bool) : State :=
  s.modLine ix fun _ => ⟨⟨a, b, c⟩, dirty, queued, busy⟩

/-- A state that is receiving a command frame. -/
def recv (s : State) : State := { s with link := { s.link with state := .receiving } }

/-- A read of `n` beats and a write of `n` beats at a byte address. -/
def rd (addr n : Nat) (tag : Tag) : HostRequest := ⟨.read, BitVec.ofNat 30 (addr / 4), n, tag, []⟩
def wr (addr n : Nat) (tag : Tag) : HostRequest :=
  ⟨.write, BitVec.ofNat 30 (addr / 4), n, tag, List.replicate n ⟨0x11223344, 0xF⟩⟩

/-- A transaction in flight of a requester. -/
def txn (o : Owner) (kind : Kind) (addr : Word) (n : Nat) : Port :=
  .inFlight ⟨o, ⟨kind, addr, n, 2, []⟩⟩ 100

/-- A decision of a class for a region's line. -/
def dec (cls : HostClass) (r : Option RegionIx) (line : Option Nat) (p : Phase) : Decision :=
  ⟨cls, r, line, p, none, .none, 0, none, false, false, none⟩

/-- A state with a head request in a progress state. -/
def withHead (s : State) (q : HostRequest) (p : Progress) (d : Decision) : State :=
  { s with host := { s.host with queue := [q], head := some ⟨p, some d⟩ } }

/-- A state with a notice queue of `n` notices, all of region 1, and the interrupt enabled. -/
def withNotices (s : State) (n : Nat) (lost : Bool) : State :=
  { s with
    notices :=
      { s.notices with
        queue := List.replicate n ⟨.published, 1, 0, none, 0, 0⟩, lost := lost, irqEnabled := true
        irqAsserted := true } }

/-! ### Well-formedness: each check refuses an ill-formed term -/

theorem test_wf_no_beats : (Instr.hostRequestAccepted (rd 0 0 1)).wf = false := by decide
theorem test_wf_seventeen_beats : (Instr.hostRequestAccepted (rd 0 17 1)).wf = false := by decide
theorem test_wf_read_with_data :
    (Instr.hostRequestAccepted { rd 0 1 1 with data := [⟨0, 0⟩] }).wf = false := by decide
theorem test_wf_write_short_of_data :
    (Instr.hostRequestAccepted { wr 0 2 1 with data := [⟨0, 0⟩] }).wf = false := by decide
theorem test_wf_long_answer : (Instr.memoryAnswer (.okay (List.replicate 17 0))).wf = false := by decide
theorem test_wf_line_past_table : (Instr.lineCurrentRelease 2048).wf = false := by decide
theorem test_wf_no_frame : (Instr.commandFrameRejected []).wf = false := by decide
theorem test_wf_fetch_code : (Instr.commandFrameRejected [0xF0]).wf = false := by decide
theorem test_wf_last_line : (Instr.lineCurrentRelease 2047).wf = true := by decide

/-! ### Frames (11: R180 and R186) -/

/-- The frame of R180's example, and the same frame with a wrong CRC. -/
theorem test_frame_ident :
    decodeFrame [0x01, 0x05, 0x00, 0x2A] = .ok (.ident 0x05) ∧
      decodeFrame [0x01, 0x05, 0x00, 0x2B] = .error ⟨.badCheck, 0x2A⟩ := by decide +kernel

/-! ### Region 3 of chapter 01 -/

def conf3 : RegionConfig :=
  { RegionConfig.cleared with
    windowBase := 0x20004000
    lines := 8
    bankBBase := 0x20100000
    bankCBase := 0x20100200
    lineBase := 40
    writerTag := 2
    readerMask := 0x0220
    commit := some 0
    close := 127
    stamp := some 1
    trigWord := true
    periodTicks := 1
    viewIdle := 5
    viewAge := 20
    noticeMask := 0x0040 }

/-- Region 3 OPEN with F = 17: C LIVE, A DRAFT, B HELD by a view of tag 5. -/
def s3 : State :=
  { withReg State.reset 3 (reg conf3 .opened .draft .held .live 17 15 16 17) with
    views := State.reset.views.set 0 (some ⟨5, 3, .bankB, 16, 5, 20, false, false⟩) }

/-- What a request brings about: the class, the address on the memory bus, the head's answer. -/
def outcome (q : HostRequest) : Option (Option HostClass × Option Word × Option Progress) :=
  ran (.hostRequestAccepted q) s3 fun t =>
    (t.decision.map (·.cls),
      (match t.bus.port with
        | .inFlight x _ => some x.access.addr
        | _ => none),
      t.progress)

/-- The nine requests of the example of 01, each on the example's first state; and what request 4 is charged. -/
theorem test_host_request_region_3 :
    ran (.hostRequestAccepted (rd 0x20004100 1 7)) s3 (fun t =>
        ((t.region 3).counters.refused, (t.region 3).counters.refusedFlag, t.notices.queue)) =
      some (1, true, [⟨.refused, 3, 17, some 7, 2, 0⟩]) ∧
    [wr 0x20004080 4 2, rd 0x20004000 2 5, rd 0x200041FC 1 9, rd 0x20004100 1 7, wr 0x20004000 2 2,
        rd 0x201000C0 1 2, rd 0x20004200 1 5, wr 0x2000403C 2 2, rd 0x20004004 1 2].map outcome =
      [some (some .writerWrite, some 0x20004080, some .waitMemory),
        some (some .viewRead, some 0x20100000, some .waitMemory),
        some (some .viewRead, some 0x201003FC, some .waitMemory),
        some (some (.refused .tag), none, some (.respond ⟨.refused .tag, []⟩)),
        some (some (.refused .stamp), none, some (.respond ⟨.refused .stamp, []⟩)),
        some (some (.refused .shadow), none, some (.respond ⟨.refused .shadow, []⟩)),
        some (some .pass, some 0x20004200, some .waitMemory),
        some (none, none, some (.respond ⟨.burstSpan, []⟩)),
        some (some .writerRead, some 0x20004004, some .waitMemory)] :=
  ⟨by decide +kernel, by decide +kernel⟩


/-! ### Region 2 of chapter 04 -/

/-- Line 57 of region 5, being read for its DRAFT. -/
def copy57 : Copy := ⟨57, .fill, 5, .bankA, .bankB⟩

/-- The state before step 1 of 04: region 2 PENDING with F = 6, one draft write in flight. -/
def s2 : State :=
  let g := reg (conf 0x40000000 4 100) .pending .live .draft .free 6 6 0 0
  let s := withReg State.reset 2 { g with run := { g.run with inFlight := 1, dirtyLines := 2 } }
  let s := withReg s 3 (reg (conf 0x50000000 8 40) .opened .live .draft .free 0 0 0 0)
  let s := withReg s 5 (reg (conf 0x60000000 8 56) .opened .live .draft .free 0 0 0 0)
  let s := withLine s 100 false false true false false false
  let s := withLine s 101 false false true true false false
  let s := withLine s 102 false false true false false false
  let s := withLine s 103 false false true true false false
  let s := withLine s 40 false true true false true false
  let s := withLine s 57 false true true false false true
  { s with
    catchup := { s.catchup with queue := [⟨40, .fill⟩], engine := .reading copy57 false }
    bus := { s.bus with catchReq := some ⟨.read, 0x60000040, 16, 2, []⟩ } }

/-- The state after step 1: the draft of frame 8 is bank A. -/
def s2b : State :=
  let s := withReg s2 2 (reg (conf 0x40000000 4 100) .opened .draft .live .free 7 6 7 0)
  let s := withLine s 101 true false true false true false
  let s := withLine s 103 true false true false true false
  { s with catchup := { s.catchup with queue := [⟨40, .fill⟩, ⟨101, .fill⟩, ⟨103, .fill⟩] } }

/-- The state before step 6: line 103 is copied into bank A, and the head waits for it. -/
def s2c : State :=
  let s := withLine s2b 103 true false true false false true
  let s := { s with
    catchup :=
      { s.catchup with
        queue := [⟨40, .fill⟩, ⟨101, .fill⟩]
        engine := .writing ⟨103, .fill, 2, .bankB, .bankA⟩ false (List.replicate 16 0) }
    bus := { s.bus with catchReq := none, port := txn .catchup .write 0x400000C0 16 } }
  withHead s (wr 0x400000C0 2 2) .waitLine (dec .writerWrite (some 2) (some 103) .opened)

/-- Step 1 of the example of 04: the last draft write is answered and region 2 publishes. -/
theorem test_answer_publishes :
    ran (.memoryAnswer (.okay []))
        { withHead s2 (wr 0x40000040 1 2) .waitMemory (dec .writerWrite (some 2) (some 101) .pending) with
          bus := { s2.bus with port := txn (.host (.draftWrite 2) false) .write 0x40004040 1 } }
        (fun t => ((t.run 2).frame, (t.run 2).roles, [t.line 100, t.line 101, t.line 103])) =
      some (7, ⟨.draft, .live, .free⟩,
        [⟨⟨false, false, true⟩, false, false, false⟩, ⟨⟨true, false, true⟩, false, true, false⟩,
          ⟨⟨true, false, true⟩, false, true, false⟩]) := by decide +kernel

/-- Step 4 of the example of 04: the engine takes line 103 for bank A. -/
theorem test_catchup_take :
    ran .catchupTake
        { s2b with
          bus := { s2b.bus with catchReq := none, port := .expired }
          catchup := { s2b.catchup with engine := .idle, queue := [⟨103, .fill⟩, ⟨40, .fill⟩] } }
        (fun t => (t.catchup.engine, t.line 103, t.bus.catchReq)) =
      some (.reading ⟨103, .fill, 2, .bankB, .bankA⟩ false, ⟨⟨true, false, true⟩, false, false, true⟩,
        some ⟨.read, 0x400040C0, 16, 2, []⟩) := by decide +kernel

/-- Step 6 of the example of 04: the copy is answered, the write issued, and the engine goes on. -/
theorem test_answer_releases_write :
    ran (.memoryAnswer (.okay [])) s2c (fun t =>
        (t.line 103, [(t.run 2).dirtyLines, (t.run 2).inFlight], t.progress, t.catchup.queue)) =
      some (⟨⟨false, false, true⟩, true, false, false⟩, [1, 1], some .waitMemory, [⟨101, .fill⟩]) := by
  decide +kernel

/-- R82 and R83: a line that has become current releases the head's write. -/
theorem test_line_current_release :
    ran (.lineCurrentRelease 103) (withLine s2c 103 false false true false false false) (fun t =>
        (t.progress, (t.run 2).inFlight, t.bus.hostReq.isSome)) = some (some .waitMemory, 1, true) := by
  decide +kernel

/-! ### Publications, views and time (02, 03, 06) -/

/-- Step 6 of the example of 02 with A's last view gone: A FREE, B LIVE and viewed, C DRAFT, lines 0 and 2
missed by A. -/
def sRoles : State :=
  let g := reg (conf 0x40000000 4 0) .pending .free .live .draft 1 0 1 0
  let s := withReg State.reset 0 { g with run := { g.run with dirtyLines := 1, heldNotice := true } }
  let s := withLine s 0 false false false true false false
  let s := withLine s 2 true false false false false false
  { s with views := s.views.set 0 (some ⟨9, 0, .bankB, 1, 5, 20, false, false⟩) }

/-- Step 6 of the example of 02. -/
theorem test_publication :
    ran (.publication 0) sRoles (fun t =>
        ((t.run 0).roles, (t.run 0).bankFrames,
          [t.line 0, t.line 1, t.line 2].map fun e => (e.queued || e.busy), t.notices.queue)) =
      some (⟨.draft, .held, .live⟩, ⟨0, 1, 2⟩, [true, false, true],
        [⟨.published, 0, 2, none, 2, 0⟩]) := by decide +kernel

/-- Region 6 of 03 after step 6, with tag 5's view on the HELD bank A and the counts given. -/
def s6 (idle age : Nat) : State :=
  { withReg State.reset 6 (reg (conf 0x40000000 4 0) .opened .held .live .draft 5 4 5 0) with
    views := State.reset.views.set 31 (some ⟨5, 6, .bankA, 4, idle, age, false, false⟩) }

/-- Step 9 of the example of 03 (the last of its ticks), and R105. -/
theorem test_tick :
    ran .tick { s6 1 14 with clock := { (s6 1 14).clock with tickDue := true } } (fun t =>
        ((t.view 31).map fun v => (v.idle, v.age), t.clock.tickDue, t.clock.tickCount)) =
      some (some (0, 13), false, 1) := by decide +kernel

/-- R105: at TICK_DIV the prescaler returns to 0 and brings a tick; a SET_TIMING keeps the tick brought. -/
theorem test_prescaler_wraps :
    ran (.strobeSample (Vector.replicate 4 false))
        { State.reset with clock := { State.reset.clock with prescaler := 99 } }
        (fun t => (t.clock.prescaler, t.clock.tickDue)) = some (0, true) ∧
      ran (.setTiming 1 ⟨50, 1, 1, 1, 0⟩)
          (recv { State.reset with clock := { State.reset.clock with prescaler := 7, tickDue := true } })
          (fun t => (t.clock.prescaler, t.clock.tickDue)) = some (0, true) := by decide +kernel

/-- Step 10 of the example of 03. -/
theorem test_view_expiry :
    ran .viewExpiry (s6 0 13) (fun t =>
        (t.view 31, (t.region 6).counters.expired, (t.run 6).roles, t.notices.queue)) =
      some (none, 1, ⟨.free, .live, .draft⟩, [⟨.viewExpired, 6, 5, some 5, 0, 0⟩]) := by decide +kernel

/-- The strobe example of 06: regions 2, 5, 9 and 11 before the edge of step 2. -/
def sStrobe : State :=
  let c (e : EdgeSelect) (i : Nat) : RegionConfig :=
    { conf (0x10000000 * i) 4 (4 * i) with trigStrobe := some (1, e) }
  let g2 := reg (c .rise 2) .opened .live .draft .free 30 30 0 0
  let s := withReg State.reset 2 { g2 with run := { g2.run with dirtyLines := 3 } }
  let g5 := reg (c .both 5) .pending .live .draft .free 7 7 0 0
  let s := withReg s 5 { g5 with timer := ⟨true, 3⟩, run := { g5.run with inFlight := 1 } }
  let s := withReg s 9 (reg (c .fall 9) .opened .live .draft .free 12 12 0 0)
  let s := withReg s 11 (reg (c .rise 11) .faulted .live .draft .free 4 4 0 0)
  { s with
    clock :=
      { s.clock with
        timing := { s.clock.timing with filters := #v[Filter.f0, Filter.f160, Filter.f0, Filter.f0] } }
    strobes :=
      ⟨Vector.replicate 4 ⟨false, true, 16, false⟩,
        [Vector.replicate 4 true, Vector.replicate 4 true]⟩ }

/-- Step 2 of the example of 06: the 17th high sample in a row makes the edge due. -/
theorem test_strobe_sample :
    ran (.strobeSample (Vector.replicate 4 true)) sStrobe (fun t =>
        (t.strobes.lines.get 1, t.clock.prescaler)) = some (⟨false, true, 17, true⟩, 1) := by
  decide +kernel

/-- Step 1 of the example of 06: a low sample returns the run count to 0. -/
theorem test_strobe_glitch :
    ran (.strobeSample (Vector.replicate 4 true))
        { sStrobe with
          strobes := { sStrobe.strobes with sync := [Vector.replicate 4 false, Vector.replicate 4 true] } }
        (fun t => t.strobes.lines.get 1) = some ⟨false, true, 0, false⟩ := by decide +kernel

/-- Step 2 of the example of 06: the deliveries of the edge. -/
theorem test_strobe_edge :
    ran (.strobeEdge 1)
        { sStrobe with
          strobes := { sStrobe.strobes with lines := Vector.replicate 4 ⟨false, true, 17, true⟩ } }
        (fun t =>
          ([2, 5, 9, 11].map fun r => ((t.region r).counters.triggersStrobe, t.phase r, (t.run r).frame),
            (t.run 5).followOn, (t.strobes.lines.get 1).level)) =
      some ([(1, .opened, 31), (1, .pending, 7), (0, .opened, 12), (0, .faulted, 4)], true, true) := by
  decide +kernel

/-- Step 3 of the example of 06: the period timer fires and its trigger is MERGED. -/
theorem test_period_timer_fire :
    ran (.periodTimerFire 5)
        (withReg sStrobe 5
          { sStrobe.region 5 with
            timer := ⟨true, 0⟩, run := { sStrobe.run 5 with followOn := true } })
        (fun t =>
          ((t.region 5).timer, (t.region 5).counters.triggersPeriod, (t.region 5).counters.merged,
            t.notices.queue)) =
      some (⟨true, 8⟩, 1, 1, [⟨.merged, 5, 7, none, 2, 0⟩]) := by decide +kernel

/-! ### The Park Queue (05) and the memory bus (08, 09) -/

/-- A parked entry with a full strobe set. -/
def ent (r : RegionIx) (word : Nat) (tag : Word) : ParkEntry := ⟨r, word, tag, 0xAABBCCDD, 0xF, false⟩

/-- Regions 4 and 7 of 05, with entries and a slot. -/
def sPark (entries : List ParkEntry) (slot : DrainSlot) : State :=
  let c := { conf 0x40000000 1 0 with commit := some 10, trigWord := true }
  let s := withReg State.reset 4 (reg c .pending .held .live .draft 9 8 9 0)
  let s := withReg s 7 (reg (conf 0x50000000 1 1) .opened .live .draft .free 20 20 0 0)
  { s with
    park := ⟨entries, slot⟩
    views := s.views.set 0 (some ⟨5, 4, .bankB, 9, 5, 20, false, false⟩)
    }

/-- The seven entries of the example of 05. -/
def entries5 : List ParkEntry := [ent 7 0 21, ent 7 1 21, ent 4 3 11, ent 4 4 11, ent 4 5 11, ent 4 6 11,
  ent 4 7 11]

/-- The head of step 2 of the example of 05 in WAIT_PARK, with `timer` left. -/
def sWait (entries : List ParkEntry) (timer : Nat) : State :=
  withHead (sPark entries (.writing ⟨7, 1, 21⟩ false)) (wr 0x40000024 2 2) (.waitPark timer 2)
    { dec .writerWrite (some 4) (some 0) .pending with commit := true }

/-- The end of the example of 05: the wait that reaches 0. -/
theorem test_park_timeout :
    ran .parkTimeout (sWait (entries5 ++ [ent 4 8 11]) 0) (fun t =>
        (t.progress, (t.region 4).counters.parkTimeout, t.notices.queue, t.park.entries.length)) =
      some (some (.respond ⟨.parkTimeout, []⟩), 1, [⟨.parkTimeout, 4, 9, some 2, 2, 0⟩], 8) := by
  decide +kernel

/-- Step 4 of the example of 05: two places are empty and the head is placed; its commit word is a trigger. -/
theorem test_park_space_found :
    ran .parkSpaceFound (sWait (entries5.drop 2 ++ [ent 4 8 11]) 500) (fun t =>
        (t.progress, t.park.entries.map (·.word), (t.run 4).followOn,
          (t.region 4).counters.triggersWord)) =
      some (some (.respond ⟨.okay, []⟩), [3, 4, 5, 6, 7, 8, 9, 10], true, 1) := by decide +kernel

/-- The drain slot's take of step 3 of the example of 05, and R98: an issued write makes its line dirty. -/
theorem test_drain_take :
    ran .drainTake (sPark (entries5.drop 1) .idle) (fun t =>
        (t.park.slot, (t.run 7).inFlight, (t.line 1).dirty, t.bus.port)) =
      some (.writing ⟨7, 1, 21⟩ false, 1, true,
        .inFlight ⟨.drain, ⟨.write, 0x50004004, 1, 2, [⟨0xAABBCCDD, 0xF⟩]⟩⟩ 100) := by decide +kernel

/-- R98: a waiting drain write is issued where its line is current, and waits on where it is stale. -/
theorem test_drain_write_release :
    ran .drainWriteRelease (sPark (entries5.drop 1) (.waiting ⟨7, 1, 21⟩ true)) (fun t => t.park.slot) =
        some (.writing ⟨7, 1, 21⟩ true) ∧
      ran .drainWriteRelease
          (withLine (sPark (entries5.drop 1) (.waiting ⟨7, 1,
            21⟩ true)) 1 false true false false true false)
          (fun t => t.park.slot) =
        some (.waiting ⟨7, 1, 21⟩ true) := by decide +kernel

/-- The start of the example of 09, with the accesses that wait in its step 4 and the port given. -/
def sBus (port : Port) : State :=
  let s := State.reset
  { s with
    clock := { s.clock with timing := { s.clock.timing with share := 1 } }
    bus :=
      { s.bus with
        port := port, share := 1, timeouts := 1
        hostReq := some ⟨⟨.write, 0x100, 1, 4, [⟨0, 0xF⟩]⟩, .pass⟩
        drainReq := some ⟨.write, 0x50004000, 1, 2, [⟨0, 0xF⟩]⟩
        catchReq := some ⟨.write, 0x60004040, 16, 2, []⟩ } }

/-- The requester in flight, the share count and the MEMORY_TIMEOUT counter. -/
def busRow (t : State) : Option Owner × Nat × Word :=
  ((match t.bus.port with
      | .inFlight x _ => some x.owner
      | _ => none),
    t.bus.share, t.bus.timeouts)

/-- Steps 4 to 6 of the example of 09: the grants, with the share count each leaves. -/
theorem test_grant :
    ran .grant (sBus .idle) busRow = some (some .drain, 0, 1) ∧
      ran .grant { sBus .idle with bus := { (sBus .idle).bus with drainReq := none, share := 0 } } busRow =
        some (some (.host .pass false), 1, 1) ∧
      ran .grant { sBus .idle with bus := { (sBus .idle).bus with drainReq := none, hostReq := none } }
          busRow =
        some (some .catchup, 0, 1) := by decide +kernel

/-- Step 4 of the example of 09. -/
theorem test_late_answer_discarded :
    ran .lateAnswerDiscarded (sBus .expired) busRow = some (some .drain, 0, 1) := by decide +kernel

/-- Step 2 of the example of 09: Q1's timer reaches 0. -/
theorem test_memory_timeout :
    ran .memoryTimeout
        (withHead
          { State.reset with
            bus :=
              { State.reset.bus with
                port := .inFlight ⟨.host .pass false, ⟨.read, 0x100, 4, 3, []⟩⟩ 0, share := 1 } }
          (rd 0x100 4 3) .waitMemory (dec .pass none none .disabled))
        (fun t => (t.bus.port, t.bus.timeouts, t.bus.share, t.progress)) =
      some (.expired, 1, 1, some (.respond ⟨.memoryTimeout, []⟩)) := by decide +kernel

/-- Steps 1 and 3 of the example of 08: Q1 is head, and Q2 to Q4 wait behind it. -/
def s8 (p : Progress) : State :=
  let s := { s2b with bus := { s2b.bus with catchReq := none, port := txn .catchup .read 0x60000040 16 } }
  let s := withHead s (rd 0x100 4 3) p (dec .pass none none .disabled)
  { s with
    host :=
      { s.host with
        queue := [rd 0x100 4 3, wr 0x40000040 2 2, rd 0x40000000 4 5, wr 0x200 1 7] } }

/-- Step 2 of the example of 04: the waiting write promotes its line. Step 1 of the example of 05: words 6 and 7 merge
in place and word 8 takes position 8. Step 1 of the example of 08: a fifth request is held off. -/
theorem test_host_request_waits :
    ran (.hostRequestAccepted (wr 0x400000C0 2 2)) s2b (fun t => (t.progress, t.catchup.queue)) =
        some (some .waitLine, [⟨103, .fill⟩, ⟨40, .fill⟩, ⟨101, .fill⟩]) ∧
      ran (.hostRequestAccepted (wr 0x40000018 3 2)) (sPark entries5 (.writing ⟨7, 0, 21⟩ false)) (fun t =>
          (t.park.entries.map fun e => (e.region, e.word, e.data), t.progress)) =
        some ([(7, 0, 0xAABBCCDD), (7, 1, 0xAABBCCDD), (4, 3, 0xAABBCCDD), (4, 4, 0xAABBCCDD),
            (4, 5, 0xAABBCCDD), (4, 6, 0x11223344), (4, 7, 0x11223344), (4, 8, 0x11223344)],
          some (.respond ⟨.okay, []⟩)) ∧
      exec (.hostRequestAccepted (rd 0x300 1 1)) (s8 .waitMemory) = .next (s8 .waitMemory) :=
  ⟨by decide +kernel, by decide +kernel, rfl⟩

/-- Step 3 of the example of 08: Q2 becomes head, promotes line 101 and waits for it. -/
theorem test_host_response_taken :
    ran .hostResponseTaken (s8 (.respond ⟨.okay, [1, 2, 3, 4]⟩)) (fun t =>
        (t.host.queue.length, t.progress, t.catchup.queue)) =
      some (3, some .waitLine, [⟨101, .fill⟩, ⟨40, .fill⟩, ⟨103, .fill⟩]) := by decide +kernel

/-- Step 5 of the example of 08: Q2's write is in flight when HRST_N is asserted. -/
def s8q2 : State :=
  let s := withHead s2b (wr 0x40000040 2 2) .waitMemory (dec .writerWrite (some 2) (some 101) .opened)
  let g := s.region 2
  let s := withReg s 2 { g with run := { g.run with inFlight := 1, dirtyLines := 1 } }
  { s with
    host := { s.host with burstSpan := 6 }
    bus := { s.bus with port := txn (.host (.draftWrite 2) false) .write 0x40000040 2 } }

/-- Steps 5 and 6 of the example of 08: the reset, and the answer that comes after it. -/
theorem test_host_port_reset :
    ran .hostPortReset s8q2 (fun t => (t.host, t.bus.port, (t.run 2).inFlight)) =
        some (⟨[], none, true, 6⟩, txn (.host (.draftWrite 2) true) .write 0x40000040 2, 1) ∧
      ran (.memoryAnswer (.okay []))
          { s8q2 with
            host := ⟨[], none, true, 6⟩
            bus := { s8q2.bus with port := txn (.host (.draftWrite 2) true) .write 0x40000040 2 } }
          (fun t => (t.host, (t.run 2).inFlight, (t.run 2).dirtyLines)) =
        some (⟨[], none, true, 6⟩, 0, 1) := by decide +kernel

/-- Step 7 of the example of 08. -/
theorem test_host_port_reset_release :
    ran .hostPortResetRelease { State.reset with host := ⟨[], none, true, 6⟩ } (·.host) =
      some ⟨[], none, false, 6⟩ := by decide +kernel

/-! ### The lifecycle (07) and power-on -/

/-- Region 8 of 07 before its RETIRE_REGION. -/
def s7 : State :=
  let c := { conf 0x40000000 4 200 with noticeMask := 0x0300 }
  let g := reg c .pending .draft .held .live 12 0 11 12
  let s := withReg State.reset 8 { g with run := { g.run with dirtyLines := 1 } }
  let s := withLine s 200 false true false false false false
  let s := withLine s 201 true true false false false true
  let s := withLine s 202 false false false true false false
  let s := withLine s 203 true true false false true false
  { s with
    views := s.views.set 4 (some ⟨5, 8, .bankB, 11, 5, 20, false, false⟩)
    park := ⟨[ent 8 0 14], .idle⟩
    catchup := { s.catchup with queue := [⟨203, .fill⟩], engine := .reading ⟨201, .fill, 8, .bankC, .bankA⟩ false }
    bus := { s.bus with port := txn .catchup .read 0x40008040 16 } }

/-- Step 1 of the example of 07. -/
theorem test_retire_region :
    ran (.retireRegion 1 8) (recv s7) (fun t =>
        ((t.phase 8, (t.region 8).life.stage), (t.run 8).roles,
          [t.line 202, t.line 203].map (·.stale), t.catchup.queue)) =
      some ((.retiring, .winding), ⟨.draft, .free, .live⟩, [⟨true, false, false⟩, ⟨true, true, false⟩],
        []) := by decide +kernel

/-- The notice and the view of step 1 of the example of 07. -/
theorem test_retire_region_discards :
    ran (.retireRegion 1 8) (recv s7) (fun t => (t.view 4, t.park.entries, t.notices.queue)) =
      some (none, [], [⟨.parkDiscarded, 8, 12, none, 1, 0⟩]) := by decide +kernel

/-- Step 2 of the example of 07: no line is busy, and the fold-back is queued. -/
theorem test_fold_back_queued :
    ran (.foldBackQueued 8)
        (let g := s7.region 8
        let s := withReg s7 8
          { g with
            run := { g.run with phase := .retiring, roles := ⟨.draft, .free, .live⟩ }
            life := { g.life with stage := .winding } }
        let s := withLine s 201 true true false false false false
        let s := withLine s 202 true false false true false false
        let s := withLine s 203 true true false false false false
        { s with catchup := { s.catchup with queue := [], engine := .idle } })
        (fun t =>
          ((t.region 8).life, t.catchup.queue, t.catchup.engine, [t.line 200, t.line 201].map (·.busy))) =
      some (⟨.none, 0, .folding, 3, 0, 0⟩, [⟨202, .fold⟩, ⟨203, .fold⟩],
        .reading ⟨201, .fold, 8, .bankC, .bankA⟩ false, [false, true]) := by decide +kernel

/-- Step 5 of the example of 07. -/
theorem test_retirement_end :
    ran (.retirementEnd 8)
        (let g := s7.region 8
        withReg s7 8
          { g with
            run := { g.run with phase := .retiring, roles := ⟨.draft, .free, .live⟩ }
            life := ⟨.none, 0, .folding, 0, 2, 1⟩ })
        (fun t =>
          ((t.phase 8, (t.run 8).frame), t.line 203, t.notices.queue, (t.region 8).life)) =
      some ((.disabled, 12), LineEntry.clear, [⟨.retired, 8, 12, none, 257, 0⟩],
        ⟨.none, 0, .none, 0, 2, 1⟩) := by decide +kernel

/-- R41, R64 and R123: region 3 of 01 is enabled. -/
theorem test_enable_region :
    ran (.enableRegion 0x21 3)
        (recv (withReg State.reset 3 { Region.powerOn with config := conf3, written := true }))
        (fun t =>
          ((t.run 3).roles, t.catchup.queue.length, t.catchup.engine, (t.line 47).stale)) =
      some (⟨.live, .draft, .free⟩, 7, .reading ⟨40, .fill, 3, .bankA, .bankB⟩ false,
        ⟨false, true, true⟩) := by decide +kernel

/-- The state of step 1 of the example of 11: an enable waits for a PASS write into its window. -/
def sEnable : State :=
  let s := withReg State.reset 3 { Region.powerOn with config := conf3, written := true }
  let s := withHead s (wr 0x20004000 1 4) .waitMemory (dec .pass none none .disabled)
  { s with bus := { s.bus with port := txn (.host .pass false) .write 0x20004000 1 } }

/-- Step 1 of the example of 11. -/
theorem test_enable_region_waits :
    ran (.enableRegion 0x21 3) (recv sEnable) (fun t => (t.phase 3, t.link.state, t.link.waiting)) =
      some (.disabled, .executing, some (.enable 3 0x21 false)) := by decide +kernel

/-- Step 4 of the example of 11: the write has been answered. -/
theorem test_enable_applied :
    ran .enableApplied
        { sEnable with
          host := ⟨[], none, false, 0⟩
          bus := { sEnable.bus with port := .idle }
          link := { sEnable.link with state := .executing, waiting := some (.enable 3 0x21 false) } }
        (fun t => (t.phase 3, t.link.state, t.link.slot)) =
      some (.opened, .ready, some ⟨true, 0x21, 0, []⟩) := by decide +kernel

/-- R133: what a restart keeps and what it clears, and R150 for the head that waits for a line. -/
theorem test_restart_applied :
    ran .restartApplied
        { s2c with
          bus := { s2c.bus with port := .idle }
          link := { s2c.link with state := .executing, waiting := some (.restart 9) } }
        (fun t =>
          ((t.phase 2, (t.run 2).frame), t.line 103, t.progress, t.link.slot)) =
      some ((.disabled, 7), LineEntry.clear, some (.respond ⟨.waitAborted, []⟩), some ⟨true, 9, 0,
        []⟩) := by decide +kernel

/-- R132: a restart waits for the transaction in flight. -/
theorem test_restart_waits :
    ran (.restart 9) (recv s2c) (fun t => (t.phase 2, t.link.state, t.link.slot)) =
      some (.opened, .executing, none) := by decide +kernel

/-- R3, R21, R104 and R135. -/
theorem test_power_on :
    ran .powerOn { s2c with pending := [.tick] } (fun t =>
        ((t.phase 2, (t.region 2).written), t.line 103, t.clock.timing.holdWait, t.pending)) =
      some ((.disabled, false), LineEntry.clear, 1000, [.tick]) := by decide +kernel

/-! ### The management link (10, 11) -/

/-- Steps 5 and 6 of the example of 11: the bytes of the response, and the dropped count. -/
theorem test_fetch :
    ran (.fetch 7)
        { State.reset with link := ⟨.ready, some ⟨true, 0x21, 0, []⟩, 1, false, none, .released, []⟩ }
        (fun t => (t.link.fetched, t.link.mdo, t.link.dropped, t.link.state)) =
      some ([0x5A, 0x00, 0x21, 0x00, 0x01, 0x00, crc8 [0x00, 0x21, 0x00, 0x01, 0x00]], .released, 0,
        .ready) := by decide +kernel

/-- Step 3 of the example of 11: the PUBLISH frame is dropped and counted. -/
theorem test_command_dropped :
    ran .commandDropped { State.reset with link := ⟨.executing, none, 0, true, none, .zeros, []⟩ } (fun t =>
        (t.link.dropped, t.link.discarding, t.link.state, t.link.mdo)) =
      some (1, false, .executing, .released) := by decide +kernel

theorem test_command_frame_first_byte :
    ran .commandFrameFirstByte State.reset (fun t => (t.link.state, t.link.mdo)) =
      some (.receiving, .zeros) := by decide +kernel

/-- R179: MDO carries zeros while a command frame is under way, and is released at its end. -/
theorem test_frame_end_releases_mdo :
    let s := recv State.reset
    ran (.ident 5) { s with link := { s.link with mdo := .zeros } } (fun t => (t.link.state, t.link.mdo)) =
      some (.ready, .released) := by decide +kernel

/-- R179: a frame of no byte is ignored; one whose first byte is 0xF0 is a FETCH frame. -/
theorem test_frame_of_no_byte :
    exec (.commandFrameRejected []) (recv State.reset) = .next (recv State.reset) ∧
      ran (.commandFrameRejected [0xF0, 0, 0]) State.reset (·.link.fetched) = some [0, 0] :=
  ⟨rfl, by decide +kernel⟩

/-- R185: a wrong CRC is answered BAD_CHECK with the computed value; the CRC is that of R180's example. -/
theorem test_command_frame_rejected :
    ran (.commandFrameRejected [0x01, 0x05, 0x00, 0x2B]) (recv State.reset) (·.link.slot) =
      some (some ⟨false, 0x05, 2, [0x2A]⟩) := by decide +kernel

/-- R187 and R104: the first bytes, and the settings after power-on. -/
theorem test_ident :
    ran (.ident 5) (recv State.reset) (fun t =>
        t.link.slot.map fun x => (x.payload.take 3, (x.payload.drop 12).take 8, x.payload.length)) =
      some (some ([0x03, 0x16, 0x01], [0x00, 100, 0x03, 0xE8, 0x00, 100, 4, 0], 32)) := by decide +kernel

/-- R188: the filters byte, and a TICK_DIV out of range. -/
theorem test_set_timing :
    ran (.setTiming 1 ⟨4096, 1, 1, 15, 0xE4⟩) (recv State.reset) (fun t => t.clock.timing) =
        some ⟨4096, 1, 1, 15, #v[.f0, .f40, .f160, .f640]⟩ ∧
      ran (.setTiming 1 ⟨4097, 1, 1, 15, 0xE4⟩) (recv State.reset) (·.link.slot) =
        some (some ⟨false, 1, 4, [1]⟩) := by decide +kernel

/-- Region 3 of 01 as a region record: default CLOSE_OFFSET, WORD selected. -/
def rec3 : RegionRecord where
  windowBase := 0x20004000
  lines := 8
  bankBBase := 0x20100000
  bankCBase := 0x20100200
  lineBase := 40
  writerTag := 2
  readerMask := 0x0220
  commitOffset := 0x8000
  closeOffset := 0x8000
  stampOffset := 0x8001
  triggers := 0x01
  periodTicks := 1
  viewIdle := 5
  viewAge := 20
  noticeMask := 0x0040

/-- R1, R2 and R189: the entry of the example of 01 is stored; two areas that share a byte fail check 17. -/
theorem test_write_region :
    ran (.writeRegion 1 3 rec3) (recv State.reset) (fun t => (t.config 3, (t.region 3).written)) =
        some (conf3, true) ∧
      ran (.writeRegion 1 3 { rec3 with bankCBase := 0x201001C0 }) (recv State.reset) (·.link.slot) =
        some (some ⟨false, 1, 4, [17]⟩) := by decide +kernel

/-- R2 and R197: the default CLOSE_OFFSET reads back as 127, which is 0x007F. -/
theorem test_read_region_config :
    ran (.readRegionConfig 1 3) (recv s3) (fun t =>
        t.link.slot.map fun x => (x.payload.take 7, (x.payload.drop 20).take 7, x.payload.length)) =
      some (some ([1, 0x20, 0x00, 0x40, 0x00, 0x00, 8], [0x80, 0x00, 0x00, 0x7F, 0x80, 0x01, 0x01],
        37)) := by
  decide +kernel

/-- R197 on region 8 of 07: PENDING, FILL alone, since B is HELD but C has no view. -/
theorem test_read_region_state :
    ran (.readRegionState 1 8) (recv s7) (fun t =>
        t.link.slot.map fun x => (x.payload.take 10, (x.payload.drop 22).take 6, x.payload.length)) =
      some (some ([2, 1, 2, 4, 1, 0, 0, 0, 0, 12], [0, 0, 1, 0, 2, 1], 37)) := by decide +kernel

/-- R30 and R117: in PENDING a PUBLISH sets the follow-on flag. -/
theorem test_publish :
    ran (.publish 1 8) (recv s7) (fun t => ((t.run 8).followOn, (t.region 8).counters.triggersManual)) =
        some (true, 1) ∧
      ran (.publish 1 9) (recv s7) (·.link.slot) = some (some ⟨false, 1, 5, [0]⟩) := by decide +kernel

/-- R58: the one view of region 3 of 01 is dropped, and its HELD bank becomes FREE. -/
theorem test_drop_views :
    ran (.dropViews 1 3) (recv s3) (fun t => (t.link.slot, (t.run 3).roles, t.view 0)) =
      some (some ⟨true, 1, 0, [1]⟩, ⟨.draft, .free, .live⟩, none) := by decide +kernel

/-- R199 on the view of the example of 03, in slot 31: one record, since there is no slot past it. -/
theorem test_read_views :
    ran (.readViews 1 31) (recv (s6 3 18)) (·.link.slot) =
      some (some ⟨true, 1, 0, [0x9F, 0x56, 0, 0, 0, 0, 4, 0, 3, 0, 0, 18]⟩) := by decide +kernel

/-- Step 5 of the example of 10. -/
theorem test_read_notices :
    ran (.readNotices 1) (recv (withNotices State.reset 64 true)) (fun t =>
        (t.link.slot.map fun x => x.payload.take 3, t.notices.queue.length, t.notices.lost,
          t.notices.irqAsserted)) =
      some (some [1, 4, 60], 60, false, true) := by decide +kernel

/-- The end of the example of 10, with region 1's counters as it has them. -/
theorem test_read_counters_first :
    ran (.readCountersFirst 1 1 1)
        (recv (withReg State.reset 1
          { Region.powerOn with
            counters :=
              { Counters.zero with refused := 2, expired := 1, triggersWord := 6, refusedFlag := true } }))
        (fun t =>
          (t.link.slot.map fun x => (x.payload.take 13, x.payload.length), (t.region 1).counters,
            t.notices.snapshot.valid)) =
      some (some ([1, 0, 0, 0, 2, 0, 0, 0, 0, 0, 0, 0, 1], 37), Counters.zero, true) := by decide +kernel

/-- R177 and R195: the trigger counters of the snapshot; a REST for another region. -/
theorem test_read_counters_rest :
    [1, 2].map (fun r : Byte =>
        ran (.readCountersRest 1 r 0)
          (recv { State.reset with
            notices :=
              { State.reset.notices with snapshot := ⟨true, 1, { Counters.zero with triggersStrobe :=
                6 }⟩ } })
          (·.link.slot)) =
      [some (some ⟨true, 1, 0, [0, 0, 0, 0, 0, 0, 0, 6, 0, 0, 0, 0, 0, 0, 0, 0]⟩),
        some (some ⟨false, 1, 4, [1]⟩)] := by decide +kernel

/-- R172 and R194. -/
theorem test_set_irq :
    [0, 1, 2].map (fun v : Byte =>
        ran (.setIrq 1 v) (recv (withNotices State.reset 1 false)) (fun t =>
          (t.notices.irqEnabled, t.notices.irqAsserted, t.link.slot))) =
      [some (false, false, some ⟨true, 1, 0, []⟩), some (true, true, some ⟨true, 1, 0, []⟩),
        some (true, true, some ⟨false, 1, 4, [0xFF]⟩)] := by decide +kernel

/-! ### Witnesses: states and operands that meet the hypotheses of each statement -/

theorem of_ran {α : Type} {c : Instr} {s : State} {read : State → α} {v : α} (h : ran c s read = some v) :
    ∃ t, exec c s = .next t ∧ read t = v := by
  unfold ran at h
  split at h
  · exact ⟨_, ‹_›, by simpa using h⟩
  · cases h

/-- A computed form of `AreasSound`. -/
def areasOk (c : RegionConfig) : Bool :=
  (banks.all fun b => (c.bankBase b).toNat % 64 == 0 && decide ((c.bankBase b).toNat + c.size ≤ 2 ^ 32)) &&
    (banks.all fun b => banks.all fun e => b == e || !bankOverlap c c b e) &&
    decide (c.lineBase + c.lines ≤ 2048)

theorem areasSound_of {c : RegionConfig} (h : areasOk c = true) : c.AreasSound := by
  simp only [areasOk, banks, List.all_cons, List.all_nil, Bool.and_true, Bool.and_eq_true,
    decide_eq_true_eq, beq_iff_eq] at h
  obtain ⟨⟨⟨h1, h2, h3⟩, h4⟩, h5⟩ := h
  refine ⟨fun b => by cases b <;> assumption, fun b e hbe => ?_, h5⟩
  cases b <;> cases e <;> simp_all

theorem areasLaw_of {s : State} (h : ∀ r : RegionIx,
  (s.phase r).active = true → areasOk (s.config r) = true)
    (h2 : ∀ r j : RegionIx, r ≠ j → (s.phase r).active = true → (s.phase j).active = true →
      configsOverlap (s.config r) (s.config j) = false) : s.AreasLaw :=
  ⟨fun r hr => areasSound_of (h r hr), h2⟩

theorem entriesLaw_of {s : State} (h : ∀ r : RegionIx,
  (s.region r).written = true → areasOk (s.config r) = true)
    (h2 : ∀ r : RegionIx, (s.phase r).active = true → (s.region r).written = true)
    (h3 : ∀ (r : RegionIx) (seq : Byte) (o : Bool), s.link.waiting = some (.enable r seq o) →
      (s.region r).written = true ∧ s.conflict r = none) : s.EntriesLaw :=
  ⟨fun r hr => areasSound_of (h r hr), h2, h3⟩

theorem drainSettled_idle {s : State} (h : s.park.slot = .idle)
    (h2 : ∀ e ∈ s.park.entries, s.eligible e = false) : s.DrainSettled :=
  ⟨fun _ => h2, fun _ _ hk => nomatch h.symm.trans hk⟩

theorem drainSettled_writing {s : State} {k : ParkKey} {q : Bool} (h : s.park.slot = .writing k q) :
    s.DrainSettled :=
  ⟨fun hi => (nomatch h.symm.trans hi), fun _ _ hk => (nomatch h.symm.trans hk)⟩

theorem not_headWaits {s : State} (h : s.progress ≠ some .waitLine)
    (h2 : ∀ timer k, s.progress ≠ some (.waitPark timer k)) {d : Option Decision} : ¬s.HeadWaits d := by
  rintro (hd | ⟨timer, k, hd⟩)
  · exact h (by simp [State.progress, hd])
  · exact h2 timer k (by simp [State.progress, hd])

theorem noViewWaits_of {s : State} {p : Progress} {d : Decision} (h : s.host.head = some ⟨p, some d⟩)
    (hv : d.view = none) : s.NoViewWaits := by
  rintro d' (hd | ⟨_, _, hd⟩) <;>
    · rw [h] at hd
      cases hd
      exact hv

theorem noViewWaits_noHead {s : State} (h : s.host.head = none) : s.NoViewWaits := by
  rintro d (hd | ⟨_, _, hd⟩) <;>
    · rw [h] at hd
      cases hd

/-- What waits is in order where no head waits and no drain write does. -/
theorem waitsLaw_of {s : State} (hl : s.link.waiting = none ∨ s.link.state = .executing)
    (h : s.progress ≠ some .waitLine) (h2 : ∀ timer k, s.progress ≠ some (.waitPark timer k))
    (he : ∀ e ∈ s.park.entries,
      (s.phase e.region = .opened ∨ s.phase e.region = .pending) ∧ s.EntryInRange e)
    (hs : ∀ k retried, s.park.slot ≠ .waiting k retried) : s.WaitsLaw :=
  ⟨fun hw => hl.resolve_left hw, fun _ hd => absurd hd (not_headWaits h h2), he,
    fun k retried hk => absurd hk (hs k retried)⟩

/-- A View Table that holds one view. -/
theorem view_one {s : State} {k : Slot} {v : View} (h : s.views = State.reset.views.set k.val (some v) k.isLt)
    {j : Slot} {w : View} (hw : s.view j = some w) : j = k ∧ w = v := by
  have hn : ∀ i : Slot, State.reset.views.get i = none := by decide +kernel
  rw [State.view, h, Vector.get_eq_getElem, Vector.getElem_set] at hw
  split at hw
  · exact ⟨Fin.ext (by omega), by simpa using hw.symm⟩
  · have := hn j
    rw [Vector.get_eq_getElem] at this
    rw [this] at hw
    cases hw

/-- An empty View Table. -/
theorem view_none {s : State} (h : s.views = State.reset.views) {j : Slot} : s.view j = none := by
  have hn : ∀ i : Slot, State.reset.views.get i = none := by decide +kernel
  rw [State.view, h]
  exact hn j

theorem not_viewOn {s : State} {r : RegionIx} {b : Bank}
    (h : ∀ k : Slot, ((s.view k).any fun v => v.region == r && v.bank == b) = false) : ¬s.ViewOn r b := by
  rintro ⟨k, v, hv, hr, hb⟩
  have := h k
  simp [hv, hr, hb] at this

/-- A request that touches a word is one whose beats the model finds there. -/
theorem hits_of {c : RegionConfig} {q : HostRequest} {w : Nat}
    (h : c.firstWord q ≤ w ∧ w < c.firstWord q + q.beats) : c.hits q (some w) := ⟨w, rfl, h⟩

theorem not_hits_of {c : RegionConfig} {q : HostRequest} {w : Nat}
    (h : w < c.firstWord q ∨ c.firstWord q + q.beats ≤ w) : ¬c.hits q (some w) := by
  rintro ⟨_, hw, h1, h2⟩
  cases hw
  omega

theorem not_hits_none {c : RegionConfig} {q : HostRequest} : ¬c.hits q none := nofun

/-- Region 3 of 01 with commands waiting. -/
def s3q : State := { s3 with pending := [.hostRequestAccepted (wr 0x20004080 4 2), .tick] }

theorem rolesLaw_s3q : s3q.RolesLaw := by
  simp only [State.RolesLaw, Runtime.Sound, Runtime.RolesSound]
  decide +kernel

theorem areasLaw_s3 : s3.AreasLaw := areasLaw_of (by decide +kernel) (by decide +kernel)

theorem drainSettled_s3 : s3.DrainSettled := drainSettled_idle rfl nofun

theorem witness_QueueUntouched : ∃ t, exec .tick s3q = .next t := ⟨_, rfl⟩

theorem witness_NoticeLawsKept :
    let s := { withNotices (recv State.reset) 64 true with pending := [.readNotices 1] }
    s.notices.Sound ∧ ∃ t, step s = .next t :=
  ⟨by simp only [NoticeUnit.Sound]; decide +kernel, _, rfl⟩

theorem witness_RolesLawKept : s3q.RolesLaw ∧ ∃ t, step s3q = .next t :=
  ⟨rolesLaw_s3q, _, rfl⟩

theorem witness_ViewsLawKept :
    s3q.RolesLaw ∧ s3q.LifecycleLaw ∧ s3q.ViewsLaw ∧ ∃ t, step s3q = .next t := by
  refine ⟨rolesLaw_s3q, ⟨by decide +kernel, nofun⟩, ⟨?_, ?_, ?_⟩, witness_RolesLawKept.2⟩
  · intro k v hv
    obtain ⟨rfl, rfl⟩ := view_one (s := s3q) (k := 0) rfl hv
    refine ⟨Or.inl (by decide +kernel), Or.inr (by decide +kernel), by decide +kernel⟩
  · intro k j v w hv hw _ _
    rw [(view_one (s := s3q) (k := 0) rfl hv).1, (view_one (s := s3q) (k := 0) rfl hw).1]
  · intro r b h
    have hb : ∀ r : RegionIx,
      banks.all (fun b => !((s3q.run r).roles.get b == .held) || (r == 3 && b == .bankB)) := by
      decide +kernel
    have := hb r
    refine ⟨0, _, rfl, ?_⟩
    cases b <;> simp_all [banks]

/-- The head of step 2 of 05 waits, and its timer stands at 0. -/
theorem witness_QueueLawsKept :
    let s := { sWait (entries5 ++ [ent 4 8 11]) 0 with pending := [.parkTimeout] }
    s.host.Sound ∧ s.park.Sound ∧ (∃ t, step s = .next t) ∧ s.AreasLaw ∧ s.EntriesLaw ∧
      s.LifecycleLaw ∧ s.WaitsLaw ∧ s.HeadWaits s.decision := by
  refine ⟨by simp only [HostPort.Sound]; decide +kernel, by simp only [ParkQueue.Sound]; decide +kernel,
    ⟨_, rfl⟩, areasLaw_of (by decide +kernel) (by decide +kernel),
    entriesLaw_of (by decide +kernel) (by decide +kernel) nofun, ⟨by decide +kernel, nofun⟩,
    ⟨fun h => absurd rfl h, ?_, ?_, nofun⟩, Or.inr ⟨_, _, rfl⟩⟩
  · rintro d (hd | ⟨_, _, hd⟩)
    · cases hd
    · refine ⟨wr 0x40000024 2 2, [], _, 4, rfl, (congrArg (·.bind Head.decision) hd).symm, rfl, rfl, rfl,
        Or.inr (by decide +kernel), ⟨by decide +kernel, by decide +kernel, by decide +kernel⟩,
        by unfold inLine; decide⟩
  · simp only [State.EntryInRange]
    decide +kernel

/-- A frame of IDENT has been received and its command waits in the queue. -/
theorem witness_QueueLawsKeptLink :
    let s : State :=
      { State.reset with
        link := { State.reset.link with state := .receiving, mdo := .zeros }
        pending := [.ident 5] }
    s.link.Sound ∧ ∃ t, step s = .next t ∧ t.link.mdo = .released :=
  ⟨by simp only [Link.Sound]; decide, _, rfl, rfl⟩

theorem witness_AreasLawKept : s3q.AreasLaw ∧ s3q.EntriesLaw ∧ ∃ t, step s3q = .next t :=
  ⟨areasLaw_of (by decide +kernel) (by decide +kernel),
    entriesLaw_of (by decide +kernel) (by decide +kernel) nofun, witness_RolesLawKept.2⟩

theorem witness_PortHeldUntilLateAnswer :
    (sBus .expired).bus.port = .expired ∧ (∃ t, exec .grant (sBus .expired) = .next t) ∧
      State.reset.bus.port ≠ .expired :=
  ⟨rfl, ⟨_, rfl⟩, by decide⟩

theorem witness_ConfigurationFixed :
    (∃ t, exec (.writeRegion 1 3 rec3) (recv State.reset) = .next t) ∧
      Instr.writeRegion 1 3 rec3 ≠ .powerOn ∧ ∃ t, exec .tick s3 = .next t :=
  ⟨⟨_, rfl⟩, nofun, _, rfl⟩

/-- The writer's write and a reader's read through the view on bank B. -/
theorem witness_WriterIsolation :
    s3.AreasLaw ∧ s3.bus.hostReq = none ∧ s3.bus.port.holdsHead = false ∧ (s3.phase 3).active = true ∧
      ∀ q ∈ [wr 0x20004080 4 2, rd 0x20004000 2 5],
        HeadArrives (.hostRequestAccepted q) s3 q [] ∧
          ∃ t a, exec (.hostRequestAccepted q) s3 = .next t ∧
            (∃ p timer, t.bus.port = .inFlight ⟨.host p false, a⟩ timer) ∧ 1 < a.beats := by
  refine ⟨areasLaw_s3, rfl, rfl, by decide +kernel, ?_⟩
  intro q hq
  simp only [List.mem_cons, List.not_mem_nil, or_false] at hq
  obtain rfl | rfl := hq
  · refine ⟨Or.inl ⟨rfl, by decide, rfl, rfl, rfl⟩, ?_⟩
    obtain ⟨t, ht, hp⟩ := of_ran (c := .hostRequestAccepted (wr 0x20004080 4 2)) (s := s3)
      (read := fun t => t.bus.port)
      (v := .inFlight ⟨.host (.draftWrite 3) false, ⟨.write, 0x20004080, 4, 2, (wr 0 4 2).data⟩⟩ 100)
      (by decide +kernel)
    exact ⟨t, _, ht, ⟨_, _, hp⟩, by decide⟩
  · refine ⟨Or.inl ⟨rfl, by decide, rfl, rfl, rfl⟩, ?_⟩
    obtain ⟨t, ht, hp⟩ := of_ran (c := .hostRequestAccepted (rd 0x20004000 2 5)) (s := s3)
      (read := fun t => t.bus.port)
      (v := .inFlight ⟨.host .read false, ⟨.read, 0x20100000, 2, 5, []⟩⟩ 100) (by decide +kernel)
    exact ⟨t, _, ht, ⟨_, _, hp⟩, by decide⟩

theorem witness_CrcIsRemainder : encodeFrame (.ident 5) = some [0x01, 0x05, 0x00, 0x2A] := by decide +kernel

theorem witness_FrameRoundTrip :
    (encodeFrame (.readCountersRest 0xFF 15 0x7F)).isSome ∧
      (encodeFrame (.writeRegion 0 3 rec3)).isSome := by
  decide +kernel

/-- A frame with the bytes given and its right CRC. -/
def framed (l : List Byte) : List Byte := l ++ [crc8 l]

/-- A frame of 3 bytes, one of a length byte of 49, one byte short, a wrong CRC, an unassigned code, a payload
one byte short of its command's, and a READ_REGION part of 2. -/
theorem witness_FrameRejected :
    (recv State.reset).Receiving ∧ commandFrameWf [1, 2, 0] = true ∧
      (framed ([1, 5, 49] ++ List.replicate 49 0)).length = 4 + 49 ∧
        [1, 5, 1, (0x2A : Byte)].length ≠ 4 + 1 ∧
      (0x2B : Byte) ≠ crc8 [0x01, 0x05, 0x00] ∧
        (∀ c : CommandCode, c.byte ≠ byteAt (framed [0x0E, 5, 0]) 0) ∧
      byteAt (framed [0x05, 5, 0]) 3 = crc8 ((framed [0x05, 5, 0]).take 3) ∧
      CommandCode.enableRegion.byte = 0x05 ∧ CommandCode.enableRegion.payloadLength ≠ 0 ∧
      2 ≤ (byteAt (framed [0x04, 5, 2, 3, 2]) 4).toNat ∧ (framed [0x04, 5, 2, 3, 2]).length = 4 + 2 := by
  refine ⟨⟨rfl, rfl⟩, ?_⟩
  refine ⟨by decide, by decide +kernel, by decide, by decide +kernel, fun c => by cases c <;> decide, ?_⟩
  decide +kernel

theorem witness_FramesTakenAndDropped :
    (State.reset.link.discarding = false ∧ State.reset.link.state = .idle) ∧
      (∃ l : Link, l.state = .ready ∧ l.discarding = false) ∧
      (∃ l : Link, l.state = .executing ∧ l.discarding = false) ∧
      ∃ l : Link, l.discarding = true ∧ l.dropped = 255 :=
  ⟨⟨rfl, rfl⟩, ⟨⟨.ready, none, 0, false, none, .released, []⟩, rfl, rfl⟩,
    ⟨⟨.executing, none, 0, false, none, .released, []⟩, rfl, rfl⟩,
    ⟨.executing, none, 255, true, none, .zeros, []⟩, rfl, rfl⟩

theorem witness_FetchResponse :
    (∃ (s : State) (x : LinkResponse), s.link.discarding = false ∧ s.link.state = .ready ∧
        s.link.slot = some x ∧ s.link.dropped = 255) ∧
      (State.reset.link.discarding = false ∧ State.reset.link.state = .idle) ∧
      ∃ s : State, s.link.discarding = false ∧ s.link.state = .executing :=
  ⟨⟨{ State.reset with link := ⟨.ready, some ⟨true, 1, 0, []⟩, 255, false, none, .released, []⟩ }, _, rfl, rfl, rfl,
    rfl⟩,
    ⟨rfl, rfl⟩, { State.reset with link := ⟨.executing, none, 0, false, none, .released, []⟩ }, rfl, rfl⟩

theorem witness_NakLeavesBlocks :
    (Instr.setIrq 1 2).linkParts.isSome = true ∧ (recv State.reset).Receiving ∧
      (recv State.reset).link.waiting = none ∧ (recv State.reset).grantable = false ∧
      ∃ t, exec (.setIrq 1 2) (recv State.reset) = .next t ∧ t.link.state = .ready ∧
        t.link.slot = some ⟨false, 1, 4, [0xFF]⟩ :=
  ⟨rfl, ⟨rfl, rfl⟩, rfl, by decide +kernel, _, rfl, rfl, rfl⟩

theorem witness_IdentReports : (recv State.reset).Receiving := ⟨rfl, rfl⟩

/-- The first value outside each range, and the last inside. -/
theorem witness_TimingStored :
    (recv State.reset).Receiving ∧ ¬1 ≤ (0#16).toNat ∧ ¬(4097#16).toNat ≤ 4096 ∧
      (1 ≤ (4096#16).toNat ∧ (4096#16).toNat ≤ 4096) ∧ 1 ≤ (65535#16).toNat ∧ ¬1 ≤ (0#8).toNat ∧
      ¬(16#8).toNat ≤ 15 ∧ 1 ≤ (15#8).toNat ∧ (15#8).toNat ≤ 15 :=
  ⟨⟨rfl, rfl⟩, by decide⟩

theorem witness_InterruptSet : (recv s3).Receiving ∧ (2 : Byte) ≠ 0x00 ∧ (2 : Byte) ≠ 0x01 :=
  ⟨⟨rfl, rfl⟩, by decide, by decide⟩

theorem witness_NoticesTaken :
    let s := recv (withNotices State.reset 5 true)
    s.Receiving ∧ 3 < min s.notices.queue.length 4 ∧ ∃ x, s.notices.queue[3]? = some x :=
  ⟨⟨rfl, rfl⟩, by decide +kernel, _, rfl⟩

/-- Start slots 31 and 32; in slot 31 a view, and in slot 30 none. -/
theorem witness_ViewsListed :
    (recv (s6 5 20)).Receiving ∧ 32 ≤ (32#8).toNat ∧ (31#8).toNat < 32 ∧ 0 < min 4 (32 - (31#8).toNat) ∧
      (31 : Slot).val = (31#8).toNat + 0 ∧ (∃ v, (recv (s6 5 20)).view 31 = some v) ∧
      (recv (s6 5 20)).view 30 = none :=
  ⟨⟨rfl, rfl⟩, by decide, by decide, by decide, by decide, ⟨_, rfl⟩, by decide +kernel⟩

theorem accepted_rec3 : accepted rec3 := by
  intro n
  unfold meets
  split <;> simp [rec3, offsetMeets, apart]

theorem stores_rec3 : stores rec3 = conf3 := by decide +kernel

/-- A record with LINES 0 or 257 fails check 2; one whose last areas share a byte fails 17 alone. -/
theorem witness_RegionWritten :
    (recv s3).Receiving ∧ 16 ≤ (16#8).toNat ∧ (3#8).toNat = (3 : RegionIx).val ∧ s3.phase 3 ≠ .disabled ∧
      State.reset.phase 3 = .disabled ∧ ¬meets { rec3 with lines := 0 } 2 ∧
      ¬meets { rec3 with lines := 257 } 2 ∧ accepted rec3 ∧
      ¬meets { rec3 with bankCBase := 0x201001C0 } 17 ∧
      ∀ e : Nat, 2 ≤ e → e < 17 → meets { rec3 with bankCBase := 0x201001C0 } e := by
  refine ⟨⟨rfl, rfl⟩, by decide, by decide, by decide +kernel, by decide +kernel, by simp [meets],
    by simp [meets], accepted_rec3, by simp [meets, apart, rec3], ?_⟩
  intro e _ h
  unfold meets
  split <;> first | omega | simp [rec3, offsetMeets]

theorem witness_ConfigurationReadBack :
    (recv s3).Receiving ∧ 16 ≤ (16#8).toNat ∧ (3#8).toNat = (3 : RegionIx).val ∧ accepted rec3 ∧
      ((recv s3).region 3).written = true ∧ (recv s3).config 3 = stores rec3 :=
  ⟨⟨rfl, rfl⟩, by decide, by decide, accepted_rec3, by decide +kernel, by
    rw [stores_rec3]
    decide +kernel⟩

theorem witness_StateReadOut :
    (recv s7).Receiving ∧ 16 ≤ (16#8).toNat ∧ (15#8).toNat = (15 : RegionIx).val :=
  ⟨⟨rfl, rfl⟩, by decide, by decide⟩

/-- Region 3 of 01 active, and region 4 DISABLED with the same entry. -/
def sTwice : State := withReg s3 4 { Region.powerOn with config := conf3, written := true }

/-- Region 4 fails against region 3 alone; the enable of `sEnable` waits; with no head it is applied. -/
theorem witness_RegionEnabled :
    (recv sTwice).Receiving ∧ 16 ≤ (16#8).toNat ∧ (4#8).toNat = (4 : RegionIx).val ∧
      s3.phase 3 ≠ .disabled ∧ (State.reset.region 15).written = false ∧
      (sTwice.phase 4 = .disabled ∧ (sTwice.region 4).written = true ∧ (4 : RegionIx) ≠ 3 ∧
        (sTwice.phase 3).active = true ∧ (sTwice.config 4).inAreas 0x20004000 = true ∧
        (sTwice.config 3).inAreas 0x20004000 = true ∧
          ∀ i : RegionIx, i < 3 → (sTwice.phase i).active = false) ∧
      ((recv sEnable).Receiving ∧ sEnable.phase 3 = .disabled ∧ (sEnable.region 3).written = true ∧
        (∀ j : RegionIx, (sEnable.phase j).active = false) ∧
        ∃ d : Decision, sEnable.host.head = some ⟨.waitMemory, some d⟩ ∧
          sEnable.headRequest = some (wr 0x20004000 1 4) ∧ d.cls = .pass ∧
          (sEnable.config 3).inAreas (4 * (wr 0x20004000 1 4).addr.toNat) = true) ∧
      (sEnable.config 3).lineBase + (sEnable.config 3).lines ≤ 2048 ∧
      ({ sEnable with host := ⟨[], none, false, 0⟩ } : State).host.head = none := by
  refine ⟨⟨rfl, rfl⟩, by decide, by decide, by decide +kernel, by decide +kernel, ?_, ?_,
      by decide +kernel, rfl⟩
  · decide +kernel
  · exact ⟨⟨rfl, rfl⟩, by decide +kernel, by decide +kernel, by decide +kernel, _, rfl, rfl, rfl,
    by decide +kernel⟩

/-- `sEnable` with its enable waiting, and the same with no head. -/
def sEnableWaits : State :=
  { sEnable with link := { sEnable.link with state := .executing, waiting := some (.enable 3 0x21 false) } }

def sEnableFree : State := { sEnableWaits with host := ⟨[], none, false, 0⟩ }

theorem entriesLaw_enable {s : State} (hr : s.regions = sEnable.regions) {o : Bool}
    (hw : s.link.waiting = some (.enable 3 0x21 o)) : s.EntriesLaw := by
  have e : ∀ r, s.region r = sEnable.region r := fun r => by simp only [State.region, hr]
  refine entriesLaw_of ?_ ?_ ?_
  · simp only [State.config, e]
    decide +kernel
  · simp only [State.phase, e]
    decide +kernel
  · intro r seq o' h
    rw [hw] at h
    cases h
    simp only [State.conflict, State.phase, State.config, e]
    decide +kernel

/-- A state whose head is held in DECIDE (R141). -/
def withHeld (s : State) (q : HostRequest) : State :=
  { s with host := ⟨[q], some ⟨.decide, none⟩, false, 0⟩ }

/-- `sEnableFree` with the enable waiting for a transaction that a dropped head left behind. -/
def sEnableOrphan : State :=
  { sEnableFree with
    bus := { sEnableFree.bus with port := txn (.host .pass true) .write 0x20004000 1 }
    link := { sEnableFree.link with waiting := some (.enable 3 0x21 true) } }

/-- The enable that waits, and the head held in DECIDE behind it. -/
theorem witness_EnableAppliedHeld :
    let q := wr 0x20004000 1 2
    ((withHeld sEnableFree q).link.waiting = some (.enable 3 0x21 false) ∧
        (withHeld sEnableFree q).EntriesLaw ∧ (withHeld sEnableFree q).host.head = some ⟨.decide, none⟩ ∧
        (withHeld sEnableFree q).host.queue ≠ []) ∧
      (withHeld sEnableOrphan q).link.waiting = some (.enable 3 0x21 true) ∧
      (withHeld sEnableOrphan q).EntriesLaw ∧ (withHeld sEnableOrphan q).InFlight (.host .pass true) .write 1 ∧
      (withHeld sEnableOrphan q).host.head = some ⟨.decide, none⟩ ∧
      (withHeld sEnableOrphan q).host.queue ≠ [] :=
  ⟨⟨rfl, entriesLaw_enable rfl rfl, rfl, nofun⟩, rfl, entriesLaw_enable rfl rfl, ⟨_, _, rfl, rfl, rfl⟩, rfl,
    nofun⟩

theorem witness_EnableApplied :
    (sEnableFree.link.waiting = some (.enable 3 0x21 false) ∧ sEnableFree.EntriesLaw ∧
        sEnableFree.progress ≠ some .decide ∧ sEnableFree.host.head = none) ∧
      sEnableWaits.link.waiting = some (.enable 3 0x21 false) ∧ sEnableWaits.EntriesLaw ∧
      ∃ d a, sEnableWaits.host.head = some ⟨.waitMemory, some d⟩ ∧
        sEnableWaits.headRequest = some (wr 0x20004000 1 4) ∧ d.cls = .pass ∧ d.view = none ∧
        sEnableWaits.bus.port = .inFlight ⟨.host .pass false, a⟩ 100 ∧ a.kind = .write ∧
        sEnableWaits.park.slot = .idle :=
  ⟨⟨rfl, entriesLaw_enable rfl rfl, by decide, rfl⟩, rfl, entriesLaw_enable rfl rfl, _, _, rfl, rfl, rfl,
    rfl, rfl, rfl, rfl⟩

/-- Region 8 of 07 (PENDING), region 2 of 04 (OPEN, with a head that waits), region 11 of 06 (FAULTED), a
DISABLED region, and one RETIRING. -/
theorem witness_RegionRetired :
    (recv s7).Receiving ∧ 16 ≤ (16#8).toNat ∧ (8#8).toNat = (8 : RegionIx).val ∧
      State.reset.phase 8 = .disabled ∧
        (withReg s7 8 (reg conf3 .retiring .live .draft .free 0 0 0 0)).phase 8 = .retiring ∧
      (s7.phase 8 = .pending ∧ s7.link.waiting = none ∧ s7.NoViewWaits) ∧ sStrobe.phase 11 = .faulted ∧
      s2c.phase 2 = .opened ∧ s2c.NoViewWaits ∧ ∃ d : Decision, d.region = some 2 ∧
        s2c.host.head = some ⟨.waitLine, some d⟩ :=
  ⟨⟨rfl, rfl⟩, by decide, by decide, by decide +kernel, by decide +kernel, ⟨by decide +kernel, rfl,
      noViewWaits_noHead rfl⟩, by decide +kernel, by decide +kernel, noViewWaits_of rfl rfl, _, rfl, rfl⟩

/-- Region 0 OPEN with one dirty line and its draft complete, before its publication; bank A is LIVE. -/
def sFull : State :=
  let g := reg (conf 0x40000000 4 0) .opened .live .draft .held 1 1 0 0
  withLine (withReg State.reset 0 { g with run := { g.run with dirtyLines :=
    1 } }) 0 false false true true false false

/-- The same with a view on bank A, the third bank HELD. -/
def sHeld : State := { sFull with views := sFull.views.set 0 (some ⟨9, 0, .bankA, 1, 5, 20, false, false⟩) }

/-- The same with a draft write in flight. -/
def sFlight : State := withReg sFull 0 { sFull.region 0 with run := { sFull.run 0 with inFlight := 1 } }

theorem draftComplete_sFull : sFull.DraftComplete 0 := by
  simp only [State.DraftComplete]
  decide +kernel

theorem witness_ManualTrigger :
    (recv s7).Receiving ∧ 16 ≤ (16#8).toNat ∧ (0#8).toNat = (0 : RegionIx).val ∧
      (State.reset.phase 0 ≠ .opened ∧ State.reset.phase 0 ≠ .pending) ∧
      (s6 5 20).phase 6 = .opened ∧ (s6 5 20).DraftEmpty 6 ∧
      (s7.phase 8 = .pending ∧ (s7.run 8).followOn = false) ∧
      (∃ s : State, s.phase 8 = .pending ∧ (s.run 8).followOn = true) ∧
      (sFlight.phase 0 = .opened ∧ ¬sFlight.DraftEmpty 0 ∧ ¬sFlight.DraftComplete 0) ∧
      (sHeld.phase 0 = .opened ∧ ¬sHeld.DraftEmpty 0 ∧ sHeld.DraftComplete 0 ∧ ¬sHeld.BankAvailable 0) ∧
      sFull.phase 0 = .opened ∧ ¬sFull.DraftEmpty 0 ∧ sFull.DraftComplete 0 ∧ sFull.BankAvailable 0 ∧
      sFull.link.waiting = none := by
  refine ⟨⟨rfl, rfl⟩, by decide, by decide, by decide +kernel, by decide +kernel, ?_, by decide +kernel,
    ⟨withReg s7 8 { s7.region 8 with run := { s7.run 8 with followOn := true } }, by decide +kernel,
      by decide +kernel⟩,
    ⟨by decide +kernel, ?_, ?_⟩, ⟨by decide +kernel, ?_, ?_, ?_⟩, by decide +kernel, ?_,
      draftComplete_sFull, ?_, rfl⟩
  · simp only [State.DraftEmpty]; decide +kernel
  · simp only [State.DraftEmpty]; decide +kernel
  · simp only [State.DraftComplete]; decide +kernel
  · simp only [State.DraftEmpty]; decide +kernel
  · simp only [State.DraftComplete]; decide +kernel
  · rintro (h | h)
    · exact h ⟨0, _, rfl, by decide, by decide +kernel⟩
    · exact absurd h (by decide +kernel)
  · simp only [State.DraftEmpty]; decide +kernel
  · exact Or.inl (not_viewOn (by decide +kernel))

/-- The counts outside the range, and a HELD bank whose one view is dropped; a view in use. -/
theorem witness_ViewsDropped :
    (recv s3).Receiving ∧ (16 ≤ (16#8).toNat ∧ 16#8 ≠ 0xFF#8) ∧ (16 ≤ (254#8).toNat ∧ 254#8 ≠ 0xFF#8) ∧
      (15#8).toNat < 16 ∧ (3#8).toNat = (3 : RegionIx).val ∧
      (∃ v, s3.view 0 = some v ∧ v.region = 3 ∧ v.inUse = false) ∧ s3.phase 3 ≠ .pending ∧
      (s3.run 3).roles.get .bankB = .held ∧ s3.ViewOn 3 .bankB ∧ s3.view 31 = none ∧
      ∃ (s : State) (v : View), s.view 0 = some v ∧ v.inUse = true :=
  ⟨⟨rfl, rfl⟩, by decide, by decide, by decide, by decide, ⟨_, rfl, rfl, rfl⟩, by decide +kernel,
    by decide +kernel, ⟨0, _, rfl, rfl, rfl⟩, by decide +kernel,
    { s3 with views := s3.views.set 0 (some ⟨5, 3, .bankB, 16, 5, 20, true, false⟩) }, _, rfl, rfl⟩

theorem witness_CountersRead :
    (recv s3).Receiving ∧ 16 ≤ (16#8).toNat ∧ 2 ≤ (2#7).toNat ∧ (15#8).toNat < 16 ∧
      (3#8).toNat = (3 : RegionIx).val ∧
      (1#7).toNat < 2 ∧ State.reset.notices.snapshot.valid = false ∧
      ∃ x : Snapshot, x.valid = true ∧ x.region = 3 ∧ x.region ≠ 4 :=
  ⟨⟨rfl, rfl⟩, by decide, by decide, by decide, by decide, by decide, rfl, ⟨true, 3, .zero⟩, rfl, rfl,
    by decide⟩

theorem witness_RestartApplied :
    ((recv s2c).Receiving ∧ ∃ x timer, (recv s2c).bus.port = .inFlight x timer) ∧
      ((recv sEnableFree).Receiving ∧ (∀ x timer, State.reset.bus.port ≠ .inFlight x timer) ∧
        State.reset.progress ≠ some .decide) ∧
      ∃ s : State, s.link.waiting = some (.restart 9) ∧ (∀ x timer, s.bus.port ≠ .inFlight x timer) ∧
        s.progress = some .waitLine :=
  ⟨⟨⟨rfl, rfl⟩, _, _, rfl⟩, ⟨⟨rfl, rfl⟩, nofun, by decide⟩,
    { s2c with
      bus := { s2c.bus with port := .expired }
      link := { s2c.link with state := .executing, waiting := some (.restart 9) } }, rfl, nofun, rfl⟩

/-- A restart that meets a head held in DECIDE, at once and after it has waited; and one that waits for the read of
a copy, with no head and with one held. -/
theorem witness_RestartAppliedHeld :
    let q := wr 0x20004000 1 2
    let waits (s : State) : State :=
      { s with link := { s.link with state := .executing, waiting := some (.restart 9) } }
    let copying :=
      waits { s2 with bus := { s2.bus with catchReq := none, port := txn .catchup .read 0x60000040 16 } }
    ((recv (withHeld State.reset q)).Receiving ∧
        (recv (withHeld State.reset q)).host.head = some ⟨.decide, none⟩ ∧
        (recv (withHeld State.reset q)).host.queue ≠ [] ∧
        ∀ x timer, (recv (withHeld State.reset q)).bus.port ≠ .inFlight x timer) ∧
      ((waits (withHeld State.reset q)).link.waiting = some (.restart 9) ∧
        (waits (withHeld State.reset q)).host.head = some ⟨.decide, none⟩) ∧
      (copying.link.waiting = some (.restart 9) ∧ copying.catchup.engine = .reading copy57 false ∧
        copying.InFlight .catchup .read (List.replicate 16 (0 : Word)).length ∧
        copying.progress ≠ some .decide) ∧
      (withHeld copying q).link.waiting = some (.restart 9) ∧
      (withHeld copying q).catchup.engine = .reading copy57 false ∧
      (withHeld copying q).InFlight .catchup .read (List.replicate 16 (0 : Word)).length ∧
      (withHeld copying q).host.head = some ⟨.decide, none⟩ ∧ (withHeld copying q).host.queue ≠ [] :=
  ⟨⟨⟨rfl, rfl⟩, rfl, nofun, nofun⟩, ⟨rfl, rfl⟩, ⟨rfl, rfl, ⟨_, _, rfl, rfl, rfl⟩, nofun⟩, rfl, rfl,
    ⟨_, _, rfl, rfl, rfl⟩, rfl, nofun⟩

/-! ### Witnesses of the host requests -/

/-- A request accepted into an empty queue becomes head. -/
theorem arrives {s : State} {q : HostRequest} (hw : q.wf = true) (hr : s.host.resetAsserted = false)
    (hq : s.host.queue = []) : HeadArrives (.hostRequestAccepted q) s q [] :=
  Or.inl ⟨rfl, hw, hr, hq, rfl⟩

theorem decides_s3 {q : HostRequest} (hw : q.wf = true) (hl : inLine q) :
    Decides (.hostRequestAccepted q) s3 q [] :=
  ⟨arrives hw rfl rfl, rfl, hl, areasLaw_s3, drainSettled_s3⟩

theorem witness_RequestsQueued :
    ((wr 0 16 3).wf = true ∧ { s8 .waitMemory with host := ⟨[], none, true,
      0⟩ }.host.resetAsserted = true) ∧
      4 ≤ (s8 .waitMemory).host.queue.length ∧
      (s8q2.host.resetAsserted = false ∧ s8q2.host.queue ≠ [] ∧ s8q2.host.queue.length < 4) ∧
      (HeadArrives (.hostRequestAccepted (wr 0 1 3)) sEnableFree (wr 0 1 3) [] ∧
        sEnableFree.link.waiting ≠ none) ∧
      (∃ s : State, HeadArrives .hostResponseTaken s (wr 0 1 3) [] ∧ s.link.waiting ≠ none) ∧
      (∃ s : State, s.progress = some (.respond ⟨.okay, []⟩) ∧ s.host.queue = [wr 0 1 3]) ∧
      ∀ resp : HostResponse, State.reset.progress ≠ some (.respond resp) :=
  ⟨⟨by decide, rfl⟩, by decide, ⟨rfl, by decide, by decide⟩, ⟨arrives (by decide) rfl rfl, by decide⟩,
    ⟨{ sEnableFree with host := ⟨[wr 0 1 4, wr 0 1 3], some ⟨.respond ⟨.okay, []⟩, none⟩, false, 0⟩ },
      Or.inr ⟨rfl, ⟨_, rfl⟩, _, rfl⟩, by decide⟩,
    ⟨{ State.reset with host := ⟨[wr 0 1 3], some ⟨.respond ⟨.okay, []⟩, none⟩, false, 0⟩ }, rfl, rfl⟩,
      nofun⟩

/-- The word just past region 3's window, and the one just before it. -/
theorem witness_PassForwarded :
    ∀ q ∈ [rd 0x20004200 1 5, rd 0x20003FFC 1 5],
      Decides (.hostRequestAccepted q) s3 q [] ∧
        ∀ r : RegionIx, (s3.phase r).active = true → (s3.config r).inAreas (4 * q.addr.toNat) = false := by
  intro q hq
  simp only [List.mem_cons, List.not_mem_nil, or_false] at hq
  obtain rfl | rfl := hq
  · exact ⟨decides_s3 (by decide) (by unfold inLine; decide), by decide +kernel⟩
  · exact ⟨decides_s3 (by decide) (by unfold inLine; decide), by decide +kernel⟩

theorem inWindow_of {s : State} {q : HostRequest} {r : RegionIx}
    (h : (s.phase r).active = true ∧ (s.config r).windowBase.toNat ≤ 4 * q.addr.toNat ∧
      4 * q.addr.toNat < (s.config r).windowBase.toNat + (s.config r).lines * 64) : s.inWindow q r := h

/-- The first and the last word of region 3's window. -/
theorem witness_WindowClassRecorded :
    ∀ q ∈ [rd 0x20004000 1 5, rd 0x200041FC 1 9],
      HeadArrives (.hostRequestAccepted q) s3 q [] ∧ s3.link.waiting = none ∧ inLine q ∧ s3.AreasLaw ∧
        s3.inWindow q 3 := by
  intro q hq
  simp only [List.mem_cons, List.not_mem_nil, or_false] at hq
  obtain rfl | rfl := hq
  · exact ⟨arrives (by decide) rfl rfl, rfl, by unfold inLine; decide, areasLaw_s3,
    inWindow_of (by decide +kernel)⟩
  · exact ⟨arrives (by decide) rfl rfl, rfl, by unfold inLine; decide, areasLaw_s3,
    inWindow_of (by decide +kernel)⟩

/-- The words of region 3's window that a request includes. -/
theorem firstWord_s3 :
    (s3.config 3).stamp = some 1 ∧ (s3.config 3).writerTag = 2 ∧ s3.phase 3 = .opened ∧
      (s3.config 3).firstWord (wr 0x20004000 2 2) = 0 ∧
        (s3.config 3).firstWord (wr 0x20004080 4 2) = 32 := by
  decide +kernel

/-- The first word of bank B's area, the last of bank C's, a stranger, the stamp word, and a burst of two words
over a line's end. -/
theorem witness_RequestRefused :
    (Decides (.hostRequestAccepted (rd 0x20100000 1 2)) s3 (rd 0x20100000 1 2) [] ∧
        (s3.phase 3).active = true ∧
        (s3.config 3).inBank .bankB (4 * (rd 0x20100000 1 2).addr.toNat) = true) ∧
      (Decides (.hostRequestAccepted (rd 0x201003FC 1 2)) s3 (rd 0x201003FC 1 2) [] ∧
        (s3.config 3).inBank .bankC (4 * (rd 0x201003FC 1 2).addr.toNat) = true) ∧
      (Decides (.hostRequestAccepted (rd 0x20004100 1 7)) s3 (rd 0x20004100 1 7) [] ∧
        s3.inWindow (rd 0x20004100 1 7) 3 ∧
        FirstRow (.refused .tag) (windowRows (s3.config 3) (s3.phase 3) (rd 0x20004100 1 7))) ∧
      (Decides (.hostRequestAccepted (wr 0x20004000 2 2)) s3 (wr 0x20004000 2 2) [] ∧
        s3.inWindow (wr 0x20004000 2 2) 3 ∧
        FirstRow (.refused .stamp) (windowRows (s3.config 3) (s3.phase 3) (wr 0x20004000 2 2))) ∧
      HeadArrives (.hostRequestAccepted (wr 0x2000403C 2 2)) s3 (wr 0x2000403C 2 2) [] ∧
      s3.link.waiting = none ∧ s3.DrainSettled ∧ ¬inLine (wr 0x2000403C 2 2) := by
  obtain ⟨h1, h2, h3, h4, -⟩ := firstWord_s3
  refine ⟨⟨decides_s3 (by decide) (by unfold inLine; decide), by decide +kernel, by decide +kernel⟩,
    ⟨decides_s3 (by decide) (by unfold inLine; decide), by decide +kernel⟩,
    ⟨decides_s3 (by decide) (by unfold inLine; decide), inWindow_of (by decide +kernel), ?_⟩,
    ⟨decides_s3 (by decide) (by unfold inLine; decide), inWindow_of (by decide +kernel), ?_⟩,
    arrives (by decide) rfl rfl, rfl, drainSettled_s3, by unfold inLine; decide⟩
  · exact Or.inr ⟨by decide +kernel, Or.inl ⟨by decide +kernel, rfl⟩⟩
  · refine Or.inr ⟨by decide +kernel, Or.inr ⟨by decide +kernel, Or.inr ⟨by decide +kernel,
      Or.inr ⟨by decide +kernel, Or.inl ⟨⟨by decide, ?_⟩, rfl⟩⟩⟩⟩⟩
    rw [h1]
    exact hits_of ⟨by rw [h4]; omega, by rw [h4]; decide⟩

/-- A write of region 3's line 2; the same with the line stale, not queued and queued behind another entry. -/
theorem witness_DraftWriteTaken :
    let q := wr 0x20004080 4 2
    (Decides (.hostRequestAccepted q) s3 q [] ∧ s3.inWindow q 3 ∧ s3.phase 3 = .opened ∧
        q.tag = (s3.config 3).writerTag ∧ ¬(s3.config 3).hits q (s3.config 3).stamp ∧ s3.park.entries = [] ∧
        (s3.line ((s3.config 3).lineHit q)).stale.get (s3.run 3).draftBank = false) ∧
      (∃ s : State, Decides (.hostRequestAccepted q) s q [] ∧ s.config 3 = s3.config 3 ∧
        s.run 3 = s3.run 3 ∧
        (s.line 42).stale.get .bankA = true ∧ (s.line 42).queued = false) ∧
      ∃ s : State, Decides (.hostRequestAccepted q) s q [] ∧ s.config 3 = s3.config 3 ∧ s.run 3 = s3.run 3 ∧
        (s.line 42).stale.get .bankA = true ∧ (s.line 42).queued = true ∧ s.catchup.engine ≠ .idle ∧
        s.catchup.queue = [⟨40, .fill⟩] ++ ⟨42, .fill⟩ :: [] := by
  obtain ⟨h1, h2, h3, -, h4⟩ := firstWord_s3
  refine ⟨⟨decides_s3 (by decide) (by unfold inLine; decide), inWindow_of (by decide +kernel), h3,
      by decide +kernel,
    ?_, rfl, by decide +kernel⟩,
    ⟨withLine s3 42 true false false false false false,
      ⟨arrives (by decide) rfl rfl, rfl, by unfold inLine; decide, areasLaw_s3,
        drainSettled_idle rfl nofun⟩,
      rfl, rfl, by decide +kernel, by decide +kernel⟩, ?_⟩
  · rw [h1]
    exact not_hits_of (by rw [h4]; omega)
  · let s := withLine s3 42 true false false false true false
    exact ⟨{ s with
        catchup :=
          { s.catchup with
            queue := [⟨40, .fill⟩, ⟨42, .fill⟩], engine := .reading ⟨41, .fill, 3, .bankC,
              .bankA⟩ false } },
      ⟨arrives (by decide) rfl rfl, rfl, by unfold inLine; decide, areasLaw_s3,
        drainSettled_idle rfl nofun⟩,
      rfl, rfl, by decide +kernel, by decide +kernel, nofun, rfl⟩

/-- Region 3 with no view at all, and with every slot taken by views of another region. -/
def s3none : State := { s3 with views := State.reset.views }

def s3taken : State := { s3 with views := Vector.replicate 32 (some ⟨5, 1, .bankA, 0, 5, 20, false,
  false⟩) }

theorem witness_ViewReadServed :
    let q := rd 0x20004000 2 5
    (Decides (.hostRequestAccepted q) s3 q [] ∧ s3.inWindow q 3 ∧ (s3.phase 3).Viewable ∧ q.kind = .read ∧
        q.tag ≠ (s3.config 3).writerTag ∧ (s3.config 3).readerMask.getLsbD q.tag.val = true ∧
        ∃ v, s3.view 0 = some v ∧ v.region = 3 ∧ v.tag = q.tag ∧
          ∀ (j : Slot) (w : View), s3.view j = some w → j = 0) ∧
      (Decides (.hostRequestAccepted q) s3none q [] ∧ s3none.regions = s3.regions ∧
        (∀ (k : Slot) (v : View), s3none.view k = some v → v.region ≠ 3) ∧ s3none.view 0 = none ∧
        ∀ j : Slot, j < 0 → s3none.view j ≠ none) ∧
      Decides (.hostRequestAccepted q) s3taken q [] ∧ s3taken.regions = s3.regions ∧
      (∀ (k : Slot) (v : View), s3taken.view k = some v → v.region ≠ 3) ∧
        ∀ k : Slot, s3taken.view k ≠ none := by
  refine ⟨⟨decides_s3 (by decide) (by unfold inLine; decide), inWindow_of (by decide +kernel),
      Or.inl (by decide +kernel), rfl, by decide +kernel, by decide +kernel, _, rfl, rfl, rfl,
      fun j w h => (view_one (s := s3) (k := 0) rfl h).1⟩,
    ⟨⟨arrives (by decide) rfl rfl, rfl, by unfold inLine; decide, areasLaw_s3,
      drainSettled_idle rfl nofun⟩, rfl,
      fun _ _ h => (nomatch (view_none (s := s3none) rfl).symm.trans h), by decide +kernel, nofun⟩,
    ⟨arrives (by decide) rfl rfl, rfl, by unfold inLine; decide, areasLaw_s3,
      drainSettled_idle rfl nofun⟩, rfl,
    ?_, by decide +kernel⟩
  intro k v h
  have hk : ∀ k : Slot, s3taken.view k = some ⟨5, 1, .bankA, 0, 5, 20, false, false⟩ := by decide +kernel
  rw [hk k] at h
  cases h
  decide

/-- Region 3 FAULTED, and OPEN with line 0 stale in the DRAFT bank A. -/
theorem witness_WriterReadServed :
    let q := rd 0x20004004 1 2
    (Decides (.hostRequestAccepted q) s3 q [] ∧ s3.inWindow q 3 ∧ (s3.phase 3).Viewable ∧ q.kind = .read ∧
        q.tag = (s3.config 3).writerTag ∧ s3.phase 3 ≠ .faulted ∧
        (s3.line ((s3.config 3).lineHit q)).stale.get (s3.run 3).draftBank = false) ∧
      (∃ s : State, Decides (.hostRequestAccepted q) s q [] ∧ s.regions = s3.regions ∧
        (s.line ((s3.config 3).lineHit q)).stale.get (s3.run 3).draftBank = true) ∧
      ∃ s : State, Decides (.hostRequestAccepted q) s q [] ∧ s.config 3 = s3.config 3 ∧
        s.phase 3 = .faulted :=
  ⟨⟨decides_s3 (by decide) (by unfold inLine; decide), inWindow_of (by decide +kernel),
    Or.inl (by decide +kernel),
      rfl, by decide +kernel, by decide +kernel, by decide +kernel⟩,
    ⟨withLine s3 40 true false false false false false,
      ⟨arrives (by decide) rfl rfl, rfl, by unfold inLine; decide, areasLaw_s3,
        drainSettled_idle rfl nofun⟩, rfl,
      by decide +kernel⟩,
    withReg s3 3 (reg conf3 .faulted .draft .free .live 17 15 16 17),
    ⟨arrives (by decide) rfl rfl, rfl, by unfold inLine; decide,
      areasLaw_of (by decide +kernel) (by decide +kernel),
      drainSettled_idle rfl nofun⟩, by decide +kernel, by decide +kernel⟩

/-- The states of 05 with a slot that writes: their areas, and their queue. -/
theorem park5 (es : List ParkEntry) :
    (sPark es (.writing ⟨7, 0, 21⟩ false)).AreasLaw ∧
      (sPark es (.writing ⟨7, 0, 21⟩ false)).DrainSettled := by
  refine ⟨?_, drainSettled_writing rfl⟩
  have h : (sPark [] .idle).AreasLaw := areasLaw_of (by decide +kernel) (by decide +kernel)
  exact h

theorem decides_park {q : HostRequest} (es : List ParkEntry) (hw : q.wf = true) (hl : inLine q) :
    Decides (.hostRequestAccepted q) (sPark es (.writing ⟨7, 0, 21⟩ false)) q [] :=
  ⟨arrives hw rfl rfl, rfl, hl, (park5 es).1, (park5 es).2⟩

/-- Region 4 of 05: three beats that need one place of one (step 1), two that need two of none (step 2), and nine
that need nine; and region 4 OPEN behind an entry of its draft frame. -/
theorem witness_WriteParked :
    let s (es : List ParkEntry) := sPark es (.writing ⟨7, 0, 21⟩ false)
    let full := entries5 ++ [ent 4 8 11]
    (Decides (.hostRequestAccepted (wr 0x40000018 3 2)) (s entries5) (wr 0x40000018 3 2) [] ∧
        (wr 0x40000018 3 2).wf = true ∧ (s entries5).inWindow (wr 0x40000018 3 2) 4 ∧
          (s entries5).park.Sound ∧
        (wr 0x40000018 3 2).tag = ((s entries5).config 4).writerTag ∧
        ¬((s entries5).config 4).hits (wr 0x40000018 3 2) ((s entries5).config 4).stamp ∧
        (s entries5).phase 4 = .pending ∧ 11 = ((s entries5).run 4).frame + 2 ∧
        (s entries5).entriesNeeded 4 (wr 0x40000018 3 2) 11 + (s entries5).park.entries.length = 8) ∧
      (Decides (.hostRequestAccepted (wr 0x40000024 2 2)) (s full) (wr 0x40000024 2 2) [] ∧
        (s full).park.Sound ∧
        (s full).entriesNeeded 4 (wr 0x40000024 2 2) 11 = 2 ∧ (s full).park.entries.length = 8) ∧
      (Decides (.hostRequestAccepted (wr 0x40000000 9 2)) (s []) (wr 0x40000000 9 2) [] ∧
        (s []).entriesNeeded 4 (wr 0x40000000 9 2) 11 = 9) ∧
      ∃ x : State, Decides (.hostRequestAccepted (wr 0x40000018 1 2)) x (wr 0x40000018 1 2) [] ∧
        x.phase 4 = .opened ∧ ∃ e ∈ x.park.entries, e.region = 4 ∧ e.frameTag = (x.run 4).frame + 1 := by
  refine ⟨⟨decides_park _ (by decide) (by unfold inLine; decide), by decide,
      inWindow_of (by decide +kernel), ?_,
    by decide +kernel, not_hits_none, by decide +kernel, by decide +kernel, by decide +kernel⟩,
    ⟨decides_park _ (by decide) (by unfold inLine; decide), ?_, by decide +kernel, by decide⟩,
    ⟨decides_park _ (by decide) (by unfold inLine; decide), by decide +kernel⟩,
    withReg (sPark [ent 4 3 10] (.writing ⟨7, 0, 21⟩ false)) 4
      (reg { conf 0x40000000 1 0 with commit := some 10, trigWord :=
        true } .opened .free .live .draft 9 8 9 0),
    ⟨arrives (by decide) rfl rfl, rfl, by unfold inLine; decide,
      areasLaw_of (by decide +kernel) (by decide +kernel),
      drainSettled_writing rfl⟩, by decide +kernel, ent 4 3 10, by decide, by decide, by decide +kernel⟩
  · simp only [ParkQueue.Sound]; decide +kernel
  · simp only [ParkQueue.Sound]; decide +kernel

/-- The head of step 2 of 05 with its timer at 0 and a full queue, and with two places empty. -/
theorem witness_ParkWaitEnds :
    (∃ d : Decision,
      (sWait (entries5 ++ [ent 4 8 11]) 0).host.head = some ⟨.waitPark 0 2, some d⟩ ∧ d.region = some 4 ∧
        d.view = none ∧ (sWait (entries5 ++ [ent 4 8 11]) 0).link.waiting = none ∧
        (sWait (entries5 ++ [ent 4 8 11]) 0).DrainSettled) ∧
      (let s := sWait (entries5.drop 2 ++ [ent 4 8 11]) 500
      ∃ d : Decision, s.host.head = some ⟨.waitPark 500 2, some d⟩ ∧ s.host.queue = [wr 0x40000024 2 2] ∧
        d.cls = .writerWrite ∧ d.region = some 4 ∧ s.phase 4 = .pending ∧ 11 = (s.run 4).frame + 2 ∧
        s.entriesNeeded 4 (wr 0x40000024 2 2) 11 + s.park.entries.length = 8 ∧ s.park.Sound ∧
        s.inWindow (wr 0x40000024 2 2) 4 ∧
        (d.commit = true ↔ (s.config 4).hits (wr 0x40000024 2 2) (s.config 4).commit)) ∧
      (8 < (sWait (entries5.drop 1 ++ [ent 4 8 11]) 500).entriesNeeded 4 (wr 0x40000024 2 2) 11 +
          (sWait (entries5.drop 1 ++ [ent 4 8 11]) 500).park.entries.length ∧
        (sWait (entries5.drop 1 ++ [ent 4 8 11]) 500).park.Sound) ∧
      ∀ timer k, State.reset.progress ≠ some (.waitPark timer k) := by
  refine ⟨⟨_, rfl, rfl, rfl, rfl, drainSettled_writing rfl⟩,
    ⟨_, rfl, rfl, rfl, rfl, by decide +kernel, by decide +kernel, by decide +kernel, ?_,
      inWindow_of (by decide +kernel),
      iff_of_true rfl ?_⟩, ⟨by decide +kernel, ?_⟩, nofun⟩
  · simp only [ParkQueue.Sound]; decide +kernel
  · exact hits_of (w := 10) (by decide +kernel)
  · simp only [ParkQueue.Sound]; decide +kernel

/-- Region 2 of 04 after the copy of line 103, its head still waiting. -/
def s2d : State := withLine s2c 103 false false true false false false

theorem areasLaw_s2 {s : State} (h : s.regions = s2b.regions) : s.AreasLaw := by
  have h2 : s2b.AreasLaw := areasLaw_of (by decide +kernel) (by decide +kernel)
  simpa only [State.AreasLaw, State.phase, State.config, State.region, h] using h2

theorem witness_LineReleased :
    (s2d.AreasLaw ∧ s2d.inWindow (wr 0x400000C0 2 2) 2 ∧ s2d.phase 2 = .opened ∧
        (s2d.config 2).lineHit (wr 0x400000C0 2 2) = 103 ∧
        (∃ d : Decision, s2d.host.head = some ⟨.waitLine, some d⟩ ∧ s2d.host.queue = [wr 0x400000C0 2 2] ∧
          d.cls = .writerWrite ∧ d.region = some 2 ∧ d.view = none ∧ d.line = some 103 ∧
          (d.commit = true ↔ (s2d.config 2).hits (wr 0x400000C0 2 2) (s2d.config 2).commit)) ∧
        (s2d.line 103).stale.get (s2d.run 2).draftBank = false ∧ s2d.park.slot = .idle) ∧
      (2047 < 2048 ∧ State.reset.progress ≠ some .waitLine ∧ State.reset.park.slot = .idle) ∧
        2048 ≤ 2048 := by
  refine ⟨⟨areasLaw_s2 rfl, inWindow_of (by decide +kernel), by decide +kernel, by decide +kernel,
    ⟨_, rfl, rfl, rfl, rfl, rfl, rfl, iff_of_false (by decide) ?_⟩, by decide +kernel, rfl⟩,
    ⟨by decide, by decide, rfl⟩, by decide⟩
  have h : (s2d.config 2).commit = none := by decide +kernel
  rw [h]
  exact not_hits_none

/-- The rows of the grant order that the example of 09 meets, and the states in which no grant is made. -/
theorem witness_GrantOrder :
    let b := (sBus .idle).bus
    (b.port = .idle ∧ (sBus .idle).NoRestart ∧ (sBus .idle).progress ≠ some .waitLine ∧ b.hostReq ≠ none ∧
        b.drainReq ≠ none ∧ (sBus .idle).clock.timing.share ≤ b.share) ∧
      (∃ s : State, s.NoRestart ∧ s.bus.port = .idle ∧ s.progress = some .waitLine ∧
        s.bus.catchReq ≠ none) ∧
      (∃ s : State, s.NoRestart ∧ s.bus.port = .idle ∧ s.bus.hostReq ≠ none ∧ s.bus.drainReq = none ∧
        s.bus.catchReq ≠ none ∧ s.clock.timing.share ≤ s.bus.share ∧ s.progress ≠ some .waitLine) ∧
      (∃ s : State, s.NoRestart ∧ s.bus.port = .idle ∧ s.bus.hostReq ≠ none ∧
        ¬s.clock.timing.share ≤ s.bus.share ∧
        s.progress ≠ some .waitLine) ∧
      (sBus .expired).bus.port ≠ .idle ∧ State.reset.bus.hostReq = none := by
  refine ⟨⟨rfl, nofun, by decide, by decide, by decide, by decide⟩,
    ⟨{ s2c with bus := { (sBus .idle).bus with port := .idle } }, nofun, rfl, rfl, by decide⟩,
    ⟨{ sBus .idle with bus := { (sBus .idle).bus with drainReq := none } }, nofun, rfl, by decide, rfl,
      by decide,
      by decide, by decide⟩,
    ⟨{ sBus .idle with bus := { (sBus .idle).bus with share := 0 } }, nofun, rfl, by decide, by decide,
      by decide⟩,
    by decide, rfl⟩

/-- The entry of step 3 of 05 that the slot takes: region 7's word 1. -/
def ent1 : ParkEntry := ent 7 1 21

/-- Region 7's entry with its slot, and line 1 stale in the DRAFT bank, queued or not. -/
def sSlot (slot : DrainSlot) (stale queued : Bool) : State :=
  withLine (sPark (entries5.drop 1) slot) 1 false stale false false queued false

/-- The same with a writer read of word 1 in flight from the LIVE bank. -/
def sSlotRead (slot : DrainSlot) : State :=
  withHead (sSlot slot false false) (rd 0x50000004 1 2) .waitMemory
    { dec .writerRead (some 7) (some 1) .opened with served := .live }

theorem notHeld {s : State} {e : ParkEntry} (h : s.host.head = none) : ¬s.HeldForRead e := by
  rintro ⟨d, q, hd, -⟩
  rw [h] at hd
  cases hd

/-- A writer read of word 1 of region 7 in flight, which holds the drain write of that word: its line is current. -/
def sHeldDrain : State :=
  let s := sSlotRead (.waiting ent1.key true)
  { s with bus := { s.bus with port := txn (.host .read false) .read 0x50000004 1 } }

theorem heldDrain :
    sHeldDrain.park.slot = .waiting ent1.key true ∧ sHeldDrain.park.Sound ∧
      ent1 ∈ sHeldDrain.park.entries ∧ sHeldDrain.EntryInRange ent1 ∧
      (sHeldDrain.line (sHeldDrain.lineOfEntry ent1)).stale.get (sHeldDrain.run 7).draftBank = false := by
  refine ⟨rfl, ?_, by decide +kernel, ?_, by decide +kernel⟩
  · simp only [ParkQueue.Sound]; decide +kernel
  · simp only [State.EntryInRange]; decide +kernel

/-- A writer read of words 6 and 7 of region 4 of 05, answered with two words. -/
def sRead (d : Decision) : State :=
  let s := withHead (sPark entries5 (.writing ⟨7, 0, 21⟩ false)) (rd 0x40000018 2 2) .waitMemory d
  { s with bus := { s.bus with port := txn (.host .read false) .read 0x40008018 2 } }

theorem witness_ReadAnsweredHeld :
    sHeldDrain.InFlight (.host .read false) .read [(1 : Word)].length ∧
      sHeldDrain.host.queue = [rd 0x50000004 1 2] ∧
      (∃ d : Decision, sHeldDrain.host.head = some ⟨.waitMemory, some d⟩ ∧ d.view = none) ∧
      sHeldDrain.link.waiting = none :=
  ⟨⟨_, _, rfl, rfl, rfl⟩, rfl, ⟨_, rfl, rfl⟩, rfl⟩

theorem witness_ReadAnswered :
    ∀ d ∈ [dec .writerRead (some 4) (some 0) .pending,
        { dec .writerRead (some 4) (some 0) .pending with stamp := some (1, 10) },
        dec .viewRead (some 4) (some 0) .pending],
      (sRead d).InFlight (.host .read false) .read [(1 : Word), 2].length ∧
        (sRead d).host.queue = [rd 0x40000018 2 2] ∧
        (sRead d).host.head = some ⟨.waitMemory, some d⟩ ∧ d.view = none ∧ (sRead d).link.waiting = none ∧
        (sRead d).DrainSettled ∧ [(1 : Word), 2][1]? = some 2 := by
  intro d hd
  refine ⟨⟨_, _, rfl, rfl, rfl⟩, rfl, rfl, ?_, rfl, drainSettled_writing rfl, rfl⟩
  fin_cases hd <;> rfl

/-- A read through the view of region 3 of 01, in use. -/
def sUse (v : View) (close : Bool) : State :=
  let s := withHead { s3 with views := State.reset.views.set 0 (some v) } (rd 0x20004000 2 5) .waitMemory
    { dec .viewRead (some 3) (some 40) .opened with view := some 0, close := close }
  { s with bus := { s.bus with port := txn (.host .read false) .read 0x20100000 2 } }

/-- Region 0 PENDING on (d) alone, with the view of its LIVE bank in use and due to be dropped. -/
def sUseHeld : State :=
  let s := withReg sHeld 0 { sHeld.region 0 with run := { sHeld.run 0 with phase := .pending } }
  let s := { s with views := State.reset.views.set 0 (some ⟨9, 0, .bankA, 1, 5, 20, true, true⟩) }
  let s := withHead s (rd 0x40000000 2 9) .waitMemory { dec .viewRead (some 0) (some 0) .opened with view := some 0 }
  { s with bus := { s.bus with port := txn (.host .read false) .read 0x40000000 2 } }

/-- A view that stays, one due to be dropped, one closed, one whose idle count is at 0, each the last on its HELD
bank; and one whose end lets its region publish. -/
theorem witness_ViewUseEnds :
    (∀ x ∈ [((⟨5, 3, .bankB, 16, 5, 20, true, false⟩ : View), false), (⟨5, 3, .bankB, 16, 5, 20, true,
      true⟩, false),
        (⟨5, 3, .bankB, 16, 5, 20, true, false⟩, true), (⟨5, 3, .bankB, 16, 0, 20, true, false⟩, false)],
      (sUse x.1 x.2).InFlight (.host .read false) .read [(1 : Word), 2].length ∧
        (sUse x.1 x.2).FailsBy (.memoryAnswer .error) (.host .read false) false
          { (sUse x.1 x.2).bus with port := .idle } ∧
        (∃ d : Decision, (sUse x.1 x.2).host.head = some ⟨.waitMemory, some d⟩ ∧ d.view = some 0 ∧
          d.close = x.2) ∧
        (sUse x.1 x.2).host.queue = [rd 0x20004000 2 5] ∧ (sUse x.1 x.2).view 0 = some x.1 ∧
          x.1.inUse = true ∧
        (sUse x.1 x.2).link.waiting = none ∧ (sUse x.1 x.2).DrainSettled ∧ s3.phase x.1.region ≠ .pending ∧
        ∃ roles, (sUse x.1 x.2).RolesAfter 0 x.1 roles) ∧
      sUseHeld.InFlight (.host .read false) .read 2 ∧ sUseHeld.phase 0 = .pending ∧
        sUseHeld.DraftComplete 0 ∧
      (∃ v, sUseHeld.view 0 = some v ∧ v.dropDue = true ∧ v.bank = (sUseHeld.run 0).liveBank ∧
        ∀ (j : Slot) (w : View), sUseHeld.view j = some w → j = 0) ∧
      ∃ bus, ({ sUseHeld with
            bus :=
              { sUseHeld.bus with
                port := .inFlight ⟨.host .read false, ⟨.read, 0x40000000, 2, 9, []⟩⟩ 0 } } : State).FailsBy
          .memoryTimeout (.host .read false) true bus := by
  refine ⟨?_, ⟨_, _, rfl, rfl, rfl⟩, by decide +kernel, ?_, ⟨_, rfl, rfl, by decide +kernel,
    fun j w h => (view_one (s := sUseHeld) (k := 0) rfl h).1⟩, _, _, _, rfl, Or.inr ⟨rfl, rfl, rfl, rfl⟩⟩
  · rintro ⟨v, close⟩ hx
    have hv : v.inUse = true ∧ v.region = 3 ∧ v.bank = .bankB := by fin_cases hx <;> exact ⟨rfl, rfl, rfl⟩
    refine ⟨⟨_, _, rfl, rfl, rfl⟩, ⟨_, _, rfl, Or.inl ⟨rfl, rfl, rfl⟩⟩, ⟨_, rfl, rfl, rfl⟩, rfl, rfl, hv.1,
      rfl, drainSettled_idle rfl nofun, ?_,
      (s3.run 3).roles.set .free .bankB, ?_⟩
    · show s3.phase v.region ≠ .pending
      rw [hv.2.1]
      decide +kernel
    · have hr : ((sUse v close).run v.region).roles = (s3.run 3).roles := by rw [hv.2.1]; rfl
      refine ⟨fun _ _ => by rw [hr, hv.2.2], fun h => ?_⟩
      rcases h with h | h
      · exact absurd (by rw [hr, hv.2.2]; decide +kernel) h
      · exact absurd (fun j w hw _ _ => (view_one (s := sUse v close) (k := 0) rfl hw).1) h
  · simp only [State.DraftComplete]
    decide +kernel

/-- Region 0 in a phase with the draft writes given in flight; its LIVE bank A viewed and its third bank HELD, or the
LIVE bank not viewed. -/
def sDraft (p : Phase) (n : Nat) (held : Bool) : State :=
  let s := if held then sHeld else sFull
  let g := s.region 0
  withReg s 0
    { g with
      run := { g.run with phase := p, inFlight := n }
      life := { g.life with stage := if p = .retiring then .winding else .none } }

/-- Region 0 PENDING, with the view in slot 0 on the bank given in use and due to be dropped, and perhaps
another one. -/
def sUsePending (n : Nat) (b : Bank) (other : Option Bank) : State :=
  let view (c : Bank) : View := ⟨5, 0, c, if c = .bankA then 1 else 0, 5, 20, false, false⟩
  let own : View := { view b with tag := 9, inUse := true, dropDue := true }
  let s := sDraft .pending n true
  let s := { s with views := (State.reset.views.set 0 (some own)).set 1 (other.map view) }
  let s := withHead s (rd 0x40000000 2 9) .waitMemory
    { dec .viewRead (some 0) (some 0) .opened with view := some 0 }
  { s with bus := { s.bus with port := txn (.host .read false) .read 0x40000000 2 } }

/-- A draft that is not complete; a second view on the LIVE bank; and the last view on the HELD third bank of a
region that waits for it. -/
theorem witness_ViewUseEndsPending :
    (∀ s ∈ [sUsePending 1 .bankA none, sUsePending 0 .bankA (some .bankA),
        sUsePending 0 .bankC (some .bankA)],
      s.InFlight (.host .read false) .read [(1 : Word), 2].length ∧
        (∃ d : Decision, s.host.head = some ⟨.waitMemory, some d⟩ ∧ d.view = some 0) ∧
        s.host.queue = [rd 0x40000000 2 9] ∧
        (∃ v, s.view 0 = some v ∧ v.region = 0 ∧ v.inUse = true ∧ v.dropDue = true) ∧
        s.link.waiting = none ∧ s.DrainSettled ∧ s.phase 0 = .pending) ∧
      ¬(sUsePending 1 .bankA none).DraftComplete 0 ∧
      (∃ w, (sUsePending 0 .bankA (some .bankA)).view 1 = some w ∧ w.region = 0 ∧ w.bank = .bankA) ∧
      let s := sUsePending 0 .bankC (some .bankA)
      s.DraftComplete 0 ∧
        (∃ v, s.view 0 = some v ∧ v.bank = (s.run 0).thirdBank ∧ (s.run 0).roles.get v.bank = .held) ∧
        ∀ j : Slot, ∀ w ∈ s.view j, w.region = 0 → w.bank = .bankC → j = 0 := by
  refine ⟨?_, ?_, ⟨_, rfl, rfl, rfl⟩, ?_, ⟨_, rfl, by decide +kernel, by decide +kernel⟩, by decide +kernel⟩
  · intro s hs
    fin_cases hs <;>
      exact ⟨⟨_, _, rfl, rfl, rfl⟩, ⟨_, rfl, rfl⟩, rfl, ⟨_, rfl, rfl, rfl, rfl⟩, rfl,
        drainSettled_idle rfl nofun, by decide +kernel⟩
  · simp only [State.DraftComplete]; decide +kernel
  · simp only [State.DraftComplete]; decide +kernel

theorem not_bankAvailable {s : State} {r : RegionIx} (h : s.ViewOn r (s.run r).liveBank)
    (h2 : (s.run r).roles.get (s.run r).thirdBank ≠ .free) : ¬s.BankAvailable r :=
  fun ha => ha.elim (fun hv => hv h) h2

/-- The draft write of `s8q2` in flight with its region RETIRING; and a read that fails while it holds a drain
write. -/
theorem witness_HostAccessEndsHeld :
    (let g := s8q2.region 2
      let s := withReg s8q2 2 { g with
        run := { g.run with phase := .retiring }, life := { g.life with stage := .winding } }
      s.host.queue = [wr 0x40000040 2 2] ∧
        (∃ d : Decision, s.host.head = some ⟨.waitMemory, some d⟩ ∧ d.view = none) ∧
        s.link.waiting = none ∧ s.DrainSettled ∧ s.phase 2 = .retiring ∧ s.catchup.Taken ∧ s.AreasLaw ∧
        s.WaitsLaw ∧ s.InFlight (.host (.draftWrite 2) false) .write 2 ∧
        s.FailsBy (.memoryAnswer .error) (.host (.draftWrite 2) false) false { s.bus with port := .idle }) ∧
      sHeldDrain.FailsBy (.memoryAnswer .error) (.host .read false) false
        { sHeldDrain.bus with port := .idle } := by
  refine ⟨⟨rfl, ⟨_, rfl, rfl⟩, rfl, drainSettled_idle rfl nofun, by decide +kernel, Or.inl nofun,
    areasLaw_of (by decide +kernel) (by decide +kernel),
    waitsLaw_of (Or.inl rfl) nofun nofun nofun nofun, ⟨_, _, rfl, rfl, rfl⟩,
    ⟨_, _, rfl, Or.inl ⟨rfl, rfl, rfl⟩⟩⟩, ⟨_, _, rfl, Or.inl ⟨rfl, rfl, rfl⟩⟩⟩

/-- A PASS write, a draft write in OPEN, the draft write of step 1 of 04 in PENDING, and a timer at 0. -/
theorem witness_HostAccessEnds :
    (∃ d : Decision, sEnable.host.queue = [wr 0x20004000 1 4] ∧
      sEnable.host.head = some ⟨.waitMemory, some d⟩ ∧
        d.view = none ∧ sEnable.link.waiting = none ∧ sEnable.DrainSettled ∧
        sEnable.InFlight (.host .pass false) .write 1 ∧
        sEnable.FailsBy (.memoryAnswer .error) (.host .pass false) false { sEnable.bus with port :=
          .idle }) ∧
      (s8q2.InFlight (.host (.draftWrite 2) false) .write 2 ∧ s8q2.phase 2 = .opened) ∧
      (∃ s : State, ∃ bus, s.FailsBy .memoryTimeout (.host .pass false) true bus) ∧
      (let s := { withHead s2 (wr 0x40000040 1 2) .waitMemory (dec .writerWrite (some 2) (some 101) .pending) with
          bus := { s2.bus with port := txn (.host (.draftWrite 2) false) .write 0x40004040 1 } }
      s.phase 2 = .pending ∧ s.InFlight (.host (.draftWrite 2) false) .write 1 ∧
        ({ s with regions := s.writeCounted (.draftWrite 2) } : State).DraftComplete 2 ∧
          s.BankAvailable 2) ∧
      (∃ x timer, sEnable.bus.port = .inFlight x timer ∧ timer ≠ 0) ∧
      (∀ x timer, State.reset.bus.port ≠ .inFlight x timer) ∧
        (MemAnswer.okay (List.replicate 16 0)).wf = true := by
  refine ⟨⟨_, rfl, rfl, rfl, rfl, drainSettled_idle rfl nofun, ⟨_, _, rfl, rfl, rfl⟩,
      ⟨_, _, rfl, Or.inl ⟨rfl, rfl, rfl⟩⟩⟩, ⟨⟨_, _, rfl, rfl, rfl⟩, by decide +kernel⟩,
    ⟨{ State.reset with
        bus := { State.reset.bus with port := .inFlight ⟨.host .pass false, ⟨.read, 0x100, 4, 3, []⟩⟩ 0 } }, _,
      ⟨_, _, rfl, Or.inr ⟨rfl, rfl, rfl, rfl⟩⟩⟩,
    ⟨by decide +kernel, ⟨_, _, rfl, rfl, rfl⟩, ?_, Or.inl (not_viewOn (by decide +kernel))⟩,
    ⟨_, _, rfl, by decide⟩, nofun, by decide⟩
  simp only [State.DraftComplete]
  decide +kernel

/-- A draft write of region 0 in flight, of a head or left behind by a dropped one. -/
def sWrites (p : Phase) (n : Nat) (held dropped : Bool) : State :=
  let s := sDraft p n held
  let s :=
    if dropped then s
    else withHead s (wr 0x40000000 1 2) .waitMemory (dec .writerWrite (some 0) (some 0) .opened)
  { s with bus := { s.bus with port := txn (.host (.draftWrite 0) dropped) .write 0x40004000 1 } }

/-- A draft write in PENDING with another one behind it; and the last one, with no bank available. -/
theorem witness_HostAccessEndsPending :
    (∀ n ∈ [1, 2],
      (sWrites .pending n true false).host.queue = [wr 0x40000000 1 2] ∧
        (∃ d : Decision, (sWrites .pending n true false).host.head = some ⟨.waitMemory, some d⟩ ∧
          d.view = none) ∧
        (sWrites .pending n true false).link.waiting = none ∧ (sWrites .pending n true false).DrainSettled ∧
        (sWrites .pending n true false).phase 0 = .pending ∧
        (sWrites .pending n true false).InFlight (.host (.draftWrite 0) false) .write 1 ∧
        ¬(sWrites .pending n true false).BankAvailable 0) ∧
      ¬({ sWrites .pending 2 true false with
          regions := (sWrites .pending 2 true false).writeCounted (.draftWrite 0) } : State).DraftComplete 0 ∧
      ({ sWrites .pending 1 true false with
          regions := (sWrites .pending 1 true false).writeCounted (.draftWrite 0) } : State).DraftComplete 0 := by
  refine ⟨?_, ?_, ?_⟩
  · intro n hn
    refine ⟨rfl, ⟨_, rfl, rfl⟩, rfl, drainSettled_idle rfl nofun, ?_, ⟨_, _, rfl, rfl, rfl⟩,
      not_bankAvailable ⟨0, _, rfl, rfl, ?_⟩ ?_⟩ <;>
      fin_cases hn <;> decide +kernel
  · simp only [State.DraftComplete]; decide +kernel
  · simp only [State.DraftComplete]; decide +kernel

/-- Region 2 of 04 in another phase, with the same roles. -/
def inPhase (s : State) (p : Phase) (l : Lifecycle) : State :=
  withReg s 2 { s.region 2 with run := { s.run 2 with phase := p }, life := l }

theorem inPhase_region {s : State} {p : Phase} {l : Lifecycle} :
    (inPhase s p l).region 2 = { s.region 2 with run := { s.run 2 with phase := p }, life := l } := by
  simp [inPhase, withReg, State.region, Vector.get_eq_getElem]

theorem inPhase_phase {s : State} {p : Phase} {l : Lifecycle} : (inPhase s p l).phase 2 = p := by
  simp only [State.phase, inPhase_region]

theorem areasLaw_inPhase {s : State} {p : Phase} {l : Lifecycle} (h : s.regions = s2b.regions)
    (hp : p ≠ .disabled) : (inPhase s p l).AreasLaw := by
  have hc : ∀ r, (inPhase s p l).config r = s2b.config r := fun r => by
    by_cases hr : r = 2
    · subst hr
      simp [inPhase, withReg, State.config, State.region, h, Vector.get_eq_getElem]
    · have : ¬((2 : RegionIx).val = r.val) := fun e => hr (Fin.ext e.symm)
      simp only [inPhase, withReg, State.config, State.region, h, Vector.get_eq_getElem,
          Vector.getElem_set, this,
        if_false]
  have ha : ∀ r, ((inPhase s p l).phase r).active = (s2b.phase r).active := fun r => by
    by_cases hr : r = 2
    · subst hr
      have h1 : ((inPhase s p l).phase 2).active = true := by
        simp [inPhase, withReg, State.phase, State.region, Vector.get_eq_getElem, Phase.active, hp]
      rw [h1]
      decide +kernel
    · have : ¬((2 : RegionIx).val = r.val) := fun e => hr (Fin.ext e.symm)
      simp only [inPhase, withReg, State.phase, State.region, h, Vector.get_eq_getElem,
          Vector.getElem_set, this,
        if_false]
  have h2 : s2b.AreasLaw := areasLaw_s2 rfl
  simpa only [State.AreasLaw, hc, ha] using h2

/-- Step 4 of 04 with the engine idle, and its reading of line 103 answered. -/
theorem witness_CopyStarted :
    (∃ s : State, s.catchup.engine = .idle ∧ s.catchup.queue = [⟨103, .fill⟩, ⟨40, .fill⟩] ∧ s.AreasLaw ∧
        s.lineIn 2 103) ∧
      (∃ s : State, s.catchup.engine = .idle ∧ s.catchup.queue = [⟨103, .fold⟩] ∧ s.AreasLaw ∧
        s.lineIn 2 103) ∧
      (s2b.catchup.engine ≠ .idle ∧ State.reset.catchup.queue = []) ∧
      ∃ s : State, s.catchup.engine = .reading copy57 false ∧ s.InFlight .catchup .read 16 ∧ s.NoRestart ∧
        (List.replicate 16 (0 : Word)).length = 16 := by
  refine ⟨⟨{ s2b with catchup := { s2b.catchup with engine := .idle, queue := [⟨103, .fill⟩, ⟨40,
      .fill⟩] } },
      rfl, rfl, areasLaw_s2 rfl, ?_⟩,
    ⟨{ s2b with catchup := { s2b.catchup with engine := .idle, queue := [⟨103, .fold⟩] } },
      rfl, rfl, areasLaw_s2 rfl, ?_⟩, ⟨nofun, rfl⟩,
    { s2b with bus := { s2b.bus with catchReq := none, port := txn .catchup .read 0x60000040 16 } }, rfl,
      ⟨_, _, rfl, rfl, rfl⟩, nofun, by decide⟩
  · simp only [State.lineIn]
    decide +kernel
  · simp only [State.lineIn]
    decide +kernel

/-- The copy of line 103 of 04, being written. -/
def copy103 (k : CopyKind) : Copy := ⟨103, k, 2, .bankB, .bankA⟩

/-- `s2c` without its head. -/
def s2e (k : CopyKind) (retried : Bool) : State :=
  { s2c with
    host := ⟨[], none, false, 0⟩
    catchup := { s2c.catchup with engine := .writing (copy103 k) retried (List.replicate 16 0) } }

theorem s2e_noneWaits {k : CopyKind} {retried : Bool} {ix : Nat} : (s2e k retried).NoneWaits ix := by
  have h : (s2e k retried).host.head = none := rfl
  have h2 : (s2e k retried).park.slot = .idle := rfl
  simp only [State.NoneWaits, h, h2]
  exact ⟨fun _ h => (nomatch h), fun _ _ h => (nomatch h)⟩

/-- OPEN, PENDING with another line stale, PENDING with line 103 the last one, FAULTED; the head that waits; the
last fold but one, and the last. -/
theorem witness_CopyCompleted :
    ((s2e .fill false).catchup.engine = .writing (copy103 .fill) false (List.replicate 16 0) ∧
        (s2e .fill false).InFlight .catchup .write 16 ∧ (s2e .fill false).AreasLaw ∧
        (s2e .fill false).lineIn 2 103 ∧ (s2e .fill false).NoRestart ∧ (s2e .fill false).NoneWaits 103 ∧
        (s2e .fill false).phase 2 = .opened) ∧
      (∀ p ∈ [Phase.pending, .faulted, .retiring],
        (inPhase (s2e .fill false) p .powerOn).AreasLaw ∧
          (inPhase (s2e .fill false) p .powerOn).lineIn 2 103 ∧
          (inPhase (s2e .fill false) p .powerOn).phase 2 = p) ∧
      (let s := inPhase (withLine (s2e .fill false) 103 false false true false false true) .pending .powerOn
      ¬s.DraftComplete 2 ∧ (withLine s 101 false false true false false false).DraftComplete 2 ∧
        s.BankAvailable 2) ∧
      (s2c.AreasLaw ∧ s2c.lineIn 2 103 ∧ s2c.phase 2 = .opened ∧
        (copy103 .fill).dest = (s2c.run 2).draftBank ∧
        s2c.inWindow (wr 0x400000C0 2 2) 2 ∧ (∃ d, s2c.host.head = some ⟨.waitLine, some d⟩ ∧
          d.line = some 103 ∧
          d.commit = false) ∧ 103 = (s2c.config 2).lineHit (wr 0x400000C0 2 2) ∧
            (s2c.config 2).commit = none ∧
        s2c.park.slot = .idle) ∧
      ∀ n ∈ [1, 2], ∃ s : State, s.catchup.engine = .writing (copy103 .fold) false (List.replicate 16 0) ∧
        s.phase 2 = .retiring ∧ (s.region 2).life = ⟨.none, 0, .folding, n, 0, 0⟩ ∧ s.AreasLaw ∧
        s.InFlight .catchup .write 16 := by
  refine ⟨⟨rfl, ⟨_, _, rfl, rfl, rfl⟩, areasLaw_s2 rfl, ?_, nofun, s2e_noneWaits, by decide +kernel⟩, ?_,
    ⟨?_, ?_, Or.inl (not_viewOn (by decide +kernel))⟩,
    ⟨areasLaw_s2 rfl, ?_, by decide +kernel, by decide +kernel, inWindow_of (by decide +kernel),
      ⟨_, rfl, rfl, rfl⟩, by decide +kernel, by decide +kernel, rfl⟩,
    fun n hn => ⟨inPhase (s2e .fold false) .retiring ⟨.none, 0, .folding, n, 0, 0⟩, rfl, inPhase_phase,
      by rw [inPhase_region],
      areasLaw_inPhase rfl (by decide), ⟨_, _, rfl, rfl, rfl⟩⟩⟩
  · simp only [State.lineIn]
    decide +kernel
  · intro p hp
    refine ⟨areasLaw_inPhase rfl (by fin_cases hp <;> decide), ?_, inPhase_phase⟩
    simp only [State.lineIn]
    fin_cases hp <;> decide +kernel
  · simp only [State.DraftComplete]
    decide +kernel
  · simp only [State.DraftComplete]
    decide +kernel
  · simp only [State.lineIn]
    decide +kernel

/-- Region 2 PENDING, its last stale line being written, with a view on its LIVE bank and its third bank HELD. -/
theorem witness_CopyCompletedPendingHeld :
    let s := withLine (withLine (s2e .fill false) 101 false false true false false false)
      103 false false true false false false
    let s := withReg s 2
      { s.region 2 with run := { s.run 2 with phase := .pending, roles := ⟨.draft, .live, .held⟩ } }
    let s := { s with views := State.reset.views.set 0 (some ⟨5, 2, .bankB, 7, 5, 20, false, false⟩) }
    s.AreasLaw ∧ s.lineIn 2 103 ∧ s.InFlight .catchup .write 16 ∧ s.NoneWaits 103 ∧ s.NoRestart ∧
      s.phase 2 = .pending ∧ s.DraftComplete 2 ∧ ¬s.BankAvailable 2 := by
  refine ⟨areasLaw_of (by decide +kernel) (by decide +kernel), ?_, ⟨_, _, rfl, rfl, rfl⟩,
    ⟨fun _ h => (nomatch h), fun _ _ h => (nomatch h)⟩, nofun, by decide +kernel, ?_,
    not_bankAvailable ⟨0, _, rfl, rfl, by decide +kernel⟩ (by decide +kernel)⟩
  · simp only [State.lineIn]; decide +kernel
  · simp only [State.DraftComplete]; decide +kernel

/-- Line 1 of region 7 being copied into its DRAFT bank, with the drain write of `ent1` waiting on it, and with a
writer read holding that write or not. -/
def sDrainWaits (held : Bool) : State :=
  let s := sSlot (.waiting ent1.key false) true false
  { s with
    host := if held then (sSlotRead .idle).host else s.host
    catchup :=
      { s.catchup with engine := .writing ⟨1, .fill, 7, .bankA, .bankB⟩ false (List.replicate 16 0) }
    bus := { s.bus with port := txn .catchup .write 0x50004000 16 } }

theorem witness_CopyCompletedDrain :
    ∀ held : Bool,
      let s := sDrainWaits held
      s.InFlight .catchup .write 16 ∧ s.AreasLaw ∧ s.lineIn 7 1 ∧ s.NoRestart ∧ s.phase 7 = .opened ∧
        (s.run 7).draftBank = .bankB ∧
        (∀ d : Decision, s.host.head = some ⟨.waitLine, some d⟩ → d.line ≠ some 1) ∧
        s.park.slot = .waiting ent1.key false ∧ s.park.Sound ∧ ent1 ∈ s.park.entries ∧ s.Eligible ent1 ∧
        s.EntryInRange ent1 ∧ s.lineOfEntry ent1 = 1 ∧ (s.HeldForRead ent1 ↔ held = true) := by
  intro held
  refine ⟨⟨_, _, rfl, rfl, rfl⟩, areasLaw_of ?_ ?_, ?_, nofun, ?_, ?_, ?_, rfl, ?_, ?_, ⟨Or.inl ?_, ?_⟩, ?_, ?_,
    ?_⟩
  all_goals first
    | (simp only [ParkQueue.Sound]; cases held <;> decide +kernel)
    | (simp only [State.EntryInRange]; cases held <;> decide +kernel)
    | (simp only [State.lineIn]; cases held <;> decide +kernel)
    | (cases held <;> decide +kernel)
    | skip
  · cases held <;> exact fun _ h => nomatch h
  · cases held
    · exact iff_of_false (notHeld rfl) nofun
    · exact iff_of_true ⟨_, _, rfl, rfl, rfl, rfl, rfl, hits_of (by decide +kernel)⟩ rfl

/-- A copy that fails by an ERROR answer and by its timer, for the first and the second time, of a FILL in OPEN
and in FAULTED and of a FOLD in RETIRING. -/
theorem witness_CopyFails :
    (∀ retried : Bool,
      (s2e .fill retried).FailsBy (.memoryAnswer .error) .catchup false
          { (s2e .fill retried).bus with port := .idle } ∧
        (s2e .fill retried).Applies (copy103 .fill) ∧ (s2e .fill retried).lineIn 2 103 ∧
        (s2e .fill retried).AreasLaw ∧ (s2e .fill retried).link.waiting = none ∧
        (s2e .fill retried).WaitsLaw ∧
        ∀ e ∈ (s2e .fill retried).catchup.queue, e.line ≠ 103) ∧
      (∃ (s : State) (bus : MemoryBus), s.FailsBy .memoryTimeout .catchup true bus ∧
        s.catchup.engine = .reading copy57 false) ∧
      (inPhase (s2e .fill true) .faulted .powerOn).phase 2 = .faulted ∧
      (∀ n ∈ [1, 2],
        let s := inPhase (s2e .fold true) .retiring ⟨.none, 0, .folding, n, 0, 0⟩
        s.FailsBy (.memoryAnswer .error) .catchup false { s.bus with port := .idle } ∧
          s.Applies (copy103 .fold) ∧
          (s.region 2).life.stage = .folding ∧ (s.region 2).life.foldsOutstanding = n) ∧
      (let s := inPhase (s2e .fill false) .retiring ⟨.none, 0, .winding, 0, 0, 0⟩
      s.FailsBy (.memoryAnswer .error) .catchup false { s.bus with port := .idle } ∧ s.AreasLaw ∧
        s.phase 2 = .retiring) := by
  refine ⟨fun retried => ⟨⟨_, _, rfl, Or.inl ⟨rfl, rfl, rfl⟩⟩, Or.inl ⟨rfl, Or.inl ?_⟩, ?_,
      areasLaw_s2 rfl, rfl,
      waitsLaw_of (Or.inl rfl) nofun nofun nofun nofun,
      by cases retried <;> decide +kernel⟩,
    ⟨{ s2 with bus := { s2.bus with catchReq := none, port := .inFlight ⟨.catchup, ⟨.read, 0, 16, 2, []⟩⟩ 0 } }, _,
      ⟨_, _, rfl, Or.inr ⟨rfl, rfl, rfl, rfl⟩⟩, rfl⟩, inPhase_phase,
    fun n _ => ⟨⟨_, _, rfl, Or.inl ⟨rfl, rfl, rfl⟩⟩, Or.inr ⟨rfl, inPhase_phase⟩, by rw [inPhase_region],
      by rw [inPhase_region]⟩, ⟨_, _, rfl, Or.inl ⟨rfl, rfl, rfl⟩⟩, areasLaw_inPhase rfl (by decide),
    inPhase_phase⟩
  · cases retried <;> decide +kernel
  · simp only [State.lineIn]
    cases retried <;> decide +kernel

/-! ### Witnesses of the drain -/

theorem witness_DrainStarted :
    (∀ stale queued : Bool,
      let s := sSlot .idle stale queued
      s.park.slot = .idle ∧ s.NoRestart ∧ s.park.entries = [] ++ ent1 :: entries5.drop 2 ∧ s.Eligible ent1 ∧
        s.EntryInRange ent1 ∧ (s.line (s.lineOfEntry ent1)).stale.get (s.run 7).draftBank = stale ∧
        (s.line (s.lineOfEntry ent1)).queued = queued ∧ ¬s.HeldForRead ent1) ∧
      (sSlot .idle true true).park.Sound ∧ (sSlotRead .idle).HeldForRead ent1 ∧
      (∃ s : State, s.catchup.engine ≠ .idle ∧ s.catchup.queue = [⟨40, .fill⟩] ++ ⟨1, .fill⟩ :: [] ∧
        (sSlot .idle true true).lineOfEntry ent1 = 1) ∧
      (sSlot (.waiting ent1.key false) false false).park.slot ≠ .idle ∧
      (∀ e ∈ (sPark (entries5.drop 2) .idle).park.entries, ¬(sPark (entries5.drop 2) .idle).Eligible e) ∧
      (sSlot (.waiting ent1.key true) true false).park.slot = .waiting ent1.key true ∧
      ∃ s : State, s.park.slot = .waiting ent1.key true ∧ ¬s.NoRestart := by
  refine ⟨?_, ?_, ?_, ⟨{ State.reset with
      catchup := { State.reset.catchup with engine := .reading copy57 false, queue := [⟨40, .fill⟩, ⟨1,
        .fill⟩] } },
      nofun, rfl, by decide +kernel⟩, nofun, ?_, rfl,
    { sSlot (.waiting ent1.key true) false false with
      link := { State.reset.link with waiting := some (.restart 0) } }, rfl, fun h => h 0 rfl⟩
  · intro stale queued
    refine ⟨rfl, nofun, rfl, ⟨Or.inl ?_, ?_⟩, ?_, ?_, ?_, notHeld rfl⟩
    all_goals first
      | (cases stale <;> cases queued <;> decide +kernel)
      | (simp only [State.EntryInRange]; cases stale <;> cases queued <;> decide +kernel)
  · simp only [ParkQueue.Sound]
    decide +kernel
  · exact ⟨_, _, rfl, rfl, rfl, rfl, rfl, hits_of (by decide +kernel)⟩
  · simp only [State.Eligible]
    decide +kernel

/-- Region 7's word 1 in flight: retried or not, merged into since its issue or not, in OPEN or PENDING. -/
def sAnswer (p : Phase) (retried changed : Bool) : State :=
  let s := sPark ({ ent1 with changed := changed } :: entries5.drop 2) (.writing ent1.key retried)
  let g := reg (conf 0x50000000 1 1) p .live .draft .free 20 20 0 0
  let s := withReg s 7 { g with run := { g.run with inFlight := 1, dirtyLines := 1 } }
  let s := withLine s 1 false false true true false false
  { s with bus := { s.bus with port := txn .drain .write 0x50004004 1 } }

theorem witness_DrainAnswered :
    (∀ retried changed : Bool,
      let s := sAnswer .opened retried changed
      let e := { ent1 with changed := changed }
      s.park.slot = .writing e.key retried ∧ s.link.waiting = none ∧ s.NoViewWaits ∧
        s.park.Sound ∧ e ∈ s.park.entries ∧
        s.Eligible e ∧
        s.InFlight .drain .write 1 ∧ (∀ x ∈ s.park.entries, x.key ≠ e.key → ¬s.Eligible x) ∧
        (∀ timer k, s.progress ≠ some (.waitPark timer k)) ∧ s.EntryInRange e ∧
        (s.line (s.lineOfEntry e)).dirty = true ∧
        (s.line (s.lineOfEntry e)).stale.get (s.run 7).draftBank = false ∧ ¬s.HeldForRead e ∧
        1 ≤ (s.run 7).inFlight ∧ s.AreasLaw ∧
          s.FailsBy (.memoryAnswer .error) .drain false { s.bus with port := .idle }) ∧
      (let s := sAnswer .pending false false
      let done : State :=
        { s with
          park := ⟨s.park.entries.filter fun x => x.key ≠ ent1.key, .idle⟩
          regions := s.writeCounted (.draftWrite 7) }
      s.phase 7 = .pending ∧ s.Eligible ent1 ∧ done.DraftComplete 7 ∧ done.BankAvailable 7) ∧
      ∀ p ∈ [Phase.faulted, .retiring], ∃ s : State, s.park.slot = .writing ent1.key true ∧ s.phase 7 = p ∧
        s.park.entries = [] ∧ s.InFlight .drain .write 1 ∧ s.catchup.Taken ∧
        (s.config 7).lineBase + (s.config 7).lines ≤ 2048 := by
  refine ⟨?_, ⟨by decide +kernel, ?_, ?_, Or.inl (not_viewOn (by decide +kernel))⟩,
    fun p hp => ⟨{ sAnswer p true false with park := ⟨[], .writing ent1.key true⟩ }, rfl,
      by fin_cases hp <;> decide +kernel, rfl, ⟨_, _, rfl, rfl, rfl⟩, Or.inr rfl,
      by fin_cases hp <;> decide +kernel⟩⟩
  · intro retried changed
    refine ⟨rfl, rfl, noViewWaits_noHead rfl, ?_, ?_, ⟨Or.inl ?_, ?_⟩, ⟨_, _, rfl, rfl, rfl⟩, ?_, nofun,
      ?_, ?_, ?_, notHeld rfl, ?_,
      areasLaw_of ?_ ?_, ⟨_, _, rfl, Or.inl ⟨rfl, rfl, rfl⟩⟩⟩
    all_goals first
      | (simp only [ParkQueue.Sound]; cases retried <;> cases changed <;> decide +kernel)
      | (simp only [State.Eligible]; cases retried <;> cases changed <;> decide +kernel)
      | (simp only [State.EntryInRange]; cases retried <;> cases changed <;> decide +kernel)
      | (cases retried <;> cases changed <;> decide +kernel)
  · simp only [State.Eligible]
    decide +kernel
  · simp only [State.DraftComplete]
    decide +kernel

/-- A drain write answered in PENDING with a write more in flight; and the last one, with no bank available. -/
theorem witness_DrainAnsweredPending :
    ∀ n ∈ [1, 2],
      let s0 := sAnswer .pending false false
      let s1 := withReg s0 7
        { s0.region 7 with run := { s0.run 7 with inFlight := n, roles := ⟨.live, .draft, .held⟩ } }
      let s : State :=
        { s1 with views := State.reset.views.set 0 (some ⟨5, 7, .bankA, 20, 5, 20, false, false⟩) }
      let ends : State :=
        { s with
          park := ⟨s.park.entries.filter fun x => x.key ≠ ent1.key, .idle⟩
          regions := s.writeCounted (.draftWrite 7) }
      s.InFlight .drain .write 1 ∧ s.phase 7 = .pending ∧ s.Eligible ent1 ∧
        (∀ x ∈ s.park.entries, x.key ≠ ent1.key → ¬s.Eligible x) ∧
        (ends.DraftComplete 7 ↔ n = 1) ∧ ¬ends.BankAvailable 7 := by
  intro n hn
  refine ⟨⟨_, _, rfl, rfl, rfl⟩, ?_, ⟨Or.inr ?_, ?_⟩, ?_, ?_,
    not_bankAvailable ⟨0, _, rfl, rfl, ?_⟩ ?_⟩
  all_goals first
    | (fin_cases hn <;> decide +kernel)
    | (simp only [State.Eligible]; fin_cases hn <;> decide +kernel)
    | (simp only [State.DraftComplete]; fin_cases hn <;> decide +kernel)

/-! ### Witnesses of the retirement, the triggers, the time base and the resets -/

/-- Region 8 of 07 in step 2: RETIRING and WINDING, with no busy line, the stale sets of its table, and the engine
idle. -/
def sFold : State :=
  let g := s7.region 8
  let s := withReg s7 8
    { g with
      run := { g.run with phase := .retiring, roles := ⟨.draft, .free, .live⟩ }
      life := { g.life with stage := .winding } }
  let s := withLine s 201 true true false false false false
  { s with catchup := { s.catchup with queue := [], engine := .idle } }

/-- The same with bank A LIVE: nothing is to be folded. -/
def sNoFold : State :=
  withReg sFold 8 { sFold.region 8 with run := { sFold.run 8 with roles := ⟨.live, .draft, .free⟩ } }

/-- The same with nothing outstanding in FOLDING. -/
def sFolded : State := withReg sFold 8 { sFold.region 8 with life := ⟨.none, 0, .folding, 0, 2, 1⟩ }

theorem witness_RetirementEnds :
    (∀ s ∈ [sFold, sNoFold],
      (s.config 8).lineBase + (s.config 8).lines ≤ 2048 ∧ s.phase 8 = .retiring ∧
        (s.region 8).life.stage = .winding ∧
        (s.run 8).inFlight = 0 ∧ ∀ n : Nat, n < 4 → (s.line (200 + n)).busy = false) ∧
      ((sFold.run 8).liveBank ≠ .bankA ∧ (sFold.line 201).stale.a = true) ∧
      ((sNoFold.run 8).liveBank = .bankA ∧ sNoFold.catchup.queue = []) ∧ s7.phase 8 ≠ .retiring ∧
      ((sFolded.region 8).life.stage = .folding ∧ (sFolded.region 8).life.foldsOutstanding = 0) ∧
      (sFold.region 8).life.stage ≠ .folding := by
  refine ⟨?_, by decide +kernel, by decide +kernel, by decide +kernel, by decide +kernel, by decide +kernel⟩
  intro s hs
  fin_cases hs <;> decide +kernel

/-- Step 6 of 02: PENDING, with the LIVE bank viewed and the third FREE; the same with the follow-on flag set and no
word parked, and with a word parked for the draft after it; and region 2 of 04, where no view is. -/
theorem witness_PublicationEvent :
    (sRoles.phase 0 = .pending ∧ sRoles.DraftComplete 0 ∧ sRoles.BankAvailable 0 ∧
      (sRoles.run 0).RolesSound ∧
        (sRoles.config 0).lineBase + (sRoles.config 0).lines ≤ 2048 ∧
          sRoles.ViewOn 0 (sRoles.run 0).liveBank ∧
        sRoles.DrainSettled ∧ ∀ e ∈ sRoles.park.entries, e.region ≠ 0) ∧
      (∃ s : State, (s.run 0).followOn = true ∧ s.phase 0 = .pending ∧ (s.run 0).RolesSound ∧
        ∃ e ∈ s.park.entries, e.region = 0 ∧ e.frameTag = (s.run 0).frame + 2) ∧
      (∃ s : State, s.phase 2 = .pending ∧ s.DraftComplete 2 ∧ ¬s.ViewOn 2 (s.run 2).liveBank ∧
        (s.run 2).RolesSound) ∧
      s3.phase 3 ≠ .pending ∧ ¬s2.DraftComplete 2 ∧ ¬sUseHeld.BankAvailable 0 := by
  refine ⟨⟨by decide +kernel, ?_, Or.inr (by decide +kernel), ?_, by decide +kernel,
      ⟨0, _, rfl, by decide, by decide +kernel⟩, drainSettled_idle rfl nofun, nofun⟩,
    ⟨{ withReg sRoles 0 { sRoles.region 0 with run := { sRoles.run 0 with followOn := true } } with
        park := ⟨[ent 0 0 3], .idle⟩ }, by decide +kernel, by decide +kernel, ?_, ent 0 0 3, by decide,
          by decide,
      by decide +kernel⟩,
    ⟨withReg s2 2 { s2.region 2 with run := { s2.run 2 with inFlight := 0 } }, by decide +kernel, ?_,
      not_viewOn (by decide +kernel), ?_⟩, by decide +kernel, ?_, ?_⟩
  · simp only [State.DraftComplete]; decide +kernel
  · simp only [Runtime.RolesSound]; decide +kernel
  · simp only [Runtime.RolesSound]; decide +kernel
  · simp only [State.DraftComplete]; decide +kernel
  · simp only [Runtime.RolesSound]; decide +kernel
  · simp only [State.DraftComplete]; decide +kernel
  · rintro (h | h)
    · exact h ⟨0, _, rfl, by decide, by decide +kernel⟩
    · exact absurd h (by decide +kernel)

/-- The regions of 06 at the edge of step 2, one of them with an EMPTY draft, and at the timer of step 3. -/
def sEdge : State :=
  { sStrobe with strobes := { sStrobe.strobes with lines := Vector.replicate 4 ⟨false, true, 17, true⟩ } }

/-- Region 2 of `sEdge` with its timer at 0 as well and a draft that is not EMPTY: with a draft write in flight or
none, and with its LIVE and its third bank viewed or neither. -/
def sEdgeIn (inFlight : Nat) (held : Bool) : State :=
  let g := sEdge.region 2
  let s := withReg sEdge 2
    { g with
      timer := ⟨true, 0⟩
      run := { g.run with inFlight := inFlight, roles := ⟨.live, .draft, if held then .held else .free⟩ } }
  let view (b : Bank) (n : Word) : Option View :=
    if held then some ⟨if b = .bankA then 5 else 9, 2, b, n, 5, 20, false, false⟩ else none
  { s with views := (State.reset.views.set 0 (view .bankA 30)).set 1 (view .bankC 0) }

/-- The draft is not complete; complete with no bank available; complete with one. -/
theorem witness_TriggersTakenOpen :
    (∀ x ∈ [(1, false), (0, true), (0, false)],
      (sEdgeIn x.1 x.2).AreasLaw ∧ ((sEdgeIn x.1 x.2).strobes.lines.get 1).due = true ∧
        ((sEdgeIn x.1 x.2).config 2).Selects 1 true ∧
        ((sEdgeIn x.1 x.2).region 2).timer = ⟨true, 0⟩ ∧ (sEdgeIn x.1 x.2).phase 2 = .opened ∧
        ¬(sEdgeIn x.1 x.2).DraftEmpty 2) ∧
      ¬(sEdgeIn 1 false).DraftComplete 2 ∧
      ((sEdgeIn 0 true).DraftComplete 2 ∧ ¬(sEdgeIn 0 true).BankAvailable 2) ∧
      (sEdgeIn 0 false).DraftComplete 2 ∧ (sEdgeIn 0 false).BankAvailable 2 := by
  refine ⟨?_, ?_, ⟨?_, ?_⟩, ?_, Or.inl (not_viewOn (by decide +kernel))⟩
  · rintro ⟨n, held⟩ hx
    refine ⟨areasLaw_of ?_ ?_, ?_, ⟨.rise, ?_, by decide⟩, ?_, ?_, ?_⟩
    all_goals
      simp only [State.DraftEmpty]
      fin_cases hx <;> decide +kernel
  · simp only [State.DraftComplete]; decide +kernel
  · simp only [State.DraftComplete]; decide +kernel
  · rintro (h | h)
    · exact h ⟨0, _, rfl, by decide, by decide +kernel⟩
    · exact absurd h (by decide +kernel)
  · simp only [State.DraftComplete]; decide +kernel

theorem witness_TriggersTaken :
    ((State.reset.strobes.lines.get 1).due = false ∧ (sEdge.strobes.lines.get 1).due = true) ∧
      ((sEdge.config 2).Selects 1 true ∧ sEdge.phase 2 = .opened ∧ ¬sEdge.DraftEmpty 2) ∧
      ((sEdge.config 5).Selects 1 true ∧ sEdge.phase 5 = .pending ∧ (sEdge.run 5).followOn = false) ∧
      ¬(sEdge.config 9).Selects 1 true ∧
      ((sEdge.config 9).Selects 1 false ∧ sEdge.DraftEmpty 9 ∧ sEdge.phase 9 = .opened) ∧
        sEdge.phase 11 = .faulted ∧
      (∀ p ∈ [Phase.opened, .pending], ∀ followOn : Bool, ∃ s : State,
        (s.region 5).timer = ⟨true, 0⟩ ∧ s.phase 5 = p ∧ (s.run 5).followOn = followOn ∧ ¬s.DraftEmpty 5 ∧
          ¬s.DraftComplete 5) ∧
      (∃ s : State, (s.region 9).timer = ⟨true, 0⟩ ∧ s.phase 9 = .opened ∧ s.DraftEmpty 9) ∧
      (sEdge.region 5).timer.remaining ≠ 0 ∧ (sEdge.region 2).timer.running = false := by
  refine ⟨by decide +kernel, ⟨⟨.rise, by decide +kernel, by decide⟩, by decide +kernel, ?_⟩,
    ⟨⟨.both, by decide +kernel, by decide⟩, by decide +kernel, by decide +kernel⟩, ?_,
    ⟨⟨.fall, by decide +kernel, by decide⟩, ?_, by decide +kernel⟩, by decide +kernel, ?_, ?_,
      by decide +kernel,
    by decide +kernel⟩
  · simp only [State.DraftEmpty]; decide +kernel
  · rintro ⟨e, he, h⟩
    have h9 : (sEdge.config 9).trigStrobe = some (1, .fall) := by decide +kernel
    rw [h9] at he
    cases he
    revert h
    decide
  · simp only [State.DraftEmpty]; decide +kernel
  · intro p hp followOn
    refine ⟨withReg sStrobe 5
      { sStrobe.region 5 with timer := ⟨true, 0⟩, run := { sStrobe.run 5 with phase := p, followOn :=
        followOn } }, ?_⟩
    simp only [State.DraftEmpty, State.DraftComplete]
    fin_cases hp <;> cases followOn <;> decide +kernel
  · refine ⟨withReg sStrobe 9 { sStrobe.region 9 with timer := ⟨true, 0⟩ }, ?_⟩
    simp only [State.DraftEmpty]
    decide +kernel

/-- No tick due; and one due with a head in WAIT_PARK and a transaction in flight. -/
theorem witness_TickTaken :
    State.reset.clock.tickDue = false ∧
      ∃ s : State, s.clock.tickDue = true ∧ (∃ timer k d, s.host.head = some ⟨.waitPark timer k, d⟩) ∧
        ∃ x timer, s.bus.port = .inFlight x timer :=
  ⟨rfl,
    { sWait entries5 0 with
      clock := { State.reset.clock with tickDue := true }
      bus := { State.reset.bus with port := txn .drain .write 0 1 } }, rfl, ⟨_, _, _, rfl⟩, _, _, rfl⟩

/-- The strobe lines of 06 before the 17th sample: a sample high and one low; a line not sampled yet; a
synchroniser that is filling; an instant with a view due. -/
theorem witness_StrobeSampled :
    sStrobe.Settled ∧ (sStrobe.strobes.sync = [Vector.replicate 4 true, Vector.replicate 4 true] ∧
        (sStrobe.strobes.lines.get 1).sampled = true ∧
          (Vector.replicate 4 true).get (1 : Fin 4) ≠ (sStrobe.strobes.lines.get 1).level) ∧
      (∃ s : State, s.Settled ∧ s.strobes.sync = [Vector.replicate 4 false, Vector.replicate 4 true] ∧
        (s.strobes.lines.get 1).sampled = true ∧
          (Vector.replicate 4 false).get (1 : Fin 4) = (s.strobes.lines.get 1).level) ∧
      (State.reset.Settled ∧ (State.reset.strobes.lines.get 1).sampled = false ∧
        State.reset.strobes.sync.length < 2) ∧
      (∃ s : State, s.Settled ∧ s.strobes.sync.length = 2 ∧ (s.strobes.lines.get 1).sampled = false) ∧
      ¬(s6 0 13).Settled ∧
      ∃ s : State, s.Settled ∧ s.clock.prescaler = 99 ∧ ¬s.clock.prescaler + 1 < s.clock.timing.tickDiv := by
  have hs : sStrobe.Settled :=
    ⟨by decide +kernel, by decide +kernel, fun k v h => (nomatch (view_none (s :=
      sStrobe) rfl).symm.trans h),
      by decide +kernel, nofun, nofun⟩
  refine ⟨hs, ⟨rfl, by decide +kernel, by decide +kernel⟩,
    ⟨{ sStrobe with
        strobes := { sStrobe.strobes with sync := [Vector.replicate 4 false,
          Vector.replicate 4 true] } }, hs, rfl,
      by decide +kernel, by decide +kernel⟩,
    ⟨⟨by decide +kernel, by decide +kernel, fun k v h => (nomatch (view_none (s :=
      State.reset) rfl).symm.trans h),
        by decide +kernel, nofun, nofun⟩, by decide +kernel, by decide +kernel⟩,
    ⟨{ sStrobe with strobes := ⟨Vector.replicate 4 .powerOn, sStrobe.strobes.sync⟩ },
      ⟨by decide +kernel, by decide +kernel, fun k v h => (nomatch (view_none (s :=
        sStrobe) rfl).symm.trans h),
        by decide +kernel, nofun, nofun⟩, by decide +kernel, by decide +kernel⟩, ?_,
    { sStrobe with clock := { sStrobe.clock with prescaler := 99 } }, hs, rfl, by decide +kernel⟩
  intro h
  exact (h.2.2.1 31 ⟨5, 6, .bankA, 4, 0, 13, false, false⟩ (by decide +kernel) rfl).1 rfl

/-- Region 0 PENDING on (d) alone, with a view on its LIVE bank A and one on its HELD bank C; the view of the bank
given has its idle count at 0. -/
def sDue (b : Bank) : State :=
  let view (n : Bank) (tag : Tag) : Option View :=
    some ⟨tag, 0, n, 0, if n = b then 0 else 5, 20, false, false⟩
  let s := withReg sHeld 0 { sHeld.region 0 with run := { sHeld.run 0 with phase := .pending } }
  { s with views := (State.reset.views.set 0 (view .bankA 5)).set 1 (view .bankC 9) }

theorem witness_ViewsExpiredPending :
    ∀ b ∈ [Bank.bankA, .bankC],
      (sDue b).AreasLaw ∧ (sDue b).phase 0 = .pending ∧ (sDue b).DraftComplete 0 ∧ (sDue b).ViewOn 0 b ∧
        (∀ (k : Slot) (v : View), (sDue b).view k = some v → v.region = 0 → v.bank = b →
          v.inUse = false ∧ (v.idle = 0 ∨ v.age = 0)) ∧
        (b = ((sDue b).run 0).liveBank ∨
          b = ((sDue b).run 0).thirdBank ∧ ((sDue b).run 0).roles.get b = .held) := by
  intro b hb
  refine ⟨areasLaw_of ?_ ?_, ?_, ?_, ?_, ?_, ?_⟩
  · fin_cases hb <;> decide +kernel
  · fin_cases hb <;> decide +kernel
  · fin_cases hb <;> decide +kernel
  · simp only [State.DraftComplete]
    fin_cases hb <;> decide +kernel
  · fin_cases hb
    · exact ⟨0, _, rfl, rfl, rfl⟩
    · exact ⟨1, _, rfl, rfl, rfl⟩
  · have h : ∀ k : Slot, ∀ v ∈ (sDue b).view k,
        v.region = 0 → v.bank = b → v.inUse = false ∧ (v.idle = 0 ∨ v.age = 0) := by
      fin_cases hb <;> decide +kernel
    exact h
  · fin_cases hb <;> decide +kernel

/-- The same with a draft write in flight: the draft is not complete, and the HELD bank C loses its view. -/
theorem witness_ViewsExpiredIncomplete :
    let s := withReg (sDue .bankC) 0
      { (sDue .bankC).region 0 with run := { (sDue .bankC).run 0 with inFlight := 1 } }
    s.AreasLaw ∧ s.phase 0 = .pending ∧ ¬s.DraftComplete 0 ∧ (s.run 0).roles.get .bankC = .held ∧
      s.ViewOn 0 .bankC ∧ ∃ v, s.view 1 = some v ∧ v.bank = .bankC ∧ v.inUse = false ∧ v.idle = 0 := by
  refine ⟨areasLaw_of (by decide +kernel) (by decide +kernel), by decide +kernel, ?_, by decide +kernel,
    ⟨1, _, rfl, rfl, rfl⟩, _, rfl, rfl, rfl, rfl⟩
  simp only [State.DraftComplete]
  decide +kernel

/-- DROP_VIEWS of region 0 as in `witness_ViewsExpiredPending` and `witness_ViewsExpiredIncomplete`: its views are
not in use. -/
theorem witness_ViewsDroppedPending :
    (recv (sDue .bankA)).Receiving ∧ (recv (sDue .bankA)).AreasLaw ∧
      (recv (sDue .bankA)).phase 0 = .pending ∧ (recv (sDue .bankA)).DraftComplete 0 ∧
      (∀ b ∈ [Bank.bankA, .bankC], (recv (sDue .bankA)).ViewOn 0 b) ∧
      (∀ k : Slot, ∀ v ∈ (recv (sDue .bankA)).view k, (0#8).toNat = v.region.val ∧ v.inUse = false) ∧
      ((recv (sDue .bankA)).run 0).liveBank = .bankA ∧ ((recv (sDue .bankA)).run 0).thirdBank = .bankC ∧
      ((recv (sDue .bankA)).run 0).roles.get .bankC = .held := by
  refine ⟨⟨rfl, rfl⟩, areasLaw_of (by decide +kernel) (by decide +kernel), by decide +kernel, ?_, ?_,
    by decide +kernel, by decide +kernel, by decide +kernel, by decide +kernel⟩
  · simp only [State.DraftComplete]; decide +kernel
  · intro b hb
    fin_cases hb
    · exact ⟨0, _, rfl, rfl, rfl⟩
    · exact ⟨1, _, rfl, rfl, rfl⟩

theorem witness_ViewsExpired :
    (∀ (k : Slot) (v : View), State.reset.view k = some v → v.inUse ≠ false) ∧
      ((s6 0 13).view 31 = some ⟨5, 6, .bankA, 4, 0, 13, false, false⟩ ∧ (s6 0 13).phase 6 ≠ .pending ∧
        ((s6 0 13).run 6).roles.get .bankA = .held ∧ (s6 0 13).ViewOn 6 .bankA ∧
        ∀ (j : Slot) (w : View), (s6 0 13).view j = some w → j = 31) ∧
      (∃ v, (s6 5 0).view 31 = some v ∧ v.inUse = false ∧ v.age = 0) ∧ (s6 0 13).view 30 = none :=
  ⟨fun k v h => (nomatch (view_none (s := State.reset) rfl).symm.trans h),
    ⟨by decide +kernel, by decide +kernel, by decide +kernel, ⟨31, _, rfl, rfl, rfl⟩,
      fun j w h => (view_one (s := s6 0 13) (k := 31) rfl h).1⟩, ⟨_, rfl, rfl, rfl⟩, by decide +kernel⟩

/-- A reset with a draft write not granted, with an enable that waits on a head in flight and on one not granted,
and with a view in use; and the end of a dropped head's transaction. -/
theorem witness_HostPortReset :
    (State.reset.DrainSettled ∧ (∀ d, State.reset.decision = some d → d.view = none) ∧
        State.reset.link.waiting = none ∧ State.reset.bus.hostReq = none) ∧
      (∃ s : State, (∃ a, s.bus.hostReq = some ⟨a, .draftWrite 2⟩) ∧ s.DrainSettled ∧ s.phase 2 = .opened ∧
        s.link.waiting = none ∧ ∃ d, s.decision = some d ∧ d.view = none) ∧
      (sEnableWaits.link.waiting = some (.enable 3 0x21 false) ∧ sEnableWaits.DrainSettled ∧
        (∃ p a timer, sEnableWaits.bus.port = .inFlight ⟨.host p false, a⟩ timer) ∧
          sEnableWaits.bus.hostReq = none) ∧
      (sEnableFree.link.waiting = some (.enable 3 0x21 false) ∧ sEnableFree.AreasLaw ∧
        sEnableFree.EntriesLaw ∧ sEnableFree.WaitsLaw ∧ sEnableFree.DrainSettled ∧
        ∃ s : State, s.bus.port = .idle ∧ s.host = sEnableWaits.host ∧ s.link = sEnableWaits.link ∧
          s.EntriesLaw) ∧
      (∃ d v, (sUse ⟨5, 3, .bankB, 16, 0, 20, true, false⟩ false).decision = some d ∧ d.view = some 0 ∧
        (sUse ⟨5, 3, .bankB, 16, 0, 20, true, false⟩ false).view 0 = some v ∧ v.inUse = true ∧ v.idle = 0) ∧
      ((∃ d : Decision, sHeldDrain.decision = some d ∧ d.view = none) ∧ sHeldDrain.link.waiting = none ∧
        sHeldDrain.bus.hostReq = none ∧ sHeldDrain.park.slot = .waiting ent1.key true) ∧
      (∃ s : State, s.InFlight (.host (.draftWrite 2) true) .write 2 ∧ s.DrainSettled ∧
        s.phase 2 = .opened ∧
        s.link.waiting = none) ∧
      ∃ s : State, s.InFlight (.host .pass true) .write 1 ∧ s.DrainSettled ∧
        s.link.waiting = some (.enable 3 0x21 true) ∧ s.EntriesLaw ∧ s.host.head = none := by
  refine ⟨⟨drainSettled_idle rfl nofun, fun d h => (nomatch h), rfl, rfl⟩,
    ⟨{ s8q2 with bus := { s8q2.bus with port := .expired, hostReq := some ⟨⟨.write, 0, 2, 2, []⟩,
      .draftWrite 2⟩ } },
      ⟨_, rfl⟩, drainSettled_idle rfl nofun, by decide +kernel, rfl, _, rfl, rfl⟩,
    ⟨rfl, drainSettled_idle rfl nofun, ⟨_, _, _, rfl⟩, rfl⟩,
    ⟨rfl, areasLaw_of (by decide +kernel) (by decide +kernel), entriesLaw_enable rfl rfl,
      waitsLaw_of (Or.inr rfl) nofun nofun nofun nofun, drainSettled_idle rfl nofun,
      { sEnableWaits with bus := { sEnableWaits.bus with port := .idle } }, rfl, rfl, rfl,
        entriesLaw_enable rfl rfl⟩,
    ⟨_, _, rfl, rfl, rfl, rfl, rfl⟩, ⟨⟨_, rfl, rfl⟩, rfl, rfl, rfl⟩,
    ⟨{ s8q2 with
        host := ⟨[], none, true, 6⟩
        bus := { s8q2.bus with port := txn (.host (.draftWrite 2) true) .write 0x40000040 2 } },
      ⟨_, _, rfl, rfl, rfl⟩, drainSettled_idle rfl nofun, by decide +kernel, rfl⟩,
    sEnableOrphan, ⟨_, _, rfl, rfl, rfl⟩, drainSettled_idle rfl nofun, rfl, entriesLaw_enable rfl rfl,
    rfl⟩

/-- A draft write that is not granted, of the head of region 0. -/
def sUngranted (p : Phase) (n : Nat) (held : Bool) : State :=
  let s := sWrites p n held false
  { s with bus := { s.bus with port := .expired, hostReq := some ⟨⟨.write, 0x40004000, 1, 2, []⟩, .draftWrite 0⟩ } }

/-- In PENDING a draft that stays incomplete, one that is complete with no bank available, and one that publishes;
and RETIRING. -/
def writeCases : List (Phase × Nat × Bool) :=
  [(.pending, 2, true), (.pending, 1, true), (.pending, 1, false), (.retiring, 1, false)]

/-- A draft write that the reset withdraws, in each of the cases. -/
theorem witness_HostPortResetWithdraws :
    ∀ x ∈ writeCases,
      let s := sUngranted x.1 x.2.1 x.2.2
      s.DrainSettled ∧ (∃ d, s.decision = some d ∧ d.view = none) ∧ s.link.waiting = none ∧
        (∃ a, s.bus.hostReq = some ⟨a, .draftWrite 0⟩) ∧ s.phase 0 = x.1 ∧ s.catchup.Taken ∧
        s.AreasLaw ∧ s.WaitsLaw := by
  intro x hx
  fin_cases hx <;>
    exact ⟨drainSettled_idle (by decide +kernel) (by decide +kernel), ⟨_, rfl, rfl⟩, by decide +kernel,
      ⟨_, rfl⟩, by decide +kernel, Or.inr (by decide +kernel),
      areasLaw_of (by decide +kernel) (by decide +kernel),
      waitsLaw_of (Or.inl (by decide +kernel)) nofun nofun
        (fun e he => absurd he (by decide +kernel +revert)) nofun⟩

/-- A draft write that a dropped head left behind, in each of the cases, ended by an OKAY answer, by an ERROR
answer and by its timer. -/
theorem witness_HostPortResetOrphan :
    (∀ x ∈ writeCases,
      let s := sWrites x.1 x.2.1 x.2.2 true
      s.OrphanEnds (.memoryAnswer (.okay [])) (.draftWrite 0) { s.bus with port := .idle } ∧
        s.OrphanEnds (.memoryAnswer .error) (.draftWrite 0) { s.bus with port := .idle } ∧
        s.DrainSettled ∧ s.link.waiting = none ∧ s.phase 0 = x.1 ∧ s.catchup.Taken ∧ s.AreasLaw ∧
        s.WaitsLaw) ∧
      ∃ (s : State) (bus : MemoryBus), s.OrphanEnds .memoryTimeout (.draftWrite 0) bus := by
  refine ⟨fun x hx => ?_,
    { sWrites .pending 1 true true with
      bus := { (sWrites .pending 1 true true).bus with
        port := .inFlight ⟨.host (.draftWrite 0) true, ⟨.write, 0x40004000, 1, 2, []⟩⟩ 0 } }, _,
    Or.inr (Or.inr ⟨_, _, rfl, Or.inr ⟨rfl, rfl, rfl, rfl⟩⟩)⟩
  fin_cases hx <;>
    exact ⟨Or.inl ⟨[], rfl, by decide, rfl, Or.inr ⟨rfl, 1, _, _, rfl, rfl, rfl⟩⟩,
      Or.inr (Or.inl ⟨_, _, rfl, Or.inl ⟨rfl, rfl, rfl⟩⟩),
      drainSettled_idle (by decide +kernel) (by decide +kernel), by decide +kernel, by decide +kernel,
      Or.inr (by decide +kernel), areasLaw_of (by decide +kernel) (by decide +kernel),
      waitsLaw_of (Or.inl (by decide +kernel)) nofun nofun
        (fun e he => absurd he (by decide +kernel +revert)) nofun⟩

/-- Where the conditions of the cases stand once the write counts as done. -/
theorem witness_HostPortResetCases :
    (∀ x ∈ writeCases, ∀ s ∈ [sUngranted x.1 x.2.1 x.2.2, sWrites x.1 x.2.1 x.2.2 true],
      (({ s with regions := s.writeCounted (.draftWrite 0) } : State).DraftComplete 0 ↔ x.2.1 = 1)) ∧
      (∀ s ∈ [sUngranted .pending 1 true, sWrites .pending 1 true true], ¬s.BankAvailable 0) ∧
      (∀ s ∈ [sUngranted .pending 1 false, sWrites .pending 1 false true], s.BankAvailable 0) ∧
      ∀ s ∈ [sUngranted .retiring 1 false, sWrites .retiring 1 false true],
        ({ s with regions := s.writeCounted (.draftWrite 0) } : State).FoldReady 0 := by
  refine ⟨fun x hx s hs => ?_, fun s hs => ?_, fun s hs => ?_, fun s hs => ?_⟩
  · simp only [State.DraftComplete]
    fin_cases hx <;> fin_cases hs <;> decide +kernel
  · fin_cases hs <;> exact not_bankAvailable ⟨0, _, rfl, rfl, by decide +kernel⟩ (by decide +kernel)
  · fin_cases hs <;> exact Or.inl (not_viewOn (by decide +kernel))
  · have h : ∀ ix, s.line ix = sFull.line ix := by fin_cases hs <;> exact fun _ => rfl
    refine ⟨?_, ?_, ?_, fun ix hi => ?_⟩
    · fin_cases hs <;> decide +kernel
    · fin_cases hs <;> decide +kernel
    · fin_cases hs <;> decide +kernel
    · have hb : ∀ ix : Nat, ix < 4 → (sFull.line ix).busy = false := by decide +kernel
      refine (congrArg _ (h ix)).trans (hb ix ?_)
      have hc : (sFull.config 0).ownsLine ix = true := by fin_cases hs <;> exact hi
      have hl : (sFull.config 0).lineBase = 0 ∧ (sFull.config 0).lines = 4 := by decide +kernel
      simp [RegionConfig.ownsLine, hl] at hc
      omega

theorem witness_StopsByName :
    (rd 0 0 1).wf = false ∧ 16 < (List.replicate 17 (0 : Word)).length ∧
      (s2c.InFlight .catchup .write 16 ∧ [(0 : Word)] ≠ []) ∧
      (∃ s : State, s.InFlight .catchup .read 16 ∧ (List.replicate 15 (0 : Word)).length ≠ 16) ∧
      (commandFrameWf [0x01, 0x05, 0x00, 0x2A] = true ∧
        decodeFrame [0x01, 0x05, 0x00, 0x2A] = .ok (.ident 5)) ∧
      ((Instr.ident 5).linkParts.isSome = true ∧ State.reset.grantable = false ∧
        State.reset.link.discarding = false ∧ State.reset.link.state ≠ .receiving) ∧
      ∃ s : State, s.grantable = false ∧ s.link.discarding = true :=
  ⟨by decide, by decide, ⟨⟨_, _, rfl, rfl, rfl⟩, by decide⟩,
    ⟨{ State.reset with bus := { State.reset.bus with port := txn .catchup .read 0 16 } }, ⟨_, _, rfl,
      rfl, rfl⟩,
      by decide⟩, by decide +kernel, ⟨rfl, by decide +kernel, rfl, by decide⟩,
    { State.reset with link := ⟨.idle, none, 0, true, none, .zeros, []⟩ }, by decide +kernel, rfl⟩

end Sys2Proof.Tests
end

