-- ==== Sys2Proof/Proofs/HeadDecision.lean ====
section
/-! SUPPORT. The decision of a new head: the state in which it is decided, the region that holds it, the class
of R11, and that the record of its class stays as the head is sent on (R8 to R11, R141). -/

namespace Sys2Proof.Machine

/-! ### A new head is decided (R141, R142) -/

/-- The part with `q` as new head, in DECIDE, and `rest` behind it. -/
def State.withNewHead (s : State) (q : HostRequest) (rest : List HostRequest) : State :=
  s.setHost (s.hostWith q rest ⟨.decide, none⟩)

@[simp] theorem State.withNewHead_host (s : State) (q : HostRequest) (rest : List HostRequest) :
    (s.withNewHead q rest).host = s.hostWith q rest ⟨.decide, none⟩ := rfl

@[simp] theorem State.withNewHead_link (s : State) (q : HostRequest) (rest : List HostRequest) :
    (s.withNewHead q rest).link = s.link := rfl

@[simp] theorem State.withNewHead_config (s : State) (q : HostRequest) (rest : List HostRequest)
    (r : RegionIx) : (s.withNewHead q rest).config r = s.config r := rfl

@[simp] theorem State.withNewHead_phase (s : State) (q : HostRequest) (rest : List HostRequest)
    (r : RegionIx) : (s.withNewHead q rest).phase r = s.phase r := rfl

/-- A request accepted into an empty queue stands alone in it, in DECIDE (R139). -/
theorem State.setHost_join_of_empty {s : State} (q : HostRequest) (h : s.host.queue = []) :
    s.setHost (s.host.join q) = s.withNewHead q [] := by
  simp [State.withNewHead, State.hostWith, HostPort.join, h]

/-- Once the request before it has left, a request is the head, in DECIDE (R149). -/
theorem State.setHost_next_of_queue {s : State} {gone q : HostRequest} {rest : List HostRequest}
    (h : s.host.queue = gone :: q :: rest) : s.setHost s.host.next = s.withNewHead q rest := by
  simp [State.withNewHead, State.hostWith, HostPort.next, h]

theorem exec_hostRequestAccepted (q : HostRequest) (s : State) :
    exec (.hostRequestAccepted q) s = execHostRequestAccepted q s := rfl

theorem exec_hostResponseTaken (s : State) : exec .hostResponseTaken s = execHostResponseTaken s := rfl

/-- The command by which a request becomes head decides it and ends with the grant. -/
theorem exec_of_headArrives {c : Instr} {s : State} {q : HostRequest} {rest : List HostRequest}
    (h : HeadArrives c s q rest) : exec c s = .next (s.withNewHead q rest).decideHead.grantNext := by
  obtain ⟨rfl, hwf, hreset, hempty, rfl⟩ | ⟨rfl, ⟨resp, hresp⟩, gone, hqueue⟩ := h
  · have haccepts : s.host.accepts = true := by
      simp [HostPort.accepts, hreset, hempty, Config.hostQueueCapacity]
    simp [exec_hostRequestAccepted, execHostRequestAccepted, hwf, haccepts, hempty,
      State.setHost_join_of_empty]
  · simp [exec_hostResponseTaken, execHostResponseTaken, hresp, State.setHost_next_of_queue hqueue]

theorem not_spansLines {q : HostRequest} (h : inLine q) : spansLines q = false := by
  rw [spansLines, decide_eq_false_iff_not, not_lt]
  exact h

/-- A new head within one line is classified and sent on where no command holds decisions back. -/
theorem State.decideHead_withNewHead {s : State} {q : HostRequest} (rest : List HostRequest)
    (hwaiting : s.link.waiting = none) (hline : inLine q) :
    (s.withNewHead q rest).decideHead = (s.withNewHead q rest).sendOn q := by
  simp [State.decideHead, State.headRequest, State.hostWith, State.decisionsHeld, hwaiting,
    not_spansLines hline]

/-! ### The region of an address (R9) -/

theorem State.inWindow.inBankA {s : State} {q : HostRequest} {r : RegionIx} (h : s.inWindow q r) :
    (s.config r).inBank .bankA (byteAddr q) = true := by
  obtain ⟨-, hlow, hhigh⟩ := h
  simp [RegionConfig.inBank, RegionConfig.bankBase, RegionConfig.size, byteAddr, hlow, hhigh]

theorem RegionConfig.inAreas_iff (c : RegionConfig) (addr : Nat) :
    c.inAreas addr = true ↔ ∃ b, c.inBank b addr = true := by
  constructor
  · intro h
    simp only [RegionConfig.inAreas, Bool.or_eq_true] at h
    obtain (h | h) | h := h
    exacts [⟨_, h⟩, ⟨_, h⟩, ⟨_, h⟩]
  · rintro ⟨b, h⟩
    cases b <;> simp [RegionConfig.inAreas, h]

theorem mem_banks (b : Bank) : b ∈ banks := by cases b <;> decide

/-- Two areas that hold one address overlap. -/
theorem bankOverlap_of_inBank {c d : RegionConfig} {b e : Bank} {addr : Nat}
    (hb : c.inBank b addr = true) (he : d.inBank e addr = true) : bankOverlap c d b e = true := by
  simp only [RegionConfig.inBank, Bool.and_eq_true, decide_eq_true_eq] at hb he
  simp only [bankOverlap, overlaps, Bool.and_eq_true, decide_eq_true_eq]
  omega

/-- Two regions with an address in common are in conflict (R121). -/
theorem configsOverlap_of_inAreas {c d : RegionConfig} {addr : Nat} (hc : c.inAreas addr = true)
    (hd : d.inAreas addr = true) : configsOverlap c d = true := by
  obtain ⟨b, hb⟩ := (c.inAreas_iff addr).mp hc
  obtain ⟨e, he⟩ := (d.inAreas_iff addr).mp hd
  have hany : (banks.any fun b => banks.any fun e => bankOverlap c d b e) = true :=
    List.any_eq_true.mpr ⟨b, mem_banks b,
      List.any_eq_true.mpr ⟨e, mem_banks e, bankOverlap_of_inBank hb he⟩⟩
  simp [configsOverlap, hany]

theorem mem_regionIxs (r : RegionIx) : r ∈ regionIxs := by revert r; decide

/-- An active region that holds an address is the one the directory finds (R9, R121). -/
theorem State.regionAt_eq_some {s : State} {addr : Nat} {r : RegionIx} (hareas : s.AreasLaw)
    (hactive : (s.phase r).active = true) (hin : (s.config r).inAreas addr = true) :
    s.regionAt addr = some r := by
  cases hfound : s.regionAt addr with
  | none =>
    have hnone := List.find?_eq_none.mp hfound r (mem_regionIxs r)
    simp [hactive, hin] at hnone
  | some j =>
    have hj := List.find?_some hfound
    rw [Bool.and_eq_true] at hj
    obtain ⟨hjactive, hjin⟩ := hj
    by_contra hne
    obtain ⟨-, hdisjoint⟩ := hareas
    have hclear := hdisjoint r j (fun h => hne (h ▸ rfl)) hactive hjactive
    rw [configsOverlap_of_inAreas hin hjin] at hclear
    cases hclear

/-! ### The class of a window request (R11) -/

theorem RegionConfig.includesOpt_iff_hits (c : RegionConfig) (q : HostRequest) (word : Option Nat) :
    c.includesOpt q word = true ↔ c.hits q word := by
  cases word with
  | none => simp [RegionConfig.includesOpt, RegionConfig.hits]
  | some w =>
    have hfirst : c.offset q / 4 = c.firstWord q := rfl
    simp [RegionConfig.includesOpt, RegionConfig.hits, RegionConfig.includes, hfirst]

@[simp] theorem RegionConfig.isWriter_iff (c : RegionConfig) (t : Tag) :
    c.isWriter t = true ↔ t = c.writerTag := by
  simp [RegionConfig.isWriter]

/-- The phases of an active region (R26). -/
theorem Phase.active_iff (p : Phase) : p.active = true ↔ p = .retiring ∨ p.Viewable := by
  cases p <;> simp [Phase.active, Phase.Viewable]

theorem Phase.Viewable.ne_retiring {p : Phase} (h : p.Viewable) : p ≠ .retiring := by
  rintro rfl
  simp [Phase.Viewable] at h

theorem Phase.Viewable.working_of_ne_faulted {p : Phase} (h : p.Viewable) (hfault : p ≠ .faulted) :
    p = .opened ∨ p = .pending := by
  obtain h | h | h := h
  exacts [.inl h, .inr h, absurd h hfault]

/-- The class of a read in a window, where the phase refuses none (R11). -/
theorem RegionConfig.windowClass_read {c : RegionConfig} {p : Phase} {q : HostRequest}
    (hview : p.Viewable) (hkind : q.kind = .read) :
    FirstRow (c.windowClass p q) (windowRows c p q) := by
  have hret : p ≠ .retiring := hview.ne_retiring
  by_cases hwriter : q.tag = c.writerTag
  · simp [RegionConfig.windowClass, windowRows, FirstRow, hret, hkind, hwriter, hview]
  · by_cases hreader : c.readerMask.getLsbD q.tag.val = true <;>
      simp [RegionConfig.windowClass, windowRows, FirstRow, RegionConfig.isReader, hret, hkind, hwriter,
        hreader, hview]

/-- The class of a write in a window, where the region does not retire (R11). -/
theorem RegionConfig.windowClass_write {c : RegionConfig} {p : Phase} {q : HostRequest}
    (hview : p.Viewable) (hkind : q.kind = .write) :
    FirstRow (c.windowClass p q) (windowRows c p q) := by
  have hret : p ≠ .retiring := hview.ne_retiring
  by_cases hwriter : q.tag = c.writerTag
  · by_cases hfault : p = .faulted
    · simp [RegionConfig.windowClass, windowRows, FirstRow, hkind, hwriter, hfault]
    · have hworking : p = .opened ∨ p = .pending := hview.working_of_ne_faulted hfault
      by_cases hstamp : c.hits q c.stamp <;>
        simp [RegionConfig.windowClass, windowRows, FirstRow, RegionConfig.includesOpt_iff_hits, hret,
          hkind, hwriter, hfault, hstamp, hworking]
  · simp [RegionConfig.windowClass, windowRows, FirstRow, hret, hkind, hwriter]

/-- The directory's class of a window request is that of the first check of R11 that holds. -/
theorem RegionConfig.windowClass_firstRow (c : RegionConfig) {p : Phase} (q : HostRequest)
    (hactive : p.active = true) : FirstRow (c.windowClass p q) (windowRows c p q) := by
  obtain hret | hview := p.active_iff.mp hactive
  · simp [RegionConfig.windowClass, windowRows, FirstRow, hret]
  · cases hkind : q.kind with
    | read => exact windowClass_read hview hkind
    | write => exact windowClass_write hview hkind

theorem RegionConfig.classOf_of_inBankA {c : RegionConfig} {q : HostRequest} (p : Phase)
    (h : c.inBank .bankA (byteAddr q) = true) : c.classOf p q = c.windowClass p q := by
  simp [RegionConfig.classOf, h]

/-- A request matched to a region is never a PASS (R9, R11). -/
theorem RegionConfig.classOf_ne_pass (c : RegionConfig) (p : Phase) (q : HostRequest) :
    c.classOf p q ≠ .pass := by
  unfold RegionConfig.classOf RegionConfig.windowClass
  repeat' split
  all_goals nofun

/-! ### The record of a head's class (R140) -/

/-- The head's decision record names region `r` and class `cls`. -/
def HostPort.Records (h : HostPort) (r : RegionIx) (cls : HostClass) : Prop :=
  ∃ (x : Head) (d : Decision), h.head = some x ∧ x.decision = some d ∧ d.region = some r ∧ d.cls = cls

section
variable {s : State} {r : RegionIx} {cls : HostClass}

/-- A head put in place with a decision has the decision's record. -/
theorem State.setHead_records (s : State) {p : Progress} {d : Decision} (hr : d.region = some r)
    (hc : d.cls = cls) : (s.setHead (some ⟨p, some d⟩)).host.Records r cls :=
  ⟨_, _, rfl, rfl, hr, hc⟩

/-- Progress leaves the record as it stands. -/
theorem HostPort.Records.progress {h : HostPort} (hrec : h.Records r cls) (p : Progress) :
    HostPort.Records { h with head := h.head.map fun x => { x with progress := p } } r cls := by
  obtain ⟨x, d, hx, hd, hr, hc⟩ := hrec
  exact ⟨{ x with progress := p }, d, by simp [hx], hd, hr, hc⟩

theorem State.setProgress_records (h : s.host.Records r cls) (p : Progress) :
    (s.setProgress p).host.Records r cls := h.progress p

theorem State.giveResponse_records (h : s.host.Records r cls) (x : HostResponse) :
    (s.giveResponse x).host.Records r cls := by
  rw [State.giveResponse_host]
  exact h.progress _

/-- The issue of a host write fixes the bank and the address of the record alone (R83). -/
theorem State.issueHost_records (h : s.host.Records r cls) : (s.issueHost r).host.Records r cls := by
  obtain ⟨x, d, hx, hd, hr, hc⟩ := h
  have hdecision : s.decision = some d := by simp [State.decision, hx, hd]
  unfold State.issueHost
  rw [hdecision]
  split
  case h_1 q d' _ heq =>
    cases heq
    simp only [State.wordTrigger_frame, State.countIssue_frame, State.requestHost, State.setBus_host]
    exact State.setHead_records s hr hc
  case h_2 => exact ⟨x, d, hx, hd, hr, hc⟩

theorem State.draftWrite_records (h : s.host.Records r cls) (q : HostRequest) :
    (s.draftWrite r q).host.Records r cls := by
  have hwait := s.setProgress_records h .waitLine
  simp only [State.draftWrite]
  repeat' split
  · simpa using hwait
  · exact hwait
  · exact State.issueHost_records h

theorem State.placeWrite_records (h : s.host.Records r cls) (q : HostRequest) (commit : Bool) :
    (s.placeWrite r q commit).host.Records r cls := by
  have hplaced : (s.placeBeats r (s.parkTag r) ((s.config r).beatWord q 0) q.data).host.Records r cls := by
    simpa using h
  simpa [State.placeWrite] using hplaced.progress _

theorem State.parkWrite_records (h : s.host.Records r cls) (timer : Nat) :
    (s.parkWrite r timer).host.Records r cls := by
  simp only [State.parkWrite]
  repeat' split
  · exact State.placeWrite_records h _ _
  · exact State.setProgress_records h _
  · simpa using h.progress _
  · exact h

theorem State.writerWrite_records (s : State) (r : RegionIx) (q : HostRequest) :
    (s.writerWrite r q).host.Records r .writerWrite := by
  have hhead := s.setHead_records (p := .decide) (d := s.matchedDecision r q .writerWrite) rfl rfl
  simp only [State.writerWrite]
  split
  · exact State.parkWrite_records hhead _
  · exact State.draftWrite_records hhead q

theorem State.refuse_records (s : State) (r : RegionIx) (q : HostRequest) (why : RefuseReason) :
    (s.refuse r q why).host.Records r (.refused why) := by
  refine State.giveResponse_records ?_ _
  simp only [State.chargeRefusal_frame]
  exact s.setHead_records rfl rfl

/-- A read in WAIT_MEMORY has the record its decision made. -/
theorem State.accessMemory_records (s : State) (q : HostRequest) {d : Decision} (purpose : HostPurpose)
    (hr : d.region = some r) (hc : d.cls = cls) : (s.accessMemory q d purpose).host.Records r cls :=
  s.setHead_records hr hc

theorem State.writerRead_records (s : State) (r : RegionIx) (q : HostRequest) :
    (s.writerRead r q).host.Records r .writerRead := by
  simp only [State.writerRead]
  split <;> exact State.accessMemory_records _ _ _ rfl rfl

theorem State.viewRead_records (s : State) (r : RegionIx) (q : HostRequest) :
    (s.viewRead r q).host.Records r .viewRead := by
  simp only [State.viewRead]
  repeat' split
  all_goals exact State.accessMemory_records _ _ _ rfl rfl

/-- A head matched to a region is sent on with the region and its class on record (R8, R140). -/
theorem State.sendOn_records {q : HostRequest} (h : s.regionAt (byteAddr q) = some r) :
    (s.sendOn q).host.Records r ((s.config r).classOf (s.phase r) q) := by
  simp only [State.sendOn, h]
  split
  case h_1 hpass => exact absurd hpass ((s.config r).classOf_ne_pass _ q)
  case h_2 why hcls => exact hcls ▸ s.refuse_records r q why
  case h_3 hcls => exact hcls ▸ s.writerWrite_records r q
  case h_4 hcls => exact hcls ▸ s.writerRead_records r q
  case h_5 hcls => exact hcls ▸ s.viewRead_records r q

end

/-- Settles O36: the new head is decided in a state with the same regions, its region is the one the directory
finds there, and the class the directory gives stays on record as the head is sent on. -/
theorem windowClassRecorded : Obligations.WindowClassRecorded := by
  intro c s q rest r hhead hwaiting hline hareas hwindow
  have hbank := hwindow.inBankA
  obtain ⟨hactive, -⟩ := hwindow
  have hregion : (s.withNewHead q rest).regionAt (byteAddr q) = some r :=
    State.regionAt_eq_some hareas hactive (((s.config r).inAreas_iff _).mpr ⟨_, hbank⟩)
  have hrecords := State.sendOn_records hregion
  rw [State.withNewHead_config, State.withNewHead_phase, RegionConfig.classOf_of_inBankA _ hbank]
    at hrecords
  obtain ⟨x, d, hx, hd, hr, hcls⟩ := hrecords
  refine ⟨_, exec_of_headArrives hhead, x, d, ?_, hd, hr, ?_⟩
  · simp [State.decideHead_withNewHead rest hwaiting hline, hx]
  · exact hcls ▸ (s.config r).windowClass_firstRow q hactive

end Sys2Proof.Machine
end

