-- ==== Sys2Proof/Proofs/ViewRecords.lean ====
section
/-! SUPPORT. The bytes of a link payload: a field put together again, the records of a table one behind another,
and the record of a view slot (R62, R179, R199); and what READ_VIEWS answers with them (R193). -/

namespace Sys2Proof.Machine

/-! ### Fields of a payload (R179) -/

/-- The bytes of a field, put together again, are the field. -/
theorem join_bytes16 (w : BitVec 16) : w.extractLsb' 8 8 ++ w.extractLsb' 0 8 = w := by
  rw [BitVec.extractLsb'_append_extractLsb'_eq_extractLsb' (show 8 = 0 + 8 from rfl)]
  exact BitVec.extractLsb'_eq_self

theorem join_bytes24 (w : BitVec 24) :
    w.extractLsb' 16 8 ++ w.extractLsb' 8 8 ++ w.extractLsb' 0 8 = w := by
  rw [BitVec.extractLsb'_append_extractLsb'_eq_extractLsb' (show 16 = 8 + 8 from rfl),
    BitVec.extractLsb'_append_extractLsb'_eq_extractLsb' (show 8 = 0 + 8 from rfl)]
  exact BitVec.extractLsb'_eq_self

theorem join_bytes32 (w : Word) :
    w.extractLsb' 24 8 ++ w.extractLsb' 16 8 ++ w.extractLsb' 8 8 ++ w.extractLsb' 0 8 = w := by
  rw [BitVec.extractLsb'_append_extractLsb'_eq_extractLsb' (show 24 = 16 + 8 from rfl),
    BitVec.extractLsb'_append_extractLsb'_eq_extractLsb' (show 16 = 8 + 8 from rfl),
    BitVec.extractLsb'_append_extractLsb'_eq_extractLsb' (show 8 = 0 + 8 from rfl)]
  exact BitVec.extractLsb'_eq_self

section
variable {pre : List Byte} {n : Nat}

/-- Behind the first `n` bytes, byte `n + j` is byte `j` of what follows; so for each field. -/
theorem byteAt_behind (h : pre.length = n) (l : List Byte) (j : Nat) :
    byteAt (pre ++ l) (n + j) = byteAt l j := by
  subst h
  rw [byteAt, byteAt, List.getD_append_right _ _ _ _ (Nat.le_add_right _ _), Nat.add_sub_cancel_left]

theorem field16_behind (h : pre.length = n) (l : List Byte) (j : Nat) :
    field16 (pre ++ l) (n + j) = field16 l j := by
  simp only [field16, Nat.add_assoc, byteAt_behind h]

theorem field24_behind (h : pre.length = n) (l : List Byte) (j : Nat) :
    field24 (pre ++ l) (n + j) = field24 l j := by
  simp only [field24, Nat.add_assoc, byteAt_behind h]

theorem field32_behind (h : pre.length = n) (l : List Byte) (j : Nat) :
    field32 (pre ++ l) (n + j) = field32 l j := by
  simp only [field32, Nat.add_assoc, byteAt_behind h]

end

/-! ### Records one behind another -/

section
variable {α : Type} {record : α → List Byte} {n : Nat}

theorem length_records (hlen : ∀ a, (record a).length = n) (l : List α) :
    (l.flatMap record).length = n * l.length := by
  simp [List.length_flatMap, hlen, Nat.mul_comm]

/-- Where the records have `n` bytes each, that of entry `i` stands behind the first `n * i` bytes. -/
theorem records_split (hlen : ∀ a, (record a).length = n) {l : List α} {i : Nat} {a : α}
    (hget : l[i]? = some a) :
    ∃ pre post, l.flatMap record = pre ++ (record a ++ post) ∧ pre.length = n * i := by
  obtain ⟨hi, rfl⟩ := List.getElem?_eq_some_iff.mp hget
  refine ⟨(l.take i).flatMap record, (l.drop (i + 1)).flatMap record, ?_, ?_⟩
  · rw [← List.flatMap_cons, ← List.flatMap_append, List.getElem_cons_drop, List.take_append_drop]
  · rw [length_records hlen, List.length_take_of_le hi.le]

end

/-! ### The record of a view slot (R199) -/

@[simp] theorem length_viewRecord (k : Slot) (x : Option View) : (viewRecord k x).length = 12 := by
  cases x <;> rfl

/-- Byte 0 of a view record holds the slot in its low five bits, whether the slot is empty or not. -/
theorem viewRecord_slot (k : Slot) (x : Option View) (post : List Byte) :
    (byteAt (viewRecord k x ++ post) 0).extractLsb' 0 5 = BitVec.ofNat 5 k.val := by
  cases x with
  | none =>
    change (BitVec.ofNat 8 k.val).extractLsb' 0 5 = _
    revert k; decide
  | some v =>
    change (BitVec.ofNat 8 (128 + 64 * v.inUse.toNat + k.val)).extractLsb' 0 5 = _
    cases v.inUse <;> revert k <;> decide

/-- An empty slot's record is 0 above the slot number. -/
theorem viewRecord_none (k : Slot) (post : List Byte) :
    (byteAt (viewRecord k none ++ post) 0).extractLsb' 5 3 = 0 ∧
      ∀ j : Nat, 1 ≤ j → j < 12 → byteAt (viewRecord k none ++ post) j = 0x00#8 := by
  constructor
  · change (BitVec.ofNat 8 k.val).extractLsb' 5 3 = 0
    revert k; decide
  · intro j hlow hhigh
    interval_cases j <;> rfl

section
variable (k : Slot) (v : View) (post : List Byte)

/-- The flags of a view: bit 7 says that the slot holds one, bit 6 that it is in use. -/
theorem viewRecord_flags :
    (byteAt (viewRecord k (some v) ++ post) 0).getLsbD 7 = true ∧
      (byteAt (viewRecord k (some v) ++ post) 0).getLsbD 6 = v.inUse := by
  change (BitVec.ofNat 8 (128 + 64 * v.inUse.toNat + k.val)).getLsbD 7 = true ∧
    (BitVec.ofNat 8 (128 + 64 * v.inUse.toNat + k.val)).getLsbD 6 = v.inUse
  cases v.inUse <;> revert k <;> decide

/-- Byte 1 of a view record holds the tag above the region. -/
theorem viewRecord_owner :
    (byteAt (viewRecord k (some v) ++ post) 1).extractLsb' 4 4 = BitVec.ofNat 4 v.tag.val ∧
      (byteAt (viewRecord k (some v) ++ post) 1).extractLsb' 0 4 = BitVec.ofNat 4 v.region.val := by
  change (BitVec.ofNat 8 (16 * v.tag.val + v.region.val)).extractLsb' 4 4 = _ ∧
    (BitVec.ofNat 8 (16 * v.tag.val + v.region.val)).extractLsb' 0 4 = _
  generalize v.tag = tag, v.region = region
  revert tag region
  decide

theorem viewRecord_bank : byteAt (viewRecord k (some v) ++ post) 2 = v.bank.code := rfl

theorem viewRecord_frame : field32 (viewRecord k (some v) ++ post) 3 = v.frameAtOpen :=
  join_bytes32 v.frameAtOpen

theorem viewRecord_idle : field16 (viewRecord k (some v) ++ post) 7 = BitVec.ofNat 16 v.idle :=
  join_bytes16 (BitVec.ofNat 16 v.idle)

theorem viewRecord_age : field24 (viewRecord k (some v) ++ post) 9 = BitVec.ofNat 24 v.age :=
  join_bytes24 (BitVec.ofNat 24 v.age)

end

/-! ### The answer of READ_VIEWS (R62, R193) -/

theorem slotIxs_eq_finRange : slotIxs = List.finRange 32 := by decide

/-- The payload is one record of 12 bytes for each slot from the start slot to the last, four at most. -/
theorem State.length_viewsPayload (s : State) (start : Nat) :
    (s.viewsPayload start).length = 12 * min 4 (32 - start) := by
  rw [State.viewsPayload, length_records (fun k => length_viewRecord k _)]
  simp [slotIxs_eq_finRange]

/-- Record `i` of the payload is that of slot `start + i`. -/
theorem State.viewsPayload_split (s : State) {start i : Nat} {k : Slot} (hi : i < 4)
    (hk : k.val = start + i) :
    ∃ pre post, s.viewsPayload start = pre ++ (viewRecord k (s.view k) ++ post) ∧
      pre.length = 12 * i := by
  refine records_split (fun k => length_viewRecord k _) ?_
  simp [slotIxs_eq_finRange, hi, ← hk]

/-- A frame that is being received ends with its command executed (R183). -/
theorem State.endFrame_of_receiving {s : State} (h : s.Receiving) (run : State → State) :
    s.endFrame run = run (s.setLink { s.link.frameEnded with state := .executing }) := by
  obtain ⟨hstate, hkept⟩ := h
  simp [State.endFrame, hstate, hkept]

theorem exec_readViews (seq start : Byte) (s : State) :
    exec (.readViews seq start) s = execReadViews seq start s := rfl

/-- READ_VIEWS replies with the records of the table as it stands, and with a NAK (BAD_ARGUMENT) above slot 31. -/
theorem exec_readViews_of_receiving {s : State} (h : s.Receiving) (seq start : Byte) :
    exec (.readViews seq start) s =
      .next (s.replied (if start.toNat < 32 then ackOf seq (s.viewsPayload start.toNat)
        else nakOf seq 4#8 0xFF#8)) := by
  rw [exec_readViews, execReadViews, State.endFrame_of_receiving h]
  split <;> rfl

/-- Settles O23: the answer is the records of the slots from the start slot on, 12 bytes each, so that record `i`
stands at byte `12 * i`, and its fields read back as they were written. -/
theorem viewsListed : Obligations.ViewsListed := by
  intro seq start s hreceiving
  rw [exec_readViews_of_receiving hreceiving]
  refine ⟨fun habove => by rw [if_neg habove.not_gt], fun hslot => ?_⟩
  rw [if_pos hslot]
  refine ⟨_, rfl, s.length_viewsPayload _, fun i k hi hk => ?_⟩
  obtain ⟨pre, post, hpayload, hpre⟩ := s.viewsPayload_split (hi.trans_le (min_le_left _ _)) hk
  have hfirst := byteAt_behind hpre (viewRecord k (s.view k) ++ post) 0
  rw [Nat.add_zero] at hfirst
  rw [hpayload, hfirst]
  refine ⟨viewRecord_slot k _ post, fun hnone => ?_, fun v hview => ?_⟩
  · rw [hnone]
    obtain ⟨hflags, hzero⟩ := viewRecord_none k post
    exact ⟨hflags, fun j hlow hhigh => (byteAt_behind hpre _ j).trans (hzero j hlow hhigh)⟩
  · simp only [hview, byteAt_behind hpre, field16_behind hpre, field24_behind hpre, field32_behind hpre]
    obtain ⟨hheld, huse⟩ := viewRecord_flags k v post
    obtain ⟨htag, hregion⟩ := viewRecord_owner k v post
    exact ⟨hheld, huse, htag, hregion, by rw [viewRecord_bank]; cases v.bank <;> rfl,
      viewRecord_frame k v post, viewRecord_idle k v post, viewRecord_age k v post⟩

end Sys2Proof.Machine
end

