-- ==== Sys2Proof/Proofs/BusGrant.lean ====
section
/-! SUPPORT. The arbiter's grant: when one is made, the requester that the grant order chooses, and the share
count a grant leaves (R156 to R158). -/

namespace Sys2Proof.Machine

/-! ### When a grant is made (R156) -/

theorem State.restartWaits_eq_false_iff (s : State) : s.restartWaits = false ↔ s.NoRestart := by
  unfold State.restartWaits State.NoRestart
  split
  case h_1 seq hwaits => simp [hwaits]
  case h_2 hother => simpa using hother

@[simp] theorem State.headWaitsLine_iff (s : State) :
    s.headWaitsLine = true ↔ s.progress = some .waitLine := by
  simp [State.headWaitsLine]

/-- A grant needs the port IDLE, no RESTART waiting and an access requested. -/
theorem State.grantable_iff (s : State) :
    s.grantable = true ↔ s.bus.port = .idle ∧ s.NoRestart ∧
      ¬(s.bus.hostReq = none ∧ s.bus.drainReq = none ∧ s.bus.catchReq = none) := by
  simp [State.grantable, State.restartWaits_eq_false_iff, Option.isSome_iff_ne_none, and_assoc, or_assoc,
    imp_iff_not_or]

/-! ### The transaction of an access (R153) -/

theorem MemoryBus.txnOf_host {b : MemoryBus} {h : HostAccess} (hreq : b.hostReq = some h) :
    b.txnOf .host = some ⟨.host h.purpose false, h.access⟩ := by
  rw [MemoryBus.txnOf, hreq, Option.map_some]

theorem MemoryBus.txnOf_drain {b : MemoryBus} {a : Access} (hreq : b.drainReq = some a) :
    b.txnOf .drain = some ⟨.drain, a⟩ := by
  rw [MemoryBus.txnOf, hreq, Option.map_some]

theorem MemoryBus.txnOf_catchup {b : MemoryBus} {a : Access} (hreq : b.catchReq = some a) :
    b.txnOf .catchup = some ⟨.catchup, a⟩ := by
  rw [MemoryBus.txnOf, hreq, Option.map_some]

/-- A requester that has a transaction to grant has its access requested. -/
theorem MemoryBus.requested_of_txnOf {b : MemoryBus} {q : Requester} {t : Txn} (h : b.txnOf q = some t) :
    ¬(b.hostReq = none ∧ b.drainReq = none ∧ b.catchReq = none) := by
  rintro ⟨hhost, hdrain, hcatch⟩
  cases q <;> simp [MemoryBus.txnOf, hhost, hdrain, hcatch] at h

/-! ### The grant order (R157) -/

/-- The rows of R157 in a state, row 2 once for each background requester. -/
def State.grantRows (s : State) : List (Prop × Requester) :=
  let b := s.bus
  let limit : Prop := s.clock.timing.share ≤ b.share
  [ (b.catchReq ≠ none ∧ s.progress = some .waitLine, .catchup),
    (b.hostReq ≠ none ∧ b.drainReq ≠ none ∧ limit, .drain),
    (b.hostReq ≠ none ∧ b.catchReq ≠ none ∧ limit, .catchup),
    (b.hostReq ≠ none, .host),
    (b.drainReq ≠ none, .drain),
    (b.catchReq ≠ none, .catchup) ]

/-- The arbiter chooses the first row whose condition holds. -/
theorem State.chooseGrant_of_firstRow {s : State} {q : Requester} (h : FirstRow q s.grantRows) :
    chooseGrant s.bus s.headWaitsLine s.clock.timing.share = some q := by
  simp only [chooseGrant, Bool.and_eq_true, decide_eq_true_eq, Option.isSome_iff_ne_none,
    State.headWaitsLine_iff]
  obtain ⟨hurgent, rfl⟩ | ⟨hurgent, hrows⟩ := h
  · rw [if_pos hurgent]
  rw [if_neg hurgent]
  obtain ⟨⟨hhost, hdrain, hlimit⟩, rfl⟩ | ⟨hkeepsDrain, hrows⟩ := hrows
  · simp [hhost, hdrain, hlimit]
  obtain ⟨⟨hhost, hcatch, hlimit⟩, rfl⟩ | ⟨hkeepsCatch, hrows⟩ := hrows
  · have hdrain : s.bus.drainReq = none := not_not.mp fun h => hkeepsDrain ⟨hhost, h, hlimit⟩
    simp [hhost, hdrain, hcatch, hlimit]
  obtain ⟨hhost, rfl⟩ | ⟨hhost, hrows⟩ := hrows
  · by_cases hlimit : s.clock.timing.share ≤ s.bus.share
    · have hdrain : s.bus.drainReq = none := not_not.mp fun h => hkeepsDrain ⟨hhost, h, hlimit⟩
      have hcatch : s.bus.catchReq = none := not_not.mp fun h => hkeepsCatch ⟨hhost, h, hlimit⟩
      simp [hhost, hdrain, hcatch]
    · simp [hhost, hlimit]
  obtain ⟨hdrain, rfl⟩ | ⟨hdrain, hrows⟩ := hrows
  · simp [hhost, hdrain]
  obtain ⟨hcatch, rfl⟩ | ⟨-, ⟨⟩⟩ := hrows
  simp [hhost, hdrain, hcatch]

/-! ### The share count after a grant (R158) -/

/-- HOST is granted past no urgent CATCHUP access (R154, R157). -/
theorem State.not_urgent_of_host_first {s : State} (h : FirstRow .host s.grantRows) :
    ¬(s.bus.catchReq ≠ none ∧ s.progress = some .waitLine) := by
  obtain ⟨-, ⟨⟩⟩ | ⟨hurgent, -⟩ := h
  exact hurgent

/-- A HOST grant counts where a background requester waits: with no urgent access, any CATCHUP access is one. -/
theorem State.shareAfter_host {s : State} (h : FirstRow .host s.grantRows) :
    shareAfter s.bus s.headWaitsLine .host =
      if s.bus.drainReq = none ∧ s.bus.catchReq = none then 0 else s.bus.share + 1 := by
  have hurgent := State.not_urgent_of_host_first h
  by_cases hdrain : s.bus.drainReq = none
  · by_cases hcatch : s.bus.catchReq = none
    · simp [shareAfter, hdrain, hcatch]
    · have hnormal : s.progress ≠ some .waitLine := fun h => hurgent ⟨hcatch, h⟩
      simp [shareAfter, Option.isSome_iff_ne_none, hdrain, hcatch, hnormal]
  · simp [shareAfter, Option.isSome_iff_ne_none, hdrain]

theorem State.shareAfter_catchup (s : State) :
    shareAfter s.bus s.headWaitsLine .catchup =
      if s.progress = some .waitLine then s.bus.share else 0 := by
  simp [shareAfter]

/-! ### The grant -/

theorem exec_grant (s : State) : exec .grant s = .next s.grantNext := rfl

theorem State.grantNext_of_not_grantable {s : State} (h : ¬s.grantable = true) : s.grantNext = s :=
  if_neg h

/-- Where a grant can be made, the access of the first row's requester goes onto the bus. -/
theorem State.grantNext_of_firstRow {s : State} {q : Requester} {t : Txn} (hport : s.bus.port = .idle)
    (hrestart : s.NoRestart) (htxn : s.bus.txnOf q = some t) (hrow : FirstRow q s.grantRows) :
    s.grantNext =
      { s with
        bus :=
          { s.bus.withdraw q with
            port := .inFlight t s.clock.timing.memoryWait
            share := shareAfter s.bus s.headWaitsLine q } } := by
  have hgrantable := s.grantable_iff.mpr ⟨hport, hrestart, MemoryBus.requested_of_txnOf htxn⟩
  simp only [State.grantNext, hgrantable, State.chooseGrant_of_firstRow hrow, htxn, if_true]
  rfl

/-- Settles O44: no grant where none can be made; else the first row's access goes onto the bus, and the share
count follows R158. -/
theorem grantOrder : Obligations.GrantOrder := by
  intro s
  refine ⟨fun hnone => ?_, fun hport hrestart => ⟨fun h hreq hrow => ?_, fun a hreq hrow => ?_,
    fun a hreq hrow => ?_⟩⟩ <;> rw [exec_grant]
  · have hgrant : ¬s.grantable = true := by
      rw [s.grantable_iff]
      tauto
    rw [State.grantNext_of_not_grantable hgrant]
  · rw [State.grantNext_of_firstRow hport hrestart (MemoryBus.txnOf_host hreq) hrow,
      State.shareAfter_host hrow]
    rfl
  · rw [State.grantNext_of_firstRow hport hrestart (MemoryBus.txnOf_drain hreq) hrow]
    rfl
  · rw [State.grantNext_of_firstRow hport hrestart (MemoryBus.txnOf_catchup hreq) hrow,
      State.shareAfter_catchup]
    rfl

end Sys2Proof.Machine
end

/-! SUPPORT. What READ_NOTICES and READ_COUNTERS answer and leave behind: the notice record and the counters as
bytes of a payload, and the checks of the arguments (R171, R176, R177, R194, R195, R198). -/

namespace Sys2Proof.Machine

/-! ### The record of a notice (R198) -/

theorem length_noticeRecord (x : Notice) : x.record.length = 11 := rfl

section
variable (x : Notice) (post : List Byte)

/-- Byte 0 of a notice record holds the kind above the region. -/
theorem noticeRecord_subject :
    (byteAt (x.record ++ post) 0).extractLsb' 4 4 = BitVec.ofNat 4 x.kind.code ∧
      (byteAt (x.record ++ post) 0).extractLsb' 0 4 = BitVec.ofNat 4 x.region.val := by
  change (BitVec.ofNat 8 (16 * x.kind.code + x.region.val)).extractLsb' 4 4 = _ ∧
    (BitVec.ofNat 8 (16 * x.kind.code + x.region.val)).extractLsb' 0 4 = _
  generalize x.kind = kind, x.region = region
  cases kind <;> revert region <;> decide

/-- Byte 1 of the record of a kind with a tag holds the tag in its low four bits. -/
theorem noticeRecord_tag {tag : Tag} (htag : x.tag = some tag) :
    (byteAt (x.record ++ post) 1).extractLsb' 0 4 = BitVec.ofNat 4 tag.val := by
  rw [Notice.record, htag]
  change (BitVec.ofNat 8 tag.val).extractLsb' 0 4 = _
  clear htag
  revert tag
  decide

/-- Byte 1 of the record of a kind without a tag is the upper byte of the detail. -/
theorem noticeRecord_untagged (htag : x.tag = none) :
    byteAt (x.record ++ post) 1 = x.detail.extractLsb' 8 8 := by
  rw [Notice.record, htag]
  rfl

theorem noticeRecord_detail : byteAt (x.record ++ post) 2 = x.detail.extractLsb' 0 8 := rfl

theorem noticeRecord_frame : field32 (x.record ++ post) 3 = x.frame := join_bytes32 x.frame

theorem noticeRecord_stamp : field32 (x.record ++ post) 7 = x.stamp := join_bytes32 x.stamp

end

/-! ### READ_NOTICES (R171, R194) -/

section
variable (u : NoticeUnit)

/-- The Notice Unit after READ_NOTICES: the oldest four notices gone, LOST clear, IRQ_N driven by what is left. -/
theorem NoticeUnit.read_eq :
    u.read =
      { u with
        queue := u.queue.drop 4
        lost := false
        irqAsserted := u.irqEnabled && decide (u.queue.drop 4 ≠ []) } := by
  rw [NoticeUnit.read, NoticeUnit.driveIrq, Config.noticesPerRead]
  cases u.queue.drop 4 <;> rfl

/-- The payload is a header, LOST, the number of notices returned and the number left, with the records behind. -/
theorem NoticeUnit.payload_eq :
    u.payload =
      [flagByte u.lost, BitVec.ofNat 8 (min u.queue.length 4),
          BitVec.ofNat 8 (u.queue.length - min u.queue.length 4)] ++
        (u.queue.take 4).flatMap Notice.record := by
  rw [NoticeUnit.payload, Config.noticesPerRead, List.length_take, min_comm]

theorem NoticeUnit.length_payload : u.payload.length = 3 + 11 * min u.queue.length 4 := by
  rw [u.payload_eq, List.length_append, length_records length_noticeRecord, List.length_take, min_comm]
  rfl

/-- The record of notice `i`, one of the oldest four, stands in the payload at byte `3 + 11 * i`. -/
theorem NoticeUnit.payload_split {i : Nat} {x : Notice} (hi : i < 4) (hget : u.queue[i]? = some x) :
    ∃ pre post, u.payload = pre ++ (x.record ++ post) ∧ pre.length = 3 + 11 * i := by
  have htaken : (u.queue.take 4)[i]? = some x := by rw [List.getElem?_take_of_lt hi, hget]
  obtain ⟨pre, post, hrecords, hpre⟩ := records_split length_noticeRecord htaken
  rw [u.payload_eq, hrecords, ← List.append_assoc]
  exact ⟨_, post, rfl, by rw [List.length_append, hpre]; rfl⟩

end

theorem exec_readNotices (seq : Byte) (s : State) :
    exec (.readNotices seq) s = execReadNotices seq s := rfl

theorem exec_readNotices_of_receiving {s : State} (h : s.Receiving) (seq : Byte) :
    exec (.readNotices seq) s =
      .next ((s.setNotices s.notices.read).replied (ackOf seq s.notices.payload)) := by
  rw [exec_readNotices, execReadNotices, State.endFrame_of_receiving h]
  rfl

/-- Settles O22: the notices leave the queue as `NoticeUnit.read` says, and the payload is a header of three bytes
with the records behind it, 11 bytes each, so that record `i` stands at byte `3 + 11 * i`. -/
theorem noticesTaken : Obligations.NoticesTaken := by
  intro seq s hreceiving
  refine ⟨s.notices.payload, ?next, s.notices.length_payload, ?lost, ?taken, ?left, fun i x hi hget => ?record⟩
  case next =>
    rw [exec_readNotices_of_receiving hreceiving, NoticeUnit.read_eq]
    rfl
  case lost | taken | left =>
    rw [NoticeUnit.payload_eq]
    rfl
  case record =>
    obtain ⟨pre, post, hpayload, hpre⟩ := s.notices.payload_split (hi.trans_le (min_le_right _ _)) hget
    have hbyte (j : Nat) : byteAt s.notices.payload (3 + j + 11 * i) = byteAt (x.record ++ post) j := by
      rw [hpayload, Nat.add_right_comm, byteAt_behind hpre]
    have hfield (j : Nat) : field32 s.notices.payload (3 + j + 11 * i) = field32 (x.record ++ post) j := by
      rw [hpayload, Nat.add_right_comm, field32_behind hpre]
    obtain ⟨hkind, hregion⟩ := noticeRecord_subject x post
    refine ⟨(hbyte 0).symm ▸ hkind, (hbyte 0).symm ▸ hregion, ?_, (hbyte 2).trans (noticeRecord_detail x post),
      (hfield 3).trans (noticeRecord_frame x post), (hfield 7).trans (noticeRecord_stamp x post)⟩
    split
    case h_1 tag htag => exact (hbyte 1).symm ▸ noticeRecord_tag x post htag
    case h_2 htag => exact (hbyte 1).trans (noticeRecord_untagged x post htag)

/-! ### The arguments of READ_COUNTERS (R186, R195) -/

theorem regionOf_of_le {b : Byte} (h : 16 ≤ b.toNat) : regionOf b = none := dif_neg h.not_gt

theorem regionOf_of_toNat {b : Byte} {r : RegionIx} (h : b.toNat = r.val) : regionOf b = some r := by
  rw [regionOf, dif_pos (h ▸ r.isLt)]
  exact congrArg some (Fin.ext h)

/-- The option byte has its unassigned bits 0 where its options are 0 or 1. -/
theorem optSpare_iff (opts : BitVec 7) : optSpare opts = true ↔ opts.toNat < 2 := by
  revert opts; decide

theorem optClear_of_lt {opts : BitVec 7} (h : opts.toNat < 2) :
    optClear opts = true ↔ opts = 1#7 := by
  revert opts; decide

section
variable {s : State} (seq : Byte) {region : Byte} {ok : Bool} (run : RegionIx → State)

/-- A command with a region and a further check of its arguments: a region above 15, or the check failing, is
answered NAK; else it is executed for the region. -/
theorem State.withRegion_rejected (h : 16 ≤ region.toNat ∨ ok = false) :
    (s.withRegion seq region fun r => if ok then run r else s.nak seq outOfRange) =
      s.nak seq outOfRange := by
  unfold State.withRegion
  rcases h with hregion | rfl
  · rw [regionOf_of_le hregion]
  · cases regionOf region <;> rfl

theorem State.withRegion_accepted {r : RegionIx} (hregion : region.toNat = r.val) (hok : ok = true) :
    (s.withRegion seq region fun r => if ok then run r else s.nak seq outOfRange) = run r := by
  rw [State.withRegion, regionOf_of_toNat hregion, hok]
  rfl

end

/-! ### READ_COUNTERS (R176, R177, R195) -/

/-- The state in which the command of a frame is executed (R179, R183). -/
def State.executing (s : State) : State := s.setLink { s.link.frameEnded with state := .executing }

theorem State.endFrame_executing {s : State} (h : s.Receiving) (run : State → State) :
    s.endFrame run = run s.executing := State.endFrame_of_receiving h run

/-- The fields of the FIRST payload: the two flags, then nine counters of four bytes. -/
theorem Counters.firstPart_fields (x : Counters) :
    let p := x.firstPart
    p.length = 37 ∧ byteAt p 0 = BitVec.ofNat 8 (x.refusedFlag.toNat + 2 * x.shortageFlag.toNat) ∧
      field32 p 1 = x.refused ∧ field32 p 5 = x.viewsOpened ∧ field32 p 9 = x.expired ∧
      field32 p 13 = x.viewShortage ∧ field32 p 17 = x.held ∧ field32 p 21 = x.merged ∧
      field32 p 25 = x.empty ∧ field32 p 29 = x.parkTimeout ∧ field32 p 33 = x.copyRetry :=
  ⟨rfl, rfl, join_bytes32 _, join_bytes32 _, join_bytes32 _, join_bytes32 _, join_bytes32 _,
    join_bytes32 _, join_bytes32 _, join_bytes32 _, join_bytes32 _⟩

/-- The fields of the REST payload: the four trigger counters. -/
theorem Counters.restPart_fields (x : Counters) :
    let p := x.restPart
    p.length = 16 ∧ field32 p 0 = x.triggersWord ∧ field32 p 4 = x.triggersStrobe ∧
      field32 p 8 = x.triggersPeriod ∧ field32 p 12 = x.triggersManual :=
  ⟨rfl, join_bytes32 _, join_bytes32 _, join_bytes32 _, join_bytes32 _⟩

section
variable {s : State} (seq : Byte) {region : Byte} {opts : BitVec 7} {r : RegionIx}

theorem exec_readCountersFirst (region : Byte) (opts : BitVec 7) (s : State) :
    exec (.readCountersFirst seq region opts) s = execReadCountersFirst seq region opts s := rfl

theorem exec_readCountersRest (region : Byte) (opts : BitVec 7) (s : State) :
    exec (.readCountersRest seq region opts) s = execReadCountersRest seq region opts s := rfl

theorem exec_readCountersFirst_rejected (h : s.Receiving) (hbad : 16 ≤ region.toNat ∨ 2 ≤ opts.toNat) :
    exec (.readCountersFirst seq region opts) s = .next (s.replied (nakOf seq 4#8 0xFF#8)) := by
  have hcheck : 16 ≤ region.toNat ∨ optSpare opts = false := by
    rwa [Bool.eq_false_iff, Ne, optSpare_iff, not_lt]
  rw [exec_readCountersFirst, execReadCountersFirst, State.endFrame_executing h,
    State.withRegion_rejected seq _ hcheck]
  rfl

theorem exec_readCountersFirst_accepted (h : s.Receiving) (hregion : region.toNat = r.val)
    (hopts : opts.toNat < 2) :
    exec (.readCountersFirst seq region opts) s =
      .next (s.executing.countersFirst seq r (optClear opts)) := by
  rw [exec_readCountersFirst, execReadCountersFirst, State.endFrame_executing h,
    State.withRegion_accepted seq _ hregion ((optSpare_iff opts).mpr hopts)]

/-- REST takes no options: with the clear option, or any other, it is answered NAK. -/
theorem exec_readCountersRest_rejected (h : s.Receiving) (hbad : 16 ≤ region.toNat ∨ opts ≠ 0#7) :
    exec (.readCountersRest seq region opts) s = .next (s.replied (nakOf seq 4#8 0xFF#8)) := by
  have hcheck : 16 ≤ region.toNat ∨ (optSpare opts && !optClear opts) = false :=
    hbad.imp_right fun hopts => by clear hbad; revert opts; decide
  rw [exec_readCountersRest, execReadCountersRest, State.endFrame_executing h,
    State.withRegion_rejected seq _ hcheck]
  rfl

theorem exec_readCountersRest_accepted (h : s.Receiving) (hregion : region.toNat = r.val) :
    exec (.readCountersRest seq region 0#7) s = .next (s.executing.countersRest seq r) := by
  rw [exec_readCountersRest, execReadCountersRest, State.endFrame_executing h,
    State.withRegion_accepted seq _ hregion (by decide)]

/-- FIRST copies the counters into the snapshot, and with the clear option sets them and the flags to 0. -/
theorem State.executing_countersFirst (s : State) (r : RegionIx) (clear : Bool) :
    s.executing.countersFirst seq r clear =
      { s with
        regions :=
          if clear then s.regions.set r.val { s.region r with counters := .zero } r.isLt else s.regions
        notices := { s.notices with snapshot := ⟨true, r, (s.region r).counters⟩ } }.replied
        (ackOf seq (s.region r).counters.firstPart) := by
  cases clear <;> rfl

/-- REST answers from a valid snapshot of the region it names. -/
theorem State.executing_countersRest (hvalid : s.notices.snapshot.valid = true)
    (hregion : s.notices.snapshot.region = r) :
    s.executing.countersRest seq r = s.replied (ackOf seq s.notices.snapshot.counters.restPart) := by
  have hmatch : (s.notices.snapshot.valid && s.notices.snapshot.region == r) = true := by
    simp [hvalid, hregion]
  exact if_pos hmatch

/-- Without one it is answered NAK: the detail is the region of the snapshot, or 0xFE where none is valid. -/
theorem State.executing_countersRest_nak
    (hmiss : s.notices.snapshot.valid = false ∨ s.notices.snapshot.region ≠ r) :
    s.executing.countersRest seq r =
      s.replied (nakOf seq 4#8
        (if s.notices.snapshot.valid then BitVec.ofNat 8 s.notices.snapshot.region.val else 0xFE#8)) := by
  have hmatch : ¬(s.notices.snapshot.valid && s.notices.snapshot.region == r) = true := by
    rcases hmiss with hvalid | hregion <;> simp [*]
  exact if_neg hmatch

end

/-- Settles O32: the arguments decide between the NAK and the region; FIRST then takes the snapshot, and REST
answers from it. -/
theorem countersRead : Obligations.CountersRead := by
  intro seq region opts s hreceiving
  refine ⟨fun hbad => ⟨exec_readCountersFirst_rejected seq hreceiving hbad,
      exec_readCountersRest_rejected seq hreceiving (hbad.imp_right ?_)⟩,
    fun _ hclear => exec_readCountersRest_rejected seq hreceiving (.inr (by simp [hclear])),
    fun r hregion => ⟨fun hopts => ?first, ?rest⟩⟩
  · rintro habove rfl
    exact absurd habove (by decide)
  case first =>
    refine ⟨_, ?_, (s.region r).counters.firstPart_fields⟩
    rw [exec_readCountersFirst_accepted seq hreceiving hregion hopts, State.executing_countersFirst]
    simp only [optClear_of_lt hopts, Counters.zero]
  case rest =>
    rintro rfl
    simp only [exec_readCountersRest_accepted seq hreceiving hregion]
    refine ⟨fun hvalid hsame => ?_, fun hvalid hother => ?_, fun hinvalid => ?_⟩
    · exact ⟨_, by rw [State.executing_countersRest seq hvalid hsame], Counters.restPart_fields _⟩
    · rw [State.executing_countersRest_nak seq (.inr hother), hvalid]
      rfl
    · rw [State.executing_countersRest_nak seq (.inl hinvalid), hinvalid]
      rfl

end Sys2Proof.Machine

/-! SUPPORT. The CRC-8 of the link as a remainder of polynomials over the field of two elements (R180), and the
fields of IDENT's answer (R187). -/

namespace Sys2Proof

section
open Polynomial

/-! ### Bytes as polynomials -/

/-- The polynomial x^8 + x^2 + x + 1 of the CRC (R180). -/
noncomputable def crcGenerator : (ZMod 2)[X] := X ^ 8 + X ^ 2 + X + 1

/-- A byte as a polynomial: bit `i` is the coefficient of x^i. -/
noncomputable def bytePoly (b : Byte) : (ZMod 2)[X] :=
  ∑ i ∈ Finset.range 8, if b.getLsbD i then X ^ i else 0

/-- A list of bytes as a polynomial: the bytes in the order they travel, each most significant bit first. -/
noncomputable def messagePoly (l : List Byte) : (ZMod 2)[X] :=
  l.foldl (fun p b => p * X ^ 8 + bytePoly b) 0

theorem degree_crcGenerator : crcGenerator.degree = 8 := by
  unfold crcGenerator
  compute_degree!

theorem monic_crcGenerator : crcGenerator.Monic := by
  unfold crcGenerator
  monicity!

theorem degree_bytePoly_lt (b : Byte) : (bytePoly b).degree < crcGenerator.degree := by
  rw [degree_crcGenerator]
  refine mem_degreeLT.mp (sum_mem fun i hi => ?_)
  split
  · exact mem_degreeLT.mpr (by simpa using hi)
  · exact zero_mem _

/-- Over the field of two elements, to combine bytes by exclusive or is to add them. -/
theorem bytePoly_xor (a b : Byte) : bytePoly (a ^^^ b) = bytePoly a + bytePoly b := by
  rw [bytePoly, bytePoly, bytePoly, ← Finset.sum_add_distrib]
  refine Finset.sum_congr rfl fun i _ => ?_
  rw [BitVec.getLsbD_xor]
  cases a.getLsbD i <;> cases b.getLsbD i <;> simp [CharTwo.add_self_eq_zero]

theorem bytePoly_shiftLeft_one (v : Byte) :
    bytePoly (v <<< 1) = ∑ i ∈ Finset.range 7, if v.getLsbD i then X ^ (i + 1) else 0 := by
  have hlowest : (v <<< 1).getLsbD 0 = false := by simp
  rw [bytePoly, Finset.sum_range_succ', hlowest, if_neg Bool.false_ne_true, add_zero]
  refine Finset.sum_congr rfl fun i hi => ?_
  have hin : i + 1 < 8 := Nat.succ_lt_succ (Finset.mem_range.mp hi)
  have hbit : (v <<< 1).getLsbD (i + 1) = v.getLsbD i := by
    rw [BitVec.getLsbD_shiftLeft]
    simp [hin]
  rw [hbit]

/-- To shift a byte left is to multiply by x, but for the bit shifted out. -/
theorem bytePoly_mul_X (v : Byte) :
    bytePoly v * X = bytePoly (v <<< 1) + if v.msb then X ^ 8 else 0 := by
  rw [bytePoly_shiftLeft_one, bytePoly, Finset.sum_mul, Finset.sum_range_succ]
  simp [BitVec.msb_eq_getLsbD_last, ite_mul, pow_succ]

theorem bytePoly_seven : bytePoly 0x07#8 = X ^ 2 + X + 1 :=
  calc
    bytePoly 0x07#8 = 1 + X + X ^ 2 := by simp [bytePoly, Finset.sum_range_succ]
    _ = X ^ 2 + X + 1 := by ring

/-- One bit of the CRC multiplies by x and takes the generator away where a 1 is shifted out. -/
theorem bytePoly_crcBit (v : Byte) :
    bytePoly v * X = bytePoly (crcBit v) + if v.msb then crcGenerator else 0 := by
  rw [bytePoly_mul_X, crcBit]
  split
  · rw [bytePoly_xor, bytePoly_seven, crcGenerator]
    linear_combination (-X ^ 2 - X - 1) * CharTwo.two_eq_zero (R := (ZMod 2)[X])
  · rfl

/-! ### The CRC modulo the generator -/

theorem mk_bytePoly_crcBit (v : Byte) :
    AdjoinRoot.mk crcGenerator (bytePoly (crcBit v)) = AdjoinRoot.mk crcGenerator (bytePoly v * X) := by
  rw [bytePoly_crcBit, map_add]
  split <;> simp

theorem mk_bytePoly_crcByte (v b : Byte) :
    AdjoinRoot.mk crcGenerator (bytePoly (crcByte v b)) =
      AdjoinRoot.mk crcGenerator ((bytePoly v + bytePoly b) * X ^ 8) := by
  simp only [crcByte, mk_bytePoly_crcBit, map_mul, bytePoly_xor, map_pow]
  ring

/-- Modulo the generator, the CRC of a message is the message shifted up by eight bits. -/
theorem mk_bytePoly_crc8 (l : List Byte) :
    AdjoinRoot.mk crcGenerator (bytePoly (crc8 l)) = AdjoinRoot.mk crcGenerator (messagePoly l * X ^ 8) := by
  induction l using List.reverseRecOn with
  | nil => simp [crc8, messagePoly, bytePoly]
  | append_singleton l b ih =>
    have hcrc : crc8 (l ++ [b]) = crcByte (crc8 l) b := List.foldl_append
    have hmessage : messagePoly (l ++ [b]) = messagePoly l * X ^ 8 + bytePoly b := List.foldl_append
    rw [hcrc, hmessage, mk_bytePoly_crcByte, map_mul, map_add, ih, ← map_add, ← map_mul]

theorem messagePoly_modByMonic (l : List Byte) :
    (messagePoly l * X ^ 8) %ₘ crcGenerator = bytePoly (crc8 l) := by
  rw [← (modByMonic_eq_self_iff monic_crcGenerator).mpr (degree_bytePoly_lt (crc8 l))]
  exact modByMonic_eq_of_dvd_sub monic_crcGenerator (AdjoinRoot.mk_eq_mk.mp (mk_bytePoly_crc8 l).symm)

end

/-! ### The CRC at the end of a frame -/

theorem encodeFrame_eq_append_crc8 {i : Instr} {frame : List Byte} (h : encodeFrame i = some frame) :
    ∃ body, frame = body ++ [crc8 body] := by
  obtain ⟨⟨code, seq, payload⟩, -, rfl⟩ := Option.map_eq_some_iff.mp h
  exact ⟨_, rfl⟩

/-- Settles O13: bit by bit the CRC multiplies by x modulo the generator, and its degree is below the generator's,
so that it is the remainder; frames and responses are built with it at their end. -/
theorem crcIsRemainder : Obligations.CrcIsRemainder := by
  refine ⟨messagePoly_modByMonic, fun _ _ => encodeFrame_eq_append_crc8, fun _ _ => ⟨_, rfl⟩, ?_⟩
  decide +kernel

end Sys2Proof

namespace Sys2Proof.Machine

/-! ### The fields of IDENT's answer (R187, R188) -/

theorem Filter.ofBits_bits (f : Filter) : Filter.ofBits f.bits = f := by
  cases f <;> rfl

/-- Field `i` of a byte put together from four fields of two bits, field 0 lowest. -/
theorem extractLsb'_join_fields (f : Fin 4 → BitVec 2) (i : Fin 4) :
    (f 3 ++ (f 2 ++ (f 1 ++ f 0))).extractLsb' (2 * i.val) 2 = f i := by
  ext j hj
  simp only [BitVec.getElem_extractLsb', BitVec.getLsbD_append]
  fin_cases i <;> interval_cases j <;> rfl

/-- Field `i` of the filters byte is the setting of line `i`. -/
theorem Timing.toRecord_filter (t : Timing) (i : Fin 4) :
    Filter.ofBits (t.toRecord.filters.extractLsb' (2 * i.val) 2) = t.filters.get i := by
  have hfield : t.toRecord.filters.extractLsb' (2 * i.val) 2 = (t.filters.get i).bits :=
    extractLsb'_join_fields (fun k => (t.filters.get k).bits) i
  rw [hfield, Filter.ofBits_bits]

theorem flagByte_eq_one_iff (b : Bool) : flagByte b = 1#8 ↔ b = true := by
  cases b <;> decide

theorem flagByte_le_one (b : Bool) : (flagByte b).toNat ≤ 1 := by
  cases b <;> decide

theorem exec_ident (seq : Byte) (s : State) : exec (.ident seq) s = execIdent seq s := rfl

theorem exec_ident_of_receiving {s : State} (h : s.Receiving) (seq : Byte) :
    exec (.ident seq) s = .next (s.replied (ackOf seq s.identPayload)) := by
  rw [exec_ident, execIdent, State.endFrame_executing h]
  rfl

/-- The timing settings and the two counters in IDENT's payload, the filters apart. -/
theorem State.identPayload_fields (s : State) :
    let p := s.identPayload
    let c := s.clock.timing
    field16 p 12 = BitVec.ofNat 16 c.tickDiv ∧ field16 p 14 = BitVec.ofNat 16 c.holdWait ∧
      field16 p 16 = BitVec.ofNat 16 c.memoryWait ∧ byteAt p 18 = BitVec.ofNat 8 c.share ∧
      field32 p 20 = s.host.burstSpan ∧ field32 p 24 = s.bus.timeouts :=
  ⟨join_bytes16 _, join_bytes16 _, join_bytes16 _, rfl, join_bytes32 _, join_bytes32 _⟩

/-- The filters and the four bytes at the end of IDENT's payload. -/
theorem State.identPayload_bytes (s : State) :
    let p := s.identPayload
    byteAt p 19 = s.clock.timing.toRecord.filters ∧ byteAt p 28 = s.bus.port.code ∧
      byteAt p 29 = flagByte s.notices.irqEnabled ∧ byteAt p 30 = flagByte s.notices.lost ∧
      byteAt p 31 = BitVec.ofNat 8 s.notices.queue.length :=
  ⟨rfl, rfl, rfl, rfl, rfl⟩

/-- Settles O19: the command is executed at once and answers `State.identPayload`, whose fields read back as the
settings, the flags and the counts they were written from. -/
theorem identReports : Obligations.IdentReports := by
  intro seq s hreceiving
  obtain ⟨htick, hhold, hmemory, hshare, hspan, htimeouts⟩ := s.identPayload_fields
  obtain ⟨hfilters, hport, hirq, hlost, hlength⟩ := s.identPayload_bytes
  refine ⟨s.identPayload, exec_ident_of_receiving hreceiving seq, rfl, rfl, htick, hhold, hmemory, hshare,
    fun i => ?filters, hspan, htimeouts, ?port, ?_, ?_, ?_, ?_, hlength⟩
  case filters => rw [hfilters, Timing.toRecord_filter]
  case port =>
    rw [hport]
    cases s.bus.port <;> rfl
  · rw [hirq, flagByte_eq_one_iff]
  · exact hirq ▸ flagByte_le_one _
  · rw [hlost, flagByte_eq_one_iff]
  · exact hlost ▸ flagByte_le_one _

end Sys2Proof.Machine


/-! SUPPORT. What a law of the part must be kept by, update by update, for every command to keep it. The state
changes by a small number of guarded updates; `Kept` lists them, and a law that has them all is kept by every
operation built from them. -/

namespace Sys2Proof.Machine

set_option Elab.async false

/-! ### Happenings that are under way -/

/-- A region on its way out of OPEN and PENDING, within one happening (R101, R125, R127): its parked words are
still there; they are gone, but its views, or a head that waits for it, may be left; only such a head is left. -/
inductive Leaving where
  | none
  | entered (r : RegionIx) (retire : Bool)
  | emptied (r : RegionIx) (retire : Bool)
  | viewless (r : RegionIx)

/-- The region on its way out, if there is one. -/
def Leaving.of : Leaving → RegionIx → Prop
  | .none, _ => False
  | .entered x _, r => x = r
  | .emptied x _, r => x = r
  | .viewless x, r => x = r

/-- What is under way within a happening: a region on its way out; the banks that lost their last view and are
still to be reported (R57); and whether a link command is being executed (R183). -/
structure Amid where
  leaving : Leaving := .none
  due : RegionIx → Bank → Prop := fun _ _ => False
  running : Bool := false

/-- A view's fields that stay for its whole life (R45). -/
def View.fixed (v : View) : Tag × RegionIx × Bank × Word := (v.tag, v.region, v.bank, v.frameAtOpen)

/-- The head is to wait, for a line or for park space. -/
def Progress.waits : Progress → Bool
  | .waitLine => true
  | .waitPark _ _ => true
  | _ => false

/-- The state after RESTART has cleared every block and answered a head that waits, before its ACK (R133, R150). -/
def State.restartCleared (s : State) : State :=
  if s.restartAborts then s.restartBlocks.setProgress (.respond (.failed .waitAborted)) else s.restartBlocks

/-! ### The updates -/

/-- A law is kept by the updates of the blocks that most laws say nothing of, and the Notice Unit. -/
structure KeptBlocks (P : Amid → State → Prop) : Prop where
  catchup : ∀ {m s} x, P m s → P m (s.setCatchup x) := by intros; assumption
  counters : ∀ {m s} r f, P m s → P m (s.modCounters r f) := by intros; assumption
  timer : ∀ {m s} r x, P m s → P m (s.setTimer r x) := by intros; assumption
  timers : ∀ {m s}, P m s → P m (s.modRegions fun g => { g with timer := g.timer.tick }) := by
    intros; assumption
  clock : ∀ {m s} x, P m s → P m (s.setClock x) := by intros; assumption
  strobes : ∀ {m s} x, P m s → P m (s.setStrobes x) := by intros; assumption
  bus : ∀ {m s x}, (s.bus.port = .expired → x.port = .expired) → P m s → P m (s.setBus x) := by
    intros; assumption
  enqueue : ∀ {m s} n, P m s → P m (s.setNotices (s.notices.enqueue n)) := by intros; assumption
  irq : ∀ {m s} b, P m s → P m (s.setNotices { s.notices with irqEnabled := b }.driveIrq) := by
    intros; assumption
  noticesRead : ∀ {m s}, P m s → P m (s.setNotices s.notices.read) := by intros; assumption
  snapshot : ∀ {m s} x, P m s → P m (s.setNotices { s.notices with snapshot := x }) := by
    intros; assumption

/-- A law is kept by the updates of the runtime records and the View Table. -/
structure KeptRuns (P : Amid → State → Prop) : Prop where
  tally : ∀ {m s} r {f : Runtime → Runtime},
    (∀ t, f t = { t with inFlight := (f t).inFlight, dirtyLines := (f t).dirtyLines }) → P m s →
    P m (s.modRun r f) := by intros; assumption
  pendingEntered : ∀ {m s r}, s.phase r = .opened → P m s → P m (s.enterPending r) := by
    intros; assumption
  flags : ∀ {m s r} (f h : Runtime → Bool), s.phase r = .pending → P m s →
    P m (s.modRun r fun t => { t with followOn := f t, heldNotice := h t }) := by intros; assumption
  published : ∀ {m s r}, s.phase r = .pending → s.condD r = true → P m s →
    P m (s.modRun r fun t =>
      { t.published (s.viewed r (s.run r).liveBank) with followOn := false }) := by intros; assumption
  freed : ∀ {m s r b}, (s.run r).roles.get b = .held → s.viewed r b = false → P m s →
    P m (s.modRun r fun t => { t with roles := t.roles.set .free b }) := by intros; assumption
  undue : ∀ {m s} {due : RegionIx → Bank → Prop},
    (∀ r b, m.due r b → due r b ∨ (s.run r).roles.get b ≠ .held ∨ s.viewed r b = true) → P m s →
    P { m with due := due } s := by intros; assumption
  viewMarks : ∀ {m s} {x : Vector (Option View) 32},
    (∀ k : Slot, (x.get k).map View.fixed = (s.view k).map View.fixed) → P m s → P m (s.setViews x) := by
    intros; assumption
  viewOpened : ∀ {m s k r t} (idle age : Nat) (inUse drop : Bool), s.view k = none → s.viewOf r t = none →
    (s.phase r).Viewable → P m s →
    P m (s.setView k (some ⟨t, r, (s.run r).liveBank, (s.run r).frame, idle, age, inUse, drop⟩)) := by
    intros; assumption
  viewsGone : ∀ {m s} (test : Nat → View → Bool), P m s →
    P { m with due := fun r b => m.due r b ∨ ∃ v ∈ s.viewsWhere test, v.region = r ∧ v.bank = b }
      (s.dropWhere test) := by intros; assumption

/-- A law is kept by the updates of the lifecycle of a region, with the parked words and the views that go with it. -/
structure KeptLife (P : Amid → State → Prop) : Prop where
  lifeNoted : ∀ {m s} r {f : Lifecycle → Lifecycle}, (∀ x, (f x).stage = x.stage) → P m s →
    P m (s.modLife r f) := by intros; assumption
  folding : ∀ {m s r} (n : Nat), m.leaving = .none → s.phase r = .retiring → P m s →
    P m (s.modLife r fun x => { x with stage := .folding, foldsOutstanding := n }) := by intros; assumption
  retired : ∀ {m s r}, m.leaving = .none → (s.region r).life.stage = .folding → P m s →
    P m (s.retirementEnd r) := by intros; assumption
  faulted : ∀ {m s r}, m.leaving = .none → (s.phase r).working = true → P m s →
    P { m with leaving := .entered r false } (s.modRun r Runtime.faulted) := by intros; assumption
  retiring : ∀ {m s r}, m.leaving = .none → (s.phase r).Viewable → P m s →
    P { m with leaving := .entered r true } ((s.modLife r Lifecycle.winding).modRun r Runtime.retiring) := by
    intros; assumption
  entriesDropped : ∀ {m s r x}, m.leaving = .entered r x → P m s →
    P { m with leaving := .emptied r x } (s.dropEntries r) := by intros; assumption
  viewless : ∀ {m s r x}, m.leaving = .emptied r x →
    (x = true → ∀ (k : Slot) (v : View), s.view k = some v → v.region ≠ r) → P m s →
    P { m with leaving := .viewless r } s := by intros; assumption
  left : ∀ {m s r}, m.leaving = .viewless r → s.headWaitsOn r = false → P m s →
    P { m with leaving := .none } s := by intros; assumption

/-- A law is kept by the updates of the Park Queue, and the head that may wait for it. -/
structure KeptPark (P : Amid → State → Prop) (G : State → RegionIx → Prop) : Prop where
  slot : ∀ {m s d}, (∀ k x, d = .waiting k x → (s.parked k).isSome = true) → P m s → P m (s.setSlot d) := by
    intros; assumption
  modEntry : ∀ {m s} k {f : ParkEntry → ParkEntry}, (∀ e, (f e).key = e.key) → P m s →
    P m (s.modEntry k f) := by intros; assumption
  removed : ∀ {m s} k, (∀ j x, s.park.slot ≠ .waiting j x) → P m s → P m (s.removeEntry k) := by
    intros; assumption
  placed : ∀ {m s r q}, G s r → s.headRequest = some q → s.newEntries r q ≤ s.emptyPlaces → P m s →
    P m (s.placeBeats r (s.parkTag r) ((s.config r).beatWord q 0) q.data) := by intros; assumption
  parkWaits : ∀ {m s r d timer k}, s.host.head = some ⟨.waitPark timer k, some d⟩ → d.region = some r →
    ¬m.leaving.of r → P m s → G s r := by intros; trivial
  writes : ∀ {s : State} {r : RegionIx} {q : HostRequest}, s.headRequest = some q → spansLines q = false → s.regionAt (byteAddr q) = some r →
    (s.config r).classOf (s.phase r) q = .writerWrite →
    G (s.setHead (some ⟨.decide, some (s.matchedDecision r q .writerWrite)⟩)) r := by intros; trivial
  waitsLine : ∀ {m s r}, G s r → P m s → P m (s.setProgress .waitLine) := by intros; assumption
  waitsPark : ∀ {m s r} (timer k : Nat), G s r → P m s → P m (s.setProgress (.waitPark timer k)) := by
    intros; assumption

/-- A law is kept by the updates of the Host Bus Port otherwise. -/
structure KeptHost (P : Amid → State → Prop) : Prop where
  progress : ∀ {m s p}, p.waits = false → P m s → P m (s.setProgress p) := by intros; assumption
  head : ∀ {m s p} d, s.host.queue ≠ [] → p.waits = false → P m s → P m (s.setHead (some ⟨p, d⟩)) := by
    intros; assumption
  headTick : ∀ {m s}, P m s → P m (s.setHead (s.host.head.map Head.tick)) := by intros; assumption
  burst : ∀ {m s} x, P m s → P m (s.setHost { s.host with burstSpan := x }) := by intros; assumption
  joined : ∀ {m s q}, q.wf = true → s.host.accepts = true → P m s → P m (s.setHost (s.host.join q)) := by
    intros; assumption
  next : ∀ {m s}, P m s → P m (s.setHost s.host.next) := by intros; assumption
  emptied : ∀ {m s}, P m s → P m (s.setHost ⟨[], none, true, s.host.burstSpan⟩) := by intros; assumption
  released : ∀ {m s}, P m s → P m (s.setHost { s.host with resetAsserted := false }) := by
    intros; assumption

/-- A law is kept by the updates of the Management Link, and what its commands bring about at once. -/
structure KeptLink (P : Amid → State → Prop) : Prop where
  firstByte : ∀ {m s}, s.link.discarding = false → (s.link.state = .idle ∨ s.link.state = .ready) → P m s →
    P m (s.setLink { s.link with state := .receiving, mdo := .zeros }) := by intros; assumption
  discards : ∀ {m s}, m.running = false → s.link.discarding = false → s.link.state = .executing → P m s →
    P m (s.setLink { s.link with discarding := true, mdo := .zeros }) := by intros; assumption
  frameDropped : ∀ {m s}, s.link.discarding = true → P m s → P m (s.setLink s.link.frameDropped) := by
    intros; assumption
  fetched : ∀ {m s} n, s.link.discarding = false → s.link.state ≠ .receiving → P m s →
    P m (s.setLink (s.link.fetch n)) := by intros; assumption
  runs : ∀ {m s}, s.Receiving → P m s → P { m with running := true } s.executing := by intros; assumption
  answered : ∀ {m s} x, m.running = true → P m s → P { m with running := false } (s.placeResponse x) := by
    intros; assumption
  enableWaits : ∀ {m s r} seq, m.running = true → s.phase r = .disabled → (s.region r).written = true →
    s.conflict r = none → P m s →
    P { m with running := false } (s.setLink { s.link with waiting := some (.enable r seq false) }) := by
    intros; assumption
  restartWaits : ∀ {m s} seq, m.running = true → P m s →
    P { m with running := false } (s.setLink { s.link with waiting := some (.restart seq) }) := by
    intros; assumption
  waitingChanged : ∀ {m s w}, w.isSome = s.link.waiting.isSome →
    (∀ r seq o, w = some (.enable r seq o) → ∃ o', s.link.waiting = some (.enable r seq o')) → P m s →
    P m (s.setLink { s.link with waiting := w }) := by intros; assumption
  enabledNow : ∀ {m s r} seq, m.running = true → s.phase r = .disabled → (s.region r).written = true →
    s.conflict r = none → P m s → P { m with running := false } (s.enableApply r seq) := by
    intros; assumption
  enabledDue : ∀ {m s r seq o}, s.link.waiting = some (.enable r seq o) → P m s →
    P m (s.enableApply r seq) := by intros; assumption
  restarted : ∀ {m s seq}, s.link.waiting = some (.restart seq) → P m s →
    P m (s.restartCleared.ack seq []) := by intros; assumption

/-- A law is kept by the one command that stores a region's entry (R189). -/
def KeptStore (P : Amid → State → Prop) : Prop :=
  ∀ (m : Amid) (s : State) (r : RegionIx) (x : RegionRecord) (resp : LinkResponse), m.running = true →
    s.phase r = .disabled → recordAccepted x = true → P m s →
    P { m with running := false } ((s.storeRegion r x).placeResponse resp)

/-- A law `P`, which may be relaxed while something is under way, is kept by every update the operations are
built from, each under the conditions it is made in. `G s r`: the head of `s` is a write that may wait for region
`r`. -/
structure Kept (P : Amid → State → Prop) (G : State → RegionIx → Prop) : Prop
    extends KeptBlocks P, KeptRuns P, KeptLife P, KeptPark P G, KeptHost P, KeptLink P

end Sys2Proof.Machine


/-! SUPPORT. A law that the updates keep is kept by every operation, from the notices up to the host-port reset. -/

namespace Sys2Proof.Machine

set_option Elab.async false

/-! ### What the operations are made of -/

/-- The engine's take changes the catch-up unit and what is requested of the bus, and nothing else (R72). -/
theorem State.engineTake_eq (s : State) :
    ∃ x b, s.engineTake = (s.setCatchup x).setBus b ∧ b.port = s.bus.port := by
  unfold State.engineTake
  split
  · split
    · exact ⟨s.catchup, s.bus, rfl, rfl⟩
    · exact ⟨_, _, rfl, rfl⟩
  · exact ⟨s.catchup, s.bus, rfl, rfl⟩

theorem State.modRegion_modRegion (s : State) (r : RegionIx) (f g : Region → Region) :
    (s.modRegion r f).modRegion r g = s.modRegion r fun x => g (f x) := by
  have hregion : (s.modRegion r f).region r = f (s.region r) := s.region_modRegion_self r f
  rw [State.modRegion, hregion]
  simp [State.modRegion]

theorem State.modRun_modRun (s : State) (r : RegionIx) (f g : Runtime → Runtime) :
    (s.modRun r f).modRun r g = s.modRun r fun t => g (f t) :=
  s.modRegion_modRegion r _ _

theorem State.modRun_eq_self {s : State} {r : RegionIx} {f : Runtime → Runtime} (h : f (s.run r) = s.run r) :
    s.modRun r f = s := by
  have hregion : ({ s.region r with run := f (s.region r).run } : Region) = s.region r := by
    rw [show f (s.region r).run = (s.region r).run from h]
  have hregions : s.regions.set r.val (s.region r) r.isLt = s.regions := by
    simp [State.region, Vector.get_eq_getElem]
  simp only [State.modRun, State.modRegion]
  rw [hregion, hregions]

/-- The runtime records after the catch-up unit and the bus have changed are those from before. -/
theorem State.run_congr {s t : State} (h : t.regions = s.regions) (r : RegionIx) : t.run r = s.run r := by
  simp [State.run, State.region_congr h]

theorem State.phase_congr {s t : State} (h : t.regions = s.regions) (r : RegionIx) : t.phase r = s.phase r := by
  simp [State.phase, State.region_congr h]

/-- Entries appended to the catch-up queue change the catch-up unit and what is requested of the bus (R68). -/
theorem State.appendLines_eq (s : State) (k : CopyKind) (l : List Nat) :
    ∃ x b, s.appendLines k l = (s.setCatchup x).setBus b ∧ b.port = s.bus.port := by
  obtain ⟨x, b, heq, hport⟩ := State.engineTake_eq
    ((s.setQueue (s.catchup.queue ++ l.map (⟨·, k⟩))).modLines fun j e =>
      if l.contains j then { e with queued := true } else e)
  exact ⟨x, b, heq, hport⟩

/-- A publication moves the roles and the frame; then come its catch-up part and its notice (R34 to R37). -/
theorem State.publishCore_eq (s : State) (r : RegionIx) :
    ∃ x b n, s.publishCore r =
        (((s.modRun r fun t => t.published (s.viewed r (s.run r).liveBank)).setCatchup x).setBus b).raiseNotice
          r .published none n ∧
      b.port = s.bus.port := by
  simp only [State.publishCore]
  generalize State.linesToFill _ r = fills
  obtain ⟨x, b, heq, hport⟩ := State.appendLines_eq
    ((s.modRun r fun t => t.published (s.viewed r (s.run r).liveBank)).modRange (s.config r)
      (LineEntry.published (s.run r).draftBank)) .fill fills
  exact ⟨x, b, _, by rw [heq]; rfl, hport⟩

/-- The catch-up part of a publication keeps the runtime records as they were published (R34 to R37). -/
theorem State.run_publishCore (s : State) (r j : RegionIx) :
    (s.publishCore r).run j =
      if j = r then (s.run r).published (s.viewed r (s.run r).liveBank) else s.run j := by
  obtain ⟨x, b, n, heq, -⟩ := s.publishCore_eq r
  rw [heq, State.run_congr (State.raiseNotice_frame _ r .published none n).1 j]
  exact s.run_modRun r j fun t => t.published (s.viewed r (s.run r).liveBank)

theorem State.phase_publishCore (s : State) (r : RegionIx) : (s.publishCore r).phase r = .opened := by
  have := s.run_publishCore r r
  simp only [if_true] at this
  exact (congrArg Runtime.phase this).trans rfl

section
variable {P : Amid → State → Prop} {G : State → RegionIx → Prop} {m : Amid} {s : State} (h : Kept P G)
include h

/-! ### Notices and counters -/

theorem Kept.raiseNotice (hs : P m s) (r : RegionIx) (k : NoticeKind) (t : Option Tag) (d : BitVec 16) :
    P m (s.raiseNotice r k t d) := by
  unfold State.raiseNotice
  split
  · exact h.enqueue _ hs
  · exact hs

theorem Kept.chargeRefusal (hs : P m s) (r : RegionIx) (t : Tag) (w : RefuseReason) :
    P m (s.chargeRefusal r t w) := by
  simp only [State.chargeRefusal]
  split
  · exact h.raiseNotice (h.counters _ _ hs) ..
  · exact h.counters _ _ hs

theorem Kept.chargeShortage (hs : P m s) (r : RegionIx) (t : Tag) : P m (s.chargeShortage r t) := by
  simp only [State.chargeShortage]
  split
  · exact h.raiseNotice (h.counters _ _ hs) ..
  · exact h.counters _ _ hs

theorem Kept.chargeEmpty (hs : P m s) (r : RegionIx) (x : Source) : P m (s.chargeEmpty r x) :=
  h.raiseNotice (h.counters _ _ hs) ..

theorem Kept.chargeMerged (hs : P m s) (r : RegionIx) (x : Source) : P m (s.chargeMerged r x) :=
  h.raiseNotice (h.counters _ _ hs) ..

theorem Kept.chargeHeld (hs : P m s) (r : RegionIx) : P m (s.chargeHeld r) :=
  h.raiseNotice (h.counters _ _ hs) ..

theorem Kept.chargeExpiry (hs : P m s) (v : View) : P m (s.chargeExpiry v) :=
  h.raiseNotice (h.counters _ _ hs) ..

theorem Kept.chargeParkTimeout (hs : P m s) (r : RegionIx) (t : Tag) (k : Nat) :
    P m (s.chargeParkTimeout r t k) :=
  h.raiseNotice (h.counters _ _ hs) ..

theorem Kept.chargeCopyRetry (hs : P m s) (c : Copy) (x : FailCause) : P m (s.chargeCopyRetry c x) :=
  h.raiseNotice (h.counters _ _ hs) ..

/-! ### The memory bus and the catch-up unit -/

theorem Kept.requestHost (hs : P m s) (a : HostAccess) : P m (s.requestHost a) := h.bus (fun e => e) hs

theorem Kept.requestDrain (hs : P m s) (a : Access) : P m (s.requestDrain a) := h.bus (fun e => e) hs

theorem Kept.requestCatchup (hs : P m s) (a : Access) : P m (s.requestCatchup a) := h.bus (fun e => e) hs

theorem Kept.grantNext (hs : P m s) : P m s.grantNext := by
  unfold State.grantNext
  split
  · rename_i hgrant
    have hidle : s.bus.port = .idle := (s.grantable_iff.mp hgrant).1
    split
    · exact hs
    · split
      · exact hs
      · exact h.bus (fun e => absurd (hidle.symm.trans e) (by simp)) hs
  · exact hs

theorem Kept.engineTake (hs : P m s) : P m s.engineTake := by
  obtain ⟨x, b, heq, hport⟩ := s.engineTake_eq
  rw [heq]
  exact h.bus (fun e => hport.trans e) (h.catchup x hs)

theorem Kept.appendLines (hs : P m s) (k : CopyKind) (l : List Nat) : P m (s.appendLines k l) :=
  h.engineTake (h.catchup _ (h.catchup _ hs))

theorem Kept.promote (hs : P m s) (i : Nat) : P m (s.promote i) := h.engineTake (h.catchup _ hs)

theorem Kept.removeFills (hs : P m s) (r : RegionIx) : P m (s.removeFills r) := h.catchup _ (h.catchup _ hs)

theorem Kept.engineNext (hs : P m s) : P m s.engineNext := h.engineTake (h.catchup _ hs)

theorem Kept.startReading (hs : P m s) (c : Copy) (x : Bool) : P m (s.startReading c x) :=
  h.requestCatchup (h.catchup _ hs) _

/-! ### The draft write path and the drain slot -/

theorem Kept.markDirty (hs : P m s) (r : RegionIx) (i : Nat) : P m (s.markDirty r i) := by
  unfold State.markDirty
  split
  · exact hs
  · exact h.tally r (fun _ => rfl) (h.catchup _ hs)

theorem Kept.countIssue (hs : P m s) (r : RegionIx) (i : Nat) : P m (s.countIssue r i) :=
  h.tally r (fun _ => rfl) (h.markDirty hs r i)

theorem Kept.slotIdle (hs : P m s) : P m (s.setSlot .idle) := h.slot (by simp) hs

theorem Kept.issueDrain (hs : P m s) (k : ParkKey) (x : Bool) : P m (s.issueDrain k x) := by
  unfold State.issueDrain
  split
  · exact h.slotIdle hs
  · exact h.slot (by simp) (h.modEntry k (fun _ => rfl) (h.countIssue (h.requestDrain hs _) ..))

/-- A drain write of a parked word reaches the draft write path (R81, R98). -/
theorem Kept.drainTry (hs : P m s) {k : ParkKey} (hk : (s.parked k).isSome = true) (x : Bool) :
    P m (s.drainTry k x) := by
  have hwait : P m (s.setSlot (.waiting k x)) :=
    h.slot (fun j y e => by obtain ⟨rfl, rfl⟩ := DrainSlot.waiting.inj e; exact hk) hs
  simp only [State.drainTry]
  split
  · exact h.issueDrain hwait ..
  · split
    · exact h.promote hwait _
    · exact hwait

omit h in
theorem State.parked_isSome_of_mem {e : ParkEntry} (he : e ∈ s.park.entries) :
    (s.parked e.key).isSome = true := by
  simpa [State.parked, List.find?_isSome] using ⟨e, he, rfl⟩

theorem Kept.drainNext (hs : P m s) : P m s.drainNext := by
  unfold State.drainNext
  split
  · split
    · exact hs
    · split
      · exact hs
      · rename_i e hfind
        exact h.drainTry hs (State.parked_isSome_of_mem (List.mem_of_find?_eq_some hfind)) false
  · exact hs

theorem Kept.drainRelease (hs : P m s) : P m s.drainRelease := by
  unfold State.drainRelease
  split
  · split
    · exact h.issueDrain hs ..
    · exact hs
  · exact hs

/-! ### The Rotation Unit -/

/-- After a publication, up to the follow-on flag, which is still as it stood in PENDING (R34 to R37). -/
theorem Kept.publishCore_cleared {r : RegionIx} (hp : s.phase r = .pending) (hd : s.condD r = true)
    (hs : P m s) : P m ((s.publishCore r).modRun r fun t => { t with followOn := false }) := by
  obtain ⟨x, b, n, heq, hport⟩ := s.publishCore_eq r
  have hbus : P m
      (((s.modRun r fun t => { t.published (s.viewed r (s.run r).liveBank) with followOn := false }).setCatchup
        x).setBus b) :=
    h.bus (fun e => hport.trans e) (h.catchup x (h.published hp hd hs))
  rw [heq, State.raiseNotice]
  generalize s.viewed r (s.run r).liveBank = viewed at hbus ⊢
  have hcomm : ((s.modRun r fun t => t.published viewed).modRun r fun t => { t with followOn := false }) =
      s.modRun r fun t => { t.published viewed with followOn := false } := s.modRun_modRun r _ _
  split
  · have := h.enqueue ⟨.published, r,
      ((((s.modRun r fun t => t.published viewed).setCatchup x).setBus b).run r).frame, none, n,
      s.clock.tickCount⟩ hbus
    rw [← hcomm] at this
    exact this
  · rw [← hcomm] at hbus
    exact hbus

theorem Kept.publishCore_of_clear {r : RegionIx} (hp : s.phase r = .pending) (hd : s.condD r = true)
    (hclear : (s.run r).followOn = false) (hs : P m s) : P m (s.publishCore r) := by
  have hcleared := h.publishCore_cleared hp hd hs
  rwa [State.modRun_eq_self] at hcleared
  have hrun := s.run_publishCore r r
  rw [if_pos rfl] at hrun
  rw [hrun]
  simp [Runtime.published, hclear]

theorem Kept.noteHeld {r : RegionIx} (hp : s.phase r = .pending) (hs : P m s) : P m (s.noteHeld r) := by
  unfold State.noteHeld
  split
  · exact hs
  · exact h.chargeHeld (h.flags (fun t => t.followOn) (fun _ => true) hp hs) r

theorem Kept.waitNoted {r : RegionIx} (hp : s.phase r = .pending) (hs : P m s) : P m (s.waitNoted r) := by
  unfold State.waitNoted
  split
  · exact h.noteHeld hp hs
  · exact hs

omit h in
theorem State.condD_of_canPublish {r : RegionIx} (hcan : s.canPublish r = true) : s.condD r = true := by
  simp only [State.canPublish, Bool.and_eq_true] at hcan
  exact hcan.2

omit h in
theorem State.phase_modRun_self (s : State) (r : RegionIx) (f : Runtime → Runtime) :
    (s.modRun r f).phase r = (f (s.run r)).phase := by
  have := s.run_modRun_self r f
  exact congrArg Runtime.phase this

/-- A publication, its follow-on included (R34 to R38). -/
theorem Kept.followOn_publishCore {r : RegionIx} (hp : s.phase r = .pending) (hd : s.condD r = true)
    (hs : P m s) : P m ((s.publishCore r).followOn r) := by
  have hclear := h.publishCore_cleared hp hd hs
  have hopen : ((s.publishCore r).modRun r fun t => { t with followOn := false }).phase r = .opened :=
    (State.phase_modRun_self ..).trans (s.phase_publishCore r)
  unfold State.followOn
  split
  · simp only
    split
    · exact h.chargeEmpty hclear ..
    · have henter := h.pendingEntered hopen hclear
      have hpend := State.phase_modRun_self ((s.publishCore r).modRun r fun t => { t with followOn := false }) r
        fun t => { t with phase := .pending, followOn := false, heldNotice := false }
      split
      · rename_i hcan
        refine h.publishCore_of_clear hpend (State.condD_of_canPublish hcan) ?_ henter
        exact congrArg Runtime.followOn (State.run_modRun_self ..)
      · exact h.waitNoted hpend henter
  · rename_i hflag
    rwa [State.modRun_eq_self] at hclear
    cases hrun : (s.publishCore r).run r
    simp_all

theorem Kept.publish {r : RegionIx} (hp : s.phase r = .pending) (hd : s.condD r = true) (hs : P m s) :
    P m (s.publish r) :=
  h.drainNext (h.followOn_publishCore hp hd hs)

theorem Kept.evaluate (hs : P m s) (r : RegionIx) : P m (s.evaluate r) := by
  unfold State.evaluate
  split
  · rename_i hp
    rw [beq_iff_eq] at hp
    split
    · rename_i hcan
      exact h.publish hp (State.condD_of_canPublish hcan) hs
    · exact h.waitNoted hp hs
  · exact hs

theorem Kept.takeTrigger (hs : P m s) (r : RegionIx) (x : Source) : P m (s.takeTrigger r x) := by
  unfold State.takeTrigger
  split
  · rename_i hp
    split
    · exact h.chargeEmpty hs ..
    · exact h.evaluate (h.pendingEntered hp hs) r
  · rename_i hp
    split
    · exact h.chargeMerged hs ..
    · exact h.flags (fun _ => true) (fun t => t.heldNotice) hp hs
  · exact hs

theorem Kept.deliver (hs : P m s) (r : RegionIx) (x : Source) : P m (s.deliver r x) := by
  unfold State.deliver
  split
  · exact h.takeTrigger (h.counters _ _ hs) ..
  · exact hs

theorem Kept.deliverStrobe (hs : P m s) (line : Fin 4) (rising : Bool) : P m (s.deliverStrobe line rising) := by
  simp only [State.deliverStrobe]
  generalize regionIxs = l
  induction l generalizing s with
  | nil => exact hs
  | cons r l ih =>
    rw [List.foldl_cons]
    refine ih ?_
    split
    · exact h.deliver hs ..
    · exact hs

/-! ### Views ending -/

omit h in
theorem State.viewed_congr {s t : State} (hviews : t.views = s.views) (r : RegionIx) (b : Bank) :
    t.viewed r b = s.viewed r b := by
  simp [State.viewed, State.view, hviews]

omit h in
theorem PerBank.get_set {α : Type} (p : PerBank α) (x : α) (b e : Bank) :
    (p.set x b).get e = if e = b then x else p.get e := by
  cases b <;> cases e <;> rfl

/-- The report that a bank has lost its last view: it is due no longer (R39, R57). -/
theorem Kept.lastViewEnded {r : RegionIx} {b : Bank} {due : RegionIx → Bank → Prop}
    (hdue : ∀ j e, m.due j e → due j e ∨ j = r ∧ e = b) (hview : s.viewed r b = false) (hs : P m s) :
    P { m with due := due } (s.lastViewEnded r b) := by
  refine h.evaluate ?_ r
  split
  · rename_i hheld
    refine h.undue (fun j e hje => ?_) (h.freed (eq_of_beq hheld) hview hs)
    refine (hdue j e hje).imp_right fun ⟨hj, he⟩ => .inl ?_
    subst hj he
    rw [State.run_modRun_self]
    simp [PerBank.get_set]
  · rename_i hheld
    refine h.undue (fun j e hje => ?_) hs
    refine (hdue j e hje).imp_right fun ⟨hj, he⟩ => .inl ?_
    subst hj he
    simpa using hheld

/-- The banks of a region that views which are gone referred to. -/
def lostOf (gone : List View) (r : RegionIx) (b : Bank) : Prop := ∃ v ∈ gone, v.region = r ∧ v.bank = b

omit h in
/-- Views and the head's port stay as they stand while banks are reported. -/
theorem State.viewed_lastViewEnded (s : State) (r j : RegionIx) (b e : Bank) :
    (s.lastViewEnded r b).viewed j e = s.viewed j e :=
  State.viewed_congr (s.lastViewEnded_frame r b).1 j e

theorem Kept.reportLost {r : RegionIx} {due : RegionIx → Bank → Prop} (l : List Bank)
    (hdue : ∀ j e, m.due j e → due j e ∨ j = r ∧ e ∈ l) (hview : ∀ b ∈ l, s.viewed r b = false) (hs : P m s) :
    P { m with due := due } (l.foldl (fun s b => s.lastViewEnded r b) s) := by
  induction l generalizing m s with
  | nil => exact h.undue (fun j e hje => .inl ((hdue j e hje).resolve_right (by simp))) hs
  | cons b l ih =>
    rw [List.foldl_cons]
    refine ih (m := { m with due := fun j e => due j e ∨ j = r ∧ e ∈ l }) (fun j e hje => hje)
      (fun e he => ?_) (h.lastViewEnded (fun j e hje => ?_) (hview b (by simp)) hs)
    · rw [State.viewed_lastViewEnded]
      exact hview e (by simp [he])
    · rcases hdue j e hje with hd | ⟨rfl, he⟩
      · exact .inl (.inl hd)
      · rcases List.mem_cons.mp he with rfl | he
        · exact .inr ⟨rfl, rfl⟩
        · exact .inl (.inr ⟨rfl, he⟩)

theorem Kept.reportRegion {gone : List View} {r : RegionIx} {due : RegionIx → Bank → Prop}
    (hdue : ∀ j e, m.due j e → due j e ∨ j = r ∧ lostOf gone r e) (hs : P m s) :
    P { m with due := due } (s.reportRegion gone r) := by
  simp only [State.reportRegion]
  generalize hlost : (banks.filter fun b => (gone.any fun v => v.on r && v.bank == b) && !s.viewed r b) = lost
  have hmem (b : Bank) : b ∈ lost ↔ lostOf gone r b ∧ s.viewed r b = false := by
    simp [← hlost, mem_banks, lostOf, View.on]
  have hundue : P { m with due := fun j e => due j e ∨ j = r ∧ e ∈ lost } s := by
    refine h.undue (fun j e hje => ?_) hs
    rcases hdue j e hje with hd | ⟨rfl, he⟩
    · exact .inl (.inl hd)
    · cases hv : s.viewed j e
      · exact .inl (.inr ⟨rfl, (hmem e).mpr ⟨he, hv⟩⟩)
      · exact .inr (.inr rfl)
  refine h.reportLost (m := { m with due := fun j e => due j e ∨ j = r ∧ e ∈ lost }) _ (fun j e hje => ?_)
    (fun b hb => ?_) hundue
  · refine hje.imp_right fun ⟨hj, he⟩ => ⟨hj, ?_⟩
    cases hr : (s.run r).roles.get e == .held <;> simp [he, hr]
  · have hb : b ∈ lost := by
      rw [List.mem_append, List.mem_filter, List.mem_filter] at hb
      exact hb.elim And.left And.left
    exact ((hmem b).mp hb).2

/-- The bank reports of one happening: every bank that lost a view is due no longer (R57). -/
theorem Kept.reportBanks {gone : List View} {due : RegionIx → Bank → Prop}
    (hdue : ∀ j e, m.due j e → due j e ∨ lostOf gone j e) (hs : P m s) :
    P { m with due := due } (s.reportBanks gone) := by
  have hall (l : List RegionIx) : ∀ (m : Amid) (s : State),
      (∀ j e, m.due j e → due j e ∨ j ∈ l ∧ lostOf gone j e) → P m s →
      P { m with due := due } (l.foldl (fun s r => s.reportRegion gone r) s) := by
    induction l with
    | nil =>
      intro m s hdue hs
      exact h.undue (fun j e hje => .inl ((hdue j e hje).resolve_right (by simp))) hs
    | cons r l ih =>
      intro m s hdue hs
      rw [List.foldl_cons]
      refine ih { m with due := fun j e => due j e ∨ j ∈ l ∧ lostOf gone j e } _ (fun j e hje => hje)
        (h.reportRegion (fun j e hje => ?_) hs)
      rcases hdue j e hje with hd | ⟨hj, he⟩
      · exact .inl (.inl hd)
      · rcases List.mem_cons.mp hj with rfl | hj
        · exact .inr ⟨rfl, he⟩
        · exact .inl (.inr ⟨hj, he⟩)
  exact hall regionIxs m s (fun j e hje => (hdue j e hje).imp_right fun he => ⟨mem_regionIxs j, he⟩) hs

theorem Kept.removeViews (hs : P m s) (test : Nat → View → Bool) : P m (s.removeViews test) :=
  h.reportBanks (m := { m with due := fun r b => m.due r b ∨ lostOf (s.viewsWhere test) r b })
    (fun _ _ hje => hje) (h.viewsGone test hs)

theorem Kept.expireViews (hs : P m s) (test : Nat → View → Bool) : P m (s.expireViews test) := by
  simp only [State.expireViews]
  refine h.reportBanks (m := { m with due := fun r b => m.due r b ∨ lostOf (s.viewsWhere test) r b })
    (fun _ _ hje => hje) ?_
  have hgone := h.viewsGone test hs
  generalize hl : s.viewsWhere test = l at hgone ⊢
  generalize hm : ({ m with due := fun r b => m.due r b ∨ ∃ v ∈ l, v.region = r ∧ v.bank = b } : Amid) = m' at hgone
  have hall (l : List View) : ∀ s : State, P m' s → P m' (l.foldl (fun s v => s.chargeExpiry v) s) := by
    induction l with
    | nil => exact fun s hs => hs
    | cons v l ih => exact fun s hs => ih _ (h.chargeExpiry hs v)
  have := hall l _ hgone
  rw [← hm] at this
  exact this

omit h in
theorem State.view_setViews_set (s : State) (k j : Slot) (v : Option View) :
    (s.views.set k.val v k.isLt).get j = if j = k then v else s.view j :=
  s.view_setView k j v

/-- A view changed in the fields that do change (R45). -/
theorem Kept.setView {k : Slot} {v : View} (hk : s.view k = some v) {x : View} (hx : x.fixed = v.fixed)
    (hs : P m s) : P m (s.setView k (some x)) := by
  refine h.viewMarks (fun j => ?_) hs
  rw [State.view_setViews_set]
  split
  · rename_i hj
    simp [hj, hk, hx]
  · rfl

theorem Kept.endUse (hs : P m s) (k : Slot) (close : Bool) : P m (s.endUse k close) := by
  unfold State.endUse
  split
  · exact hs
  · rename_i v hk
    split
    · have hmark : P m (s.setView k (some { v with inUse := false })) := h.setView hk rfl hs
      simp only
      split
      · exact h.removeViews hmark _
      · split
        · exact h.expireViews hmark _
        · exact hmark
    · exact hs

theorem Kept.refreshView (hs : P m s) (k : Slot) : P m (s.refreshView k) := by
  unfold State.refreshView
  split
  · exact hs
  · rename_i v hk
    exact h.setView hk rfl hs

theorem Kept.openView {k : Slot} {r : RegionIx} {t : Tag} (hk : s.view k = none) (hnone : s.viewOf r t = none)
    (hp : (s.phase r).Viewable) (hs : P m s) : P m (s.openView k r t) :=
  h.counters r (fun x => { x with viewsOpened := satInc x.viewsOpened })
    (h.viewOpened (s.config r).viewIdle (s.config r).viewAge true false hk hnone hp hs)

/-! ### The Region Lifecycle -/

theorem Kept.enableDue (hs : P m s) : P m s.enableDue := by
  unfold State.enableDue
  split
  · rename_i hwait
    split
    · exact hs
    · exact h.enabledDue hwait hs
  · exact hs

theorem Kept.endIfFolded (hm : m.leaving = .none) (hs : P m s) (r : RegionIx) : P m (s.endIfFolded r) := by
  unfold State.endIfFolded
  split
  · rename_i hstage
    rw [Bool.and_eq_true, beq_iff_eq] at hstage
    exact h.retired hm hstage.1 hs
  · exact hs

omit h in
theorem State.foldReady_phase {r : RegionIx} (hready : s.foldReady r = true) : s.phase r = .retiring := by
  simp only [State.foldReady, Bool.and_eq_true, beq_iff_eq] at hready
  exact hready.1.1.1

theorem Kept.foldBack (hm : m.leaving = .none) (hs : P m s) (r : RegionIx) : P m (s.foldBack r) := by
  unfold State.foldBack
  split
  · rename_i hready
    refine h.endIfFolded hm (h.folding _ hm ?_ (h.appendLines hs ..)) r
    rw [State.phase_congr (s.appendLines_frame .fold _).1]
    exact State.foldReady_phase hready
  · exact hs

theorem Kept.foldReport (hm : m.leaving = .none) (hs : P m s) (r : RegionIx) (x : Bool) :
    P m (s.foldReport r x) := by
  unfold State.foldReport
  refine h.endIfFolded hm (h.lifeNoted r ?_ hs) r
  exact fun _ => rfl

theorem Kept.draftWriteDone (hm : m.leaving = .none) (hs : P m s) (r : RegionIx) : P m (s.draftWriteDone r) :=
  h.foldBack hm (h.evaluate (h.tally r (fun _ => rfl) hs) r) r

/-! ### The Host Bus Port -/

theorem Kept.endDecisionUse (hs : P m s) (d : Option Decision) : P m (s.endDecisionUse d) := by
  unfold State.endDecisionUse
  split
  · exact hs
  · split
    · exact hs
    · exact h.endUse hs ..

theorem Kept.giveResponse (hs : P m s) (x : HostResponse) : P m (s.giveResponse x) :=
  h.drainRelease (h.enableDue (h.endDecisionUse (h.progress rfl hs) _))

theorem Kept.abortHead (hs : P m s) (r : RegionIx) : P m (s.abortHead r) := by
  unfold State.abortHead
  split
  · exact h.giveResponse hs _
  · exact hs

theorem Kept.wordTrigger (hs : P m s) (r : RegionIx) (x : Bool) : P m (s.wordTrigger r x) := by
  unfold State.wordTrigger
  split
  · exact h.deliver hs ..
  · exact hs

omit h in
theorem State.queue_ne_nil {q : HostRequest} (hq : s.headRequest = some q) : s.host.queue ≠ [] := by
  intro hnil
  simp [State.headRequest, hnil] at hq

theorem Kept.issueHost (hs : P m s) (r : RegionIx) : P m (s.issueHost r) := by
  unfold State.issueHost
  split
  · rename_i hq _
    simp only
    exact h.wordTrigger (h.countIssue (h.requestHost (h.head _ (State.queue_ne_nil hq) rfl hs) _) ..) ..
  · exact hs

theorem Kept.draftWrite {r : RegionIx} (hg : G s r) (hs : P m s) (q : HostRequest) : P m (s.draftWrite r q) := by
  simp only [State.draftWrite]
  split
  · split
    · exact h.promote (h.waitsLine hg hs) _
    · exact h.waitsLine hg hs
  · exact h.issueHost hs r

theorem Kept.parkWrite {r : RegionIx} (hg : G s r) (hs : P m s) (timer : Nat) : P m (s.parkWrite r timer) := by
  simp only [State.parkWrite]
  split
  · rename_i hq _
    split
    · rename_i hroom
      exact h.drainNext (h.wordTrigger (h.giveResponse (h.placed hg hq hroom hs) _) ..)
    · split
      · exact h.waitsPark _ _ hg hs
      · exact h.chargeParkTimeout (h.giveResponse hs _) ..
  · exact hs

/-- A head in WAIT_PARK is evaluated again, unless its region is on its way out (R93, R101). -/
theorem Kept.reevaluatePark (hm : ∀ r, m.leaving.of r → s.headWaitsOn r = false) (hs : P m s) :
    P m s.reevaluatePark := by
  unfold State.reevaluatePark
  split
  · rename_i timer k d hhead
    split
    · rename_i r hr
      refine h.parkWrite (h.parkWaits hhead hr (fun hof => ?_) hs) hs timer
      have := hm r hof
      simp [State.headWaitsOn, hhead, hr] at this
    · exact hs
  · exact hs

theorem Kept.releaseWrites (hs : P m s) (r : RegionIx) (ix : Nat) : P m (s.releaseWrites r ix) := by
  have hdrain (t : State) (ht : P m t) : P m (if t.drainWaitsForLine r ix then t.drainRelease else t) := by
    split
    · exact h.drainRelease ht
    · exact ht
  refine hdrain _ ?_
  split
  · exact h.issueHost hs r
  · exact hs

theorem Kept.lineCurrent (hs : P m s) (r : RegionIx) (ix : Nat) : P m (s.lineCurrent r ix) :=
  h.evaluate (h.releaseWrites hs r ix) r

theorem Kept.accessMemory (hqueue : s.host.queue ≠ []) (hs : P m s) (q : HostRequest) (d : Decision)
    (p : HostPurpose) : P m (s.accessMemory q d p) :=
  h.requestHost (h.head _ hqueue rfl hs) _

theorem Kept.refuse (hqueue : s.host.queue ≠ []) (hs : P m s) (r : RegionIx) (q : HostRequest)
    (why : RefuseReason) : P m (s.refuse r q why) :=
  h.giveResponse (h.chargeRefusal (h.head _ hqueue rfl hs) ..) _

theorem Kept.writerRead (hqueue : s.host.queue ≠ []) (hs : P m s) (r : RegionIx) (q : HostRequest) :
    P m (s.writerRead r q) :=
  h.accessMemory hqueue hs ..

omit h in
theorem State.view_of_emptySlot {k : Slot} (hk : s.emptySlot = some k) : s.view k = none := by
  have := List.find?_some hk
  simpa using this

theorem Kept.viewRead {r : RegionIx} (hqueue : s.host.queue ≠ []) (hp : (s.phase r).Viewable) (hs : P m s)
    (q : HostRequest) : P m (s.viewRead r q) := by
  simp only [State.viewRead]
  split
  · exact h.accessMemory (by simpa using hqueue) (h.refreshView hs _) ..
  · rename_i hnone
    split
    · rename_i hempty
      exact h.accessMemory (by simpa using hqueue)
        (h.openView (State.view_of_emptySlot hempty) hnone hp hs) ..
    · exact h.accessMemory (by simpa using hqueue) (h.chargeShortage hs ..) ..

theorem Kept.writerWrite {r : RegionIx} {q : HostRequest} (hqueue : s.host.queue ≠ [])
    (hg : G (s.setHead (some ⟨.decide, some (s.matchedDecision r q .writerWrite)⟩)) r) (hs : P m s) :
    P m (s.writerWrite r q) := by
  have hhead := h.head (some (s.matchedDecision r q .writerWrite)) (p := .decide) hqueue rfl hs
  simp only [State.writerWrite]
  split
  · exact h.parkWrite hg hhead _
  · exact h.draftWrite hg hhead q

omit h in
/-- The region found for an address is active and holds it (R9). -/
theorem State.regionAt_spec {addr : Nat} {r : RegionIx} (hr : s.regionAt addr = some r) :
    (s.phase r).active = true ∧ (s.config r).inAreas addr = true := by
  have := List.find?_some hr
  simpa using this

omit h in
/-- A class that brings a request into the window of a region is not given in RETIRING (R11). -/
theorem RegionConfig.classOf_retiring (c : RegionConfig) (q : HostRequest) :
    ∃ why, c.classOf .retiring q = .refused why := by
  unfold RegionConfig.classOf
  split
  · exact ⟨.phase, rfl⟩
  · exact ⟨.shadow, rfl⟩

omit h in
theorem State.viewable_of_regionAt {q : HostRequest} {r : RegionIx} (hr : s.regionAt (byteAddr q) = some r)
    (hclass : ∀ why, (s.config r).classOf (s.phase r) q ≠ .refused why) : (s.phase r).Viewable := by
  rcases (Phase.active_iff _).mp (State.regionAt_spec hr).1 with hp | hp
  · obtain ⟨why, hwhy⟩ := (s.config r).classOf_retiring q
    exact absurd (hp ▸ hwhy) (hclass why)
  · exact hp

theorem Kept.sendOn {q : HostRequest} (hq : s.headRequest = some q) (hspan : spansLines q = false)
    (hs : P m s) : P m (s.sendOn q) := by
  have hqueue := State.queue_ne_nil hq
  unfold State.sendOn
  split
  · exact h.accessMemory hqueue hs ..
  · rename_i r hr
    split
    · exact h.accessMemory hqueue hs ..
    · exact h.refuse hqueue hs ..
    · rename_i hclass
      exact h.writerWrite hqueue (h.writes hq hspan hr hclass) hs
    · exact h.writerRead hqueue hs ..
    · rename_i hclass
      exact h.viewRead hqueue (State.viewable_of_regionAt hr (by simp [hclass])) hs q

theorem Kept.refuseSpan (hs : P m s) : P m s.refuseSpan := h.giveResponse (h.burst _ hs) _

theorem Kept.decideHead (hs : P m s) : P m s.decideHead := by
  unfold State.decideHead
  split
  · rename_i hq
    split
    · exact hs
    · split
      · exact h.refuseSpan hs
      · rename_i hspan
        exact h.sendOn hq (by simpa using hspan) hs
  · exact hs

end
end Sys2Proof.Machine


/-! SUPPORT. A law that the updates keep is kept by a fault, a retirement, a restart, the end of a transaction, and
so by every command. -/

namespace Sys2Proof.Machine

set_option Elab.async false

/-! ### What the transitions rest on -/

theorem State.drainNext_of_busy {s : State} (h : s.park.slot ≠ .idle) : s.drainNext = s := by
  unfold State.drainNext
  split
  · rename_i hidle
    exact absurd hidle h
  · rfl

/-- An evaluation leaves the Park Queue as it stands while the drain slot is taken. -/
theorem State.evaluate_park_of_busy {s : State} (h : s.park.slot ≠ .idle) (r : RegionIx) :
    (s.evaluate r).park = s.park := by
  unfold State.evaluate
  split
  · split
    · rw [State.publish, State.drainNext_of_busy (by simpa using h)]
      simp
    · simp
  · rfl

theorem State.draftWriteDone_park_of_busy {s : State} (h : s.park.slot ≠ .idle) (r : RegionIx) :
    (s.draftWriteDone r).park = s.park := by
  rw [State.draftWriteDone, (State.foldBack_frame _ r).2.1, State.evaluate_park_of_busy (by simpa using h)]
  simp

theorem State.phase_modLife (s : State) (r j : RegionIx) (f : Lifecycle → Lifecycle) :
    (s.modLife r f).phase j = s.phase j :=
  congrArg Runtime.phase (s.run_modLife r j f)

theorem State.headWaitsOn_abortHead (s : State) (r : RegionIx) : (s.abortHead r).headWaitsOn r = false := by
  unfold State.abortHead
  split
  · unfold State.headWaitsOn
    rw [State.giveResponse_host]
    cases s.host.head <;> rfl
  · rename_i hwaits
    simpa using hwaits

theorem State.view_removeViews (s : State) (test : Nat → View → Bool) (k : Slot) :
    (s.removeViews test).view k = (s.view k).filter fun v => !test k.val v := by
  rw [← s.view_dropWhere test k, State.removeViews, State.view, (State.reportBanks_frame _ _).1]
  rfl

theorem State.parked_modEntry_isSome {s : State} {k : ParkKey} {f : ParkEntry → ParkEntry}
    (hf : ∀ e, (f e).key = e.key) (h : (s.parked k).isSome = true) :
    ((s.modEntry k f).parked k).isSome = true := by
  obtain ⟨e, he, hkey⟩ := List.find?_isSome.mp h
  refine List.find?_isSome.mpr ⟨_, List.mem_map_of_mem he, ?_⟩
  simp only [beq_iff_eq] at hkey ⊢
  rw [if_pos hkey, hf, hkey]

/-- RESTART has emptied the View Table and the Park Queue, and is itself the command that waits: the response that
it gives a waiting head brings about nothing more (R150). -/
theorem State.restartBlocks_giveResponse {s : State} {seq : Byte} (h : s.link.waiting = some (.restart seq))
    (x : HostResponse) : s.restartBlocks.giveResponse x = s.restartBlocks.setProgress (.respond x) := by
  have hview (t : State) (ht : t.views = Vector.replicate 32 none) (d : Option Decision) :
      t.endDecisionUse d = t := by
    unfold State.endDecisionUse
    split
    · rfl
    · split
      · rfl
      · simp [State.endUse, State.view, ht, Vector.get_eq_getElem]
  rw [State.giveResponse, hview _ (by simp [State.restartBlocks])]
  have henable : (s.restartBlocks.setProgress (.respond x)).enableDue =
      s.restartBlocks.setProgress (.respond x) := by
    simp [State.enableDue, State.restartBlocks, h]
  rw [henable]
  simp [State.drainRelease, State.restartBlocks, ParkQueue.empty, State.setProgress, State.setHead]

theorem State.restartApply_eq {s : State} {seq : Byte} (h : s.link.waiting = some (.restart seq)) :
    s.restartApply seq = (s.restartCleared.ack seq []).decideHead := by
  simp only [State.restartApply, State.restartCleared, State.restartBlocks_giveResponse h]

section
variable {P : Amid → State → Prop} {G : State → RegionIx → Prop} {m : Amid} {s : State} (h : Kept P G)
include h

/-! ### Faults and retirement -/

theorem Kept.noteDiscard (hs : P m s) (r : RegionIx) (n : Nat) : P m (s.noteDiscard r n) := by
  unfold State.noteDiscard
  split
  · exact hs
  · exact h.raiseNotice hs ..

theorem Kept.reevaluateOthers {r : RegionIx} {x : Bool} (hm : m.leaving = .emptied r x) (hs : P m s) (n : Nat) :
    P m (s.reevaluateOthers r n) := by
  unfold State.reevaluateOthers
  split
  · exact hs
  · rename_i hwaits
    refine h.reevaluatePark (fun j hj => ?_) hs
    rw [hm] at hj
    obtain rfl : r = j := hj
    simp only [Bool.or_eq_true, decide_eq_true_eq, not_or] at hwaits
    simpa using hwaits.2

theorem Kept.parkDiscard {r : RegionIx} {x : Bool} (hm : m.leaving = .entered r x) (hs : P m s) :
    P { m with leaving := .emptied r x } (s.parkDiscard r) :=
  h.drainNext (h.reevaluateOthers rfl (h.noteDiscard (h.entriesDropped hm hs) ..) _)

theorem Kept.fault {r : RegionIx} (hm : m.leaving = .none) (hp : (s.phase r).working = true) (hs : P m s)
    (cause : FaultCause) (line : Nat) : P m (s.fault r cause line) := by
  obtain ⟨l, due, running⟩ := m
  cases hm
  have hlife : P _ (s.modLife r fun x => { x with cause := cause, faultLine := line }) :=
    h.lifeNoted r (fun _ => rfl) hs
  have hfault := h.faulted rfl ((State.phase_modLife ..).symm ▸ hp) hlife
  have hdiscard := h.parkDiscard rfl (h.removeFills (h.raiseNotice hfault r .faulted none (faultDetail cause line)) r)
  have habort := h.abortHead (h.viewless rfl (by simp) hdiscard) r
  exact h.timer r _ (h.left rfl (State.headWaitsOn_abortHead ..) habort)

theorem Kept.retireAccept {r : RegionIx} (hm : m.leaving = .none) (hp : (s.phase r).Viewable) (hs : P m s) :
    P m (s.retireAccept r) := by
  obtain ⟨l, due, running⟩ := m
  cases hm
  have hretiring := h.retiring rfl hp hs
  simp only [State.retireAccept]
  generalize (s.modLife r Lifecycle.winding).modRun r Runtime.retiring = t at hretiring ⊢
  have hdiscard := h.parkDiscard rfl (h.catchup (((t.removeFills r).modRange ((t.removeFills r).config r)
    (LineEntry.abandoned ((t.removeFills r).run r).draftBank)).catchup) (h.removeFills hretiring r))
  have hviews := h.removeViews hdiscard fun _ v => v.on r
  have hviewless := h.viewless rfl (fun _ k v hk => by
    rw [State.view_removeViews] at hk
    simpa [View.on] using (Option.filter_eq_some_iff.mp hk).2) hviews
  have habort := h.abortHead hviewless r
  exact h.foldBack rfl (h.timer r _ (h.left rfl (State.headWaitsOn_abortHead ..) habort)) r

/-! ### RESTART and host-port reset -/

theorem Kept.restartDue (hs : P m s) : P m s.restartDue := by
  unfold State.restartDue
  split
  · rename_i hwait
    split
    · exact hs
    · rw [State.restartApply_eq hwait]
      exact h.decideHead (h.restarted hwait hs)
  · exact hs

theorem Kept.dropUse (hs : P m s) : P m s.dropUse := by
  unfold State.dropUse
  split
  · exact hs
  · exact h.endUse hs ..

theorem Kept.withdrawnDone (hm : m.leaving = .none) (hs : P m s) (a : Option HostAccess) :
    P m (s.withdrawnDone a) := by
  unfold State.withdrawnDone
  split
  · exact h.draftWriteDone hm hs _
  · exact hs

omit h in
theorem Waiting.headDropped_enable {w : Waiting} {x : Bool} {r : RegionIx} {seq : Byte} {o : Bool}
    (hw : w.headDropped x = .enable r seq o) : ∃ o', w = .enable r seq o' := by
  cases w with
  | enable r' seq' o' =>
    obtain ⟨rfl, rfl, -⟩ := Waiting.enable.inj hw
    exact ⟨o', rfl⟩
  | restart seq' => cases hw

theorem Kept.hostPortReset (hm : m.leaving = .none) (hs : P m s) : P m s.hostPortReset := by
  simp only [State.hostPortReset]
  refine h.drainRelease (h.enableDue (h.withdrawnDone hm (h.waitingChanged ?_ ?_
    (h.bus ?_ (h.emptied (h.dropUse hs)))) _))
  · simp
  · intro r seq o hw
    obtain ⟨w, hw', hdrop⟩ := Option.map_eq_some_iff.mp hw
    obtain ⟨o', rfl⟩ := Waiting.headDropped_enable hdrop
    exact ⟨o', hw'⟩
  · intro hport
    simp only [State.setHost_bus] at hport ⊢
    rw [hport]
    rfl

/-! ### The end of a transaction -/

omit h in
theorem State.copyApplies_fill {c : Copy} (hc : s.copyApplies c = true) (hk : c.kind = .fill) :
    (s.phase c.region).working = true := by
  simpa [State.copyApplies, hk] using hc

theorem Kept.clearBusy (hs : P m s) (ix : Nat) : P m (s.clearBusy ix) := h.catchup _ hs

theorem Kept.copyDone (hm : m.leaving = .none) (hs : P m s) (c : Copy) : P m (s.copyDone c) := by
  simp only [State.copyDone]
  split
  · refine h.engineNext ?_
    split
    · exact h.lineCurrent (h.clearBusy (h.catchup _ hs) _) ..
    · exact h.foldReport hm (h.clearBusy (h.catchup _ hs) _) ..
  · exact h.engineNext (h.foldBack hm (h.clearBusy hs _) _)

theorem Kept.copyFailed (hm : m.leaving = .none) (hs : P m s) (c : Copy) (retried : Bool) (cause : FailCause) :
    P m (s.copyFailed c retried cause) := by
  simp only [State.copyFailed]
  split
  · exact h.engineNext (h.foldBack hm (h.clearBusy hs _) _)
  · rename_i happlies
    split
    · exact h.chargeCopyRetry (h.startReading hs ..) ..
    · refine h.engineNext ?_
      split
      · rename_i hk
        refine h.fault hm ?_ (h.clearBusy hs _) ..
        rw [State.phase_congr (s.clearBusy_frame _).1]
        exact State.copyApplies_fill (by simpa using happlies) hk
      · exact h.foldReport hm (h.clearBusy hs _) ..

theorem Kept.copyReadDone (hs : P m s) (c : Copy) (retried : Bool) (words : List Word) :
    P m (s.copyReadDone c retried words) :=
  h.requestCatchup (h.catchup _ hs) _

theorem Kept.deliverCatchup (hm : m.leaving = .none) (hs : P m s) (d : Delivery) : P m (s.deliverCatchup d) := by
  unfold State.deliverCatchup
  split
  · exact hs
  · exact h.copyReadDone hs ..
  · exact h.copyDone hm hs _
  all_goals exact h.copyFailed hm hs ..

theorem Kept.frameDrained (hs : P m s) (r : RegionIx) : P m (s.frameDrained r) := by
  unfold State.frameDrained
  split
  · exact h.evaluate hs r
  · exact hs

/-- A drain write of an entry is made again, with the entry's changed mark clear (R99, R100). -/
theorem Kept.drainAgain {k : ParkKey} (hk : (s.parked k).isSome = true) (hs : P m s) (retried : Bool) :
    P m ((s.modEntry k fun x => { x with changed := false }).drainTry k retried) := by
  refine h.drainTry (h.modEntry k ?_ hs) (State.parked_modEntry_isSome ?_ hk) retried
  all_goals exact fun _ => rfl

theorem Kept.drainDone {k : ParkKey} {e : ParkEntry} (hm : m.leaving = .none)
    (hslot : ∀ j x, s.park.slot ≠ .waiting j x) (hk : s.parked k = some e) (hs : P m s) :
    P m (s.drainDone k e) := by
  unfold State.drainDone
  split
  · split
    · exact h.slotIdle hs
    · exact h.drainAgain (by simp [hk]) hs false
  · have hpark : P m (s.removeEntry k).reevaluatePark :=
      h.reevaluatePark (fun r hr => by simp [hm, Leaving.of] at hr) (h.removed k hslot hs)
    refine h.drainNext (h.slotIdle ?_)
    split
    · exact hpark
    · exact h.frameDrained hpark _

theorem Kept.drainFailed {k : ParkKey} (hm : m.leaving = .none) (hp : (s.phase k.region).working = true)
    (hk : (s.parked k).isSome = true) (hs : P m s) (retried : Bool) : P m (s.drainFailed k retried) := by
  unfold State.drainFailed
  split
  · exact h.slotIdle hs
  · split
    · exact h.fault (s := s.setSlot .idle) hm hp (h.slotIdle hs) ..
    · exact h.drainAgain hk hs true

theorem Kept.drainAnswered {k : ParkKey} (hm : m.leaving = .none) (hslot : ∀ j x, s.park.slot ≠ .waiting j x)
    (hs : P m s) (retried : Bool) (d : Delivery) : P m (s.drainAnswered k retried d) := by
  unfold State.drainAnswered
  split
  · exact h.drainNext (h.slotIdle hs)
  · rename_i e he
    obtain ⟨hp, hk⟩ : (s.phase k.region).working = true ∧ s.parked k = some e := by
      by_cases hp : (s.phase k.region).working = true
      · exact ⟨hp, by simpa [hp] using he⟩
      · simp [hp] at he
    split
    · exact h.drainDone hm hslot hk hs
    · exact h.drainFailed hm hp (by simp [hk]) hs retried

theorem Kept.deliverDrain (hm : m.leaving = .none) (hs : P m s) (d : Delivery) : P m (s.deliverDrain d) := by
  unfold State.deliverDrain
  split
  · rename_i k retried hslot
    refine h.drainAnswered hm (fun j x => ?_) (h.draftWriteDone hm hs _) retried d
    rw [State.draftWriteDone_park_of_busy (by simp [hslot]), hslot]
    simp
  · exact hs

theorem Kept.answerHead (hs : P m s) (d : Delivery) : P m (s.answerHead d) := by
  unfold State.answerHead
  split
  · exact h.giveResponse hs _
  · exact hs

theorem Kept.orphanEnded (hs : P m s) : P m s.orphanEnded := by
  unfold State.orphanEnded
  split
  · rename_i r seq hwait
    refine h.decideHead (h.enableDue (h.waitingChanged (by simp [hwait]) (fun r' seq' o hw => ?_) hs))
    obtain ⟨rfl, rfl, -⟩ := Waiting.enable.inj (Option.some.inj hw)
    exact ⟨true, hwait⟩
  · exact hs

theorem Kept.hostWriteDone (hm : m.leaving = .none) (hs : P m s) (p : HostPurpose) : P m (s.hostWriteDone p) := by
  unfold State.hostWriteDone
  split
  · exact h.draftWriteDone hm hs _
  · exact hs

theorem Kept.handOver (hm : m.leaving = .none) (hs : P m s) (o : Owner) (d : Delivery) : P m (s.handOver o d) := by
  unfold State.handOver
  split
  · unfold State.deliverHost
    split
    · exact h.orphanEnded (h.hostWriteDone hm hs _)
    · exact h.answerHead (h.hostWriteDone hm hs _) d
  · exact h.deliverDrain hm hs d
  · exact h.deliverCatchup hm hs d

theorem Kept.endTransaction (hm : m.leaving = .none) (hs : P m s) (o : Owner) (d : Delivery) :
    P m (s.endTransaction o d) :=
  h.grantNext (h.restartDue (h.handOver hm hs o d))

/-! ### The commands -/

omit h in
/-- What a command answers, if it is a next state, has a property. -/
def Answers (o : Host.Outcome State Fault Refusal) (p : State → Prop) : Prop := ∀ t, o = .next t → p t

omit h in
theorem answers_next {p : State → Prop} {t : State} (ht : p t) : Answers (.next t) p := by
  intro t' heq
  cases heq
  exact ht

theorem Kept.hostRequestAccepted (hs : P m s) (q : HostRequest) :
    Answers (execHostRequestAccepted q s) (P m) := by
  unfold execHostRequestAccepted
  split
  · exact fun _ heq => nomatch heq
  · rename_i hwf
    split
    · exact answers_next hs
    · rename_i haccepts
      have hjoin := h.joined (by simpa using hwf) (by simpa using haccepts) hs
      refine answers_next ?_
      split
      · exact h.grantNext (h.decideHead hjoin)
      · exact hjoin

theorem Kept.hostResponseTaken (hs : P m s) : Answers (execHostResponseTaken s) (P m) := by
  unfold execHostResponseTaken
  split
  · exact answers_next (h.grantNext (h.decideHead (h.next hs)))
  · exact answers_next hs

theorem Kept.publication (hs : P m s) (r : RegionIx) : Answers (execPublication r s) (P m) := by
  unfold execPublication
  split
  · rename_i hp
    rw [Bool.and_eq_true, beq_iff_eq] at hp
    exact answers_next (h.grantNext (h.publish hp.1 (State.condD_of_canPublish hp.2) hs))
  · exact answers_next hs

theorem Kept.tick (hs : P m s) : Answers (execTick s) (P m) := by
  unfold execTick
  split
  · refine answers_next ?_
    refine h.timers (h.bus (fun e => ?_) (h.headTick (h.viewMarks (fun k => ?_) (h.clock _ hs))))
    · have : s.bus.port = .expired := e
      exact congrArg Port.tick this
    · rw [vmap_get, Option.map_map]
      rfl
  · exact answers_next hs

theorem Kept.parkTimeout (hs : P m s) : Answers (execParkTimeout s) (P m) := by
  unfold execParkTimeout
  split
  · split
    · exact answers_next (h.grantNext (h.chargeParkTimeout (h.giveResponse hs _) ..))
    · exact answers_next hs
  · exact answers_next hs

theorem Kept.parkSpaceFound (hm : m.leaving = .none) (hs : P m s) : Answers (execParkSpaceFound s) (P m) := by
  unfold execParkSpaceFound
  split
  · rename_i hhead _
    split
    · rename_i hr
      split
      · exact answers_next
          (h.grantNext (h.parkWrite (h.parkWaits hhead hr (by simp [hm, Leaving.of]) hs) hs _))
      · exact answers_next hs
    · exact answers_next hs
  · exact answers_next hs

theorem Kept.periodTimerFire (hs : P m s) (r : RegionIx) : Answers (execPeriodTimerFire r s) (P m) := by
  unfold execPeriodTimerFire
  split
  · exact answers_next (h.grantNext (h.deliver (h.timer r _ hs) ..))
  · exact answers_next hs

theorem Kept.strobeEdge (hs : P m s) (line : Fin 4) : Answers (execStrobeEdge line s) (P m) := by
  simp only [execStrobeEdge]
  split
  · exact answers_next (h.grantNext (h.deliverStrobe (h.strobes _ hs) ..))
  · exact answers_next hs

theorem Kept.strobeSample (hs : P m s) (pins : Vector Bool 4) : Answers (execStrobeSample pins s) (P m) := by
  unfold execStrobeSample
  split
  · exact answers_next hs
  · exact answers_next (h.strobes _ (h.clock _ hs))

theorem Kept.memoryAnswer (hm : m.leaving = .none) (hs : P m s) (a : MemAnswer) :
    Answers (execMemoryAnswer a s) (P m) := by
  unfold execMemoryAnswer
  split
  · exact fun _ heq => nomatch heq
  · split
    · rename_i hport
      split
      · exact answers_next (h.endTransaction hm (h.bus (fun e => nomatch hport.symm.trans e) hs) ..)
      · exact fun _ heq => nomatch heq
    · exact answers_next hs

theorem Kept.memoryTimeout (hm : m.leaving = .none) (hs : P m s) : Answers (execMemoryTimeout s) (P m) := by
  unfold execMemoryTimeout
  split
  · exact answers_next (h.endTransaction hm (h.bus (fun _ => rfl) hs) ..)
  · exact answers_next hs

theorem Kept.lineCurrentRelease (hs : P m s) (line : Nat) : Answers (execLineCurrentRelease line s) (P m) := by
  unfold execLineCurrentRelease
  split
  · split
    · split
      · exact answers_next (h.grantNext (h.lineCurrent hs ..))
      · exact answers_next hs
    · exact answers_next hs
  · exact fun _ heq => nomatch heq

theorem Kept.enableApplied (hs : P m s) : Answers (execEnableApplied s) (P m) := by
  unfold execEnableApplied
  split
  · rename_i hwait
    split
    · exact answers_next hs
    · exact answers_next (h.grantNext (h.decideHead (h.enabledDue hwait hs)))
  · exact answers_next hs

theorem Kept.restartApplied (hs : P m s) : Answers (execRestartApplied s) (P m) := by
  unfold execRestartApplied
  split
  · rename_i hwait
    split
    · exact answers_next hs
    · rw [State.restartApply_eq hwait]
      exact answers_next (h.grantNext (h.decideHead (h.restarted hwait hs)))
  · exact answers_next hs

/-! ### The link commands -/

theorem Kept.fetchFrame (hs : P m s) (n : Nat) : P m (s.fetchFrame n) := by
  unfold State.fetchFrame
  split
  · exact hs
  · rename_i hframe
    simp only [Bool.or_eq_true, beq_iff_eq, not_or, Bool.not_eq_true] at hframe
    exact h.fetched n hframe.1 hframe.2 hs

theorem Kept.commandFrameFirstByte (hm : m.running = false) (hs : P m s) : Answers (execCommandFrameFirstByte s) (P m) := by
  refine answers_next ?_
  split
  · exact hs
  · rename_i hdiscard
    rw [Bool.not_eq_true] at hdiscard
    split
    · rename_i hstate
      exact h.firstByte hdiscard (.inl hstate) hs
    · rename_i hstate
      exact h.firstByte hdiscard (.inr hstate) hs
    · rename_i hstate
      exact h.discards hm hdiscard hstate hs
    · exact hs

theorem Kept.commandDropped (hs : P m s) : Answers (execCommandDropped s) (P m) := by
  refine answers_next ?_
  split
  · rename_i hdiscard
    exact h.frameDropped hdiscard hs
  · exact hs

/-- A link command that keeps the law as it is executed keeps it as its frame ends (R183, R184). -/
theorem Kept.endFrame {run : State → State}
    (hrun : ∀ t, P { m with running := true } t → P m (run t)) (hs : P m s) : P m (s.endFrame run) := by
  rcases s.endFrame_cases run with ⟨hdiscard, heq⟩ | ⟨hdiscard, hstate, heq⟩ | ⟨-, -, heq⟩ <;> rw [heq]
  · exact h.frameDropped hdiscard hs
  · exact hrun _ (h.runs ⟨hstate, hdiscard⟩ hs)
  · exact hs

theorem Kept.ack (hm : m.running = true) (hs : P m s) (seq : Byte) (p : List Byte) :
    P { m with running := false } (s.ack seq p) :=
  h.answered _ hm hs

theorem Kept.nak (hm : m.running = true) (hs : P m s) (seq : Byte) (n : Nak) :
    P { m with running := false } (s.nak seq n) :=
  h.answered _ hm hs

theorem Kept.withRegion {run : RegionIx → State} (hm : m.running = true)
    (hrun : ∀ r, P { m with running := false } (run r)) (hs : P m s) (seq region : Byte) :
    P { m with running := false } (s.withRegion seq region run) := by
  unfold State.withRegion
  split
  · exact h.nak hm hs ..
  · exact hrun _

theorem Kept.setTiming (hm : m.running = true) (hs : P m s) (seq : Byte) (x : TimingRecord) :
    P { m with running := false } (s.setTiming seq x) := by
  unfold State.setTiming
  split
  · exact h.nak hm hs ..
  · exact h.ack hm (h.clock _ hs) ..

theorem Kept.setIrq (hm : m.running = true) (hs : P m s) (seq value : Byte) :
    P { m with running := false } (s.setIrq seq value) := by
  unfold State.setIrq
  split
  · exact h.ack hm (h.irq _ hs) ..
  · exact h.nak hm hs ..

omit h in
theorem State.phase_of_not_active {r : RegionIx} (hp : ¬(s.phase r).active = true) : s.phase r = .disabled := by
  simpa [Phase.active] using hp

theorem Kept.writeRegion (hstore : KeptStore P) (hm : m.running = true) (hs : P m s) (seq region : Byte)
    (x : RegionRecord) :
    P { m with running := false } (s.writeRegion seq region x) := by
  unfold State.writeRegion
  split
  · exact h.nak hm hs ..
  · split
    · exact h.nak hm hs ..
    · rename_i hactive
      split
      · exact h.nak hm hs ..
      · rename_i hchecks
        exact hstore m s _ x _ hm (State.phase_of_not_active hactive) (by simp [recordAccepted, hchecks]) hs

theorem Kept.enableRegion (hm : m.running = true) (hs : P m s) (seq : Byte) (r : RegionIx) :
    P { m with running := false } (s.enableRegion seq r) := by
  unfold State.enableRegion
  split
  · exact h.nak hm hs ..
  · rename_i hready
    obtain ⟨hp, hwritten⟩ : s.phase r = .disabled ∧ (s.region r).written = true := by
      simpa [Phase.active] using hready
    split
    · exact h.nak hm hs ..
    · rename_i hconflict
      unfold State.enableOrWait
      split
      · exact h.enableWaits seq hm hp hwritten hconflict hs
      · exact h.enabledNow seq hm hp hwritten hconflict hs

theorem Kept.retireRegion (hm : m.running = true) (hl : m.leaving = .none) (hs : P m s) (seq : Byte)
    (r : RegionIx) : P { m with running := false } (s.retireRegion seq r) := by
  unfold State.retireRegion
  split
  · exact h.nak hm hs ..
  · exact h.ack hm hs ..
  · rename_i hp
    exact h.ack hm (h.retireAccept hl (.inl hp) hs) ..
  · rename_i hp
    exact h.ack hm (h.retireAccept hl (.inr (.inl hp)) hs) ..
  · rename_i hp
    exact h.ack hm (h.retireAccept hl (.inr (.inr hp)) hs) ..

theorem Kept.publishRegion (hm : m.running = true) (hs : P m s) (seq : Byte) (r : RegionIx) :
    P { m with running := false } (s.publishRegion seq r) := by
  unfold State.publishRegion
  split
  · exact h.ack hm (h.deliver hs ..) ..
  · exact h.nak hm hs ..

omit h in
theorem View.markDrop_fixed (test : View → Bool) (v : View) : (v.markDrop test).fixed = v.fixed := by
  unfold View.markDrop
  split <;> rfl

theorem Kept.dropViewsCommand (hm : m.running = true) (hs : P m s) (seq which : Byte) :
    P { m with running := false } (s.dropViewsCommand seq which) := by
  unfold State.dropViewsCommand
  split
  · exact h.nak hm hs ..
  · refine h.ack hm (h.removeViews (h.viewMarks (fun k => ?_) hs) _) ..
    rw [vmap_get, Option.map_map]
    exact congrArg (fun f => (s.view k).map f) (funext (View.markDrop_fixed _))

theorem Kept.countersFirst (hm : m.running = true) (hs : P m s) (seq : Byte) (r : RegionIx) (clear : Bool) :
    P { m with running := false } (s.countersFirst seq r clear) := by
  have hsnap := h.snapshot ⟨true, r, (s.region r).counters⟩ hs
  refine h.ack hm ?_ ..
  split
  · exact h.counters _ _ hsnap
  · exact hsnap

theorem Kept.countersRest (hm : m.running = true) (hs : P m s) (seq : Byte) (r : RegionIx) :
    P { m with running := false } (s.countersRest seq r) := by
  simp only [State.countersRest]
  split
  · exact h.ack hm hs ..
  · exact h.nak hm hs ..

theorem Kept.commandFrameRejected (hm : m.running = false) (hs : P m s) (frame : List Byte) :
    Answers (execCommandFrameRejected frame s) (P m) := by
  unfold execCommandFrameRejected
  split
  · exact answers_next hs
  · split
    · exact answers_next (h.fetchFrame hs _)
    · split
      · exact answers_next hs
      · obtain ⟨l, due, running⟩ := m
        cases hm
        exact answers_next (h.endFrame (fun t ht => h.nak rfl ht ..) hs)

end

/-! ### Every command -/

section
variable {P : Amid → State → Prop} {G : State → RegionIx → Prop} (h : Kept P G) {s : State} (hs : P {} s)
include h hs

/-- The commands of the link. -/
theorem Kept.exec_link {c : Instr} (hstore : ∀ seq region x, c = .writeRegion seq region x → KeptStore P)
    (hc : c.linkParts.isSome = true) : Answers (exec c s) (P {}) := by
  have hframe {run : State → State} (hrun : ∀ t, P { running := true } t → P {} (run t)) :
      P {} (s.endFrame run) := h.endFrame hrun hs
  cases c with
  | ident seq => exact answers_next (hframe fun t ht => h.ack rfl ht ..)
  | setTiming seq x => exact answers_next (hframe fun t ht => h.setTiming rfl ht ..)
  | writeRegion seq region x => exact answers_next (hframe fun t ht => h.writeRegion (hstore _ _ _ rfl) rfl ht ..)
  | readRegionConfig seq region =>
    exact answers_next (hframe fun t ht => h.withRegion rfl (fun r => h.ack rfl ht ..) ht ..)
  | readRegionState seq region =>
    exact answers_next (hframe fun t ht => h.withRegion rfl (fun r => h.ack rfl ht ..) ht ..)
  | enableRegion seq region =>
    exact answers_next
      (h.grantNext (hframe fun t ht => h.withRegion rfl (fun r => h.enableRegion rfl ht ..) ht ..))
  | retireRegion seq region =>
    exact answers_next
      (h.grantNext (hframe fun t ht => h.withRegion rfl (fun r => h.retireRegion rfl rfl ht ..) ht ..))
  | publish seq region =>
    exact answers_next
      (h.grantNext (hframe fun t ht => h.withRegion rfl (fun r => h.publishRegion rfl ht ..) ht ..))
  | dropViews seq which =>
    exact answers_next (h.grantNext (hframe fun t ht => h.dropViewsCommand rfl ht ..))
  | readViews seq start =>
    refine answers_next (hframe fun t ht => ?_)
    split
    · exact h.ack rfl ht ..
    · exact h.nak rfl ht ..
  | readNotices seq => exact answers_next (hframe fun t ht => h.ack rfl (h.noticesRead ht) ..)
  | readCountersFirst seq region opts =>
    refine answers_next (hframe fun t ht => h.withRegion rfl (fun r => ?_) ht ..)
    split
    · exact h.countersFirst rfl ht ..
    · exact h.nak rfl ht ..
  | readCountersRest seq region opts =>
    refine answers_next (hframe fun t ht => h.withRegion rfl (fun r => ?_) ht ..)
    split
    · exact h.countersRest rfl ht ..
    · exact h.nak rfl ht ..
  | setIrq seq value => exact answers_next (hframe fun t ht => h.setIrq rfl ht ..)
  | restart seq =>
    exact answers_next (h.grantNext (hframe fun t ht => h.restartDue (h.restartWaits seq rfl ht)))
  | _ => cases hc

/-- Every command but power-on and the late answer keeps a law that the updates keep. -/
theorem Kept.exec {c : Instr} (hstore : ∀ seq region x, c = .writeRegion seq region x → KeptStore P)
    (hpower : c ≠ .powerOn) (hlate : c ≠ .lateAnswerDiscarded) : Answers (exec c s) (P {}) := by
  by_cases hlink : c.linkParts.isSome = true
  · exact h.exec_link hs hstore hlink
  cases c with
  | powerOn => exact absurd rfl hpower
  | lateAnswerDiscarded => exact absurd rfl hlate
  | hostPortReset => exact answers_next (h.grantNext (h.hostPortReset rfl hs))
  | hostPortResetRelease => exact answers_next (h.released hs)
  | hostRequestAccepted req => exact h.hostRequestAccepted hs req
  | hostResponseTaken => exact h.hostResponseTaken hs
  | publication r => exact h.publication hs r
  | tick => exact h.tick hs
  | viewExpiry => exact answers_next (h.grantNext (h.expireViews hs _))
  | parkTimeout => exact h.parkTimeout hs
  | parkSpaceFound => exact h.parkSpaceFound rfl hs
  | periodTimerFire r => exact h.periodTimerFire hs r
  | strobeEdge line => exact h.strobeEdge hs line
  | grant => exact answers_next (h.grantNext hs)
  | memoryAnswer answer => exact h.memoryAnswer rfl hs answer
  | memoryTimeout => exact h.memoryTimeout rfl hs
  | lineCurrentRelease line => exact h.lineCurrentRelease hs line
  | catchupTake => exact answers_next (h.grantNext (h.engineTake hs))
  | drainTake => exact answers_next (h.grantNext (h.drainNext hs))
  | drainWriteRelease => exact answers_next (h.grantNext (h.drainRelease hs))
  | foldBackQueued r => exact answers_next (h.grantNext (h.foldBack rfl hs r))
  | retirementEnd r => exact answers_next (h.endIfFolded rfl hs r)
  | enableApplied => exact h.enableApplied hs
  | restartApplied => exact h.restartApplied hs
  | fetch clocked => exact answers_next (h.fetchFrame hs _)
  | commandDropped => exact h.commandDropped hs
  | commandFrameRejected frame => exact h.commandFrameRejected rfl hs frame
  | strobeSample pins => exact h.strobeSample hs pins
  | commandFrameFirstByte => exact h.commandFrameFirstByte rfl hs
  | _ => exact absurd rfl hlink

/-- Every step keeps a law that the updates, power-on and the late answer keep. -/
theorem Kept.step (hstore : KeptStore P) (hpending : ∀ t l, P {} t → P {} { t with pending := l })
    (hpower : ∀ t, P {} t → Answers (Sys2Proof.Machine.exec .powerOn t) (P {}))
    (hlate : ∀ t, P {} t → P {} (t.setBus { t.bus with port := .idle })) {t : State}
    (hstep : Sys2Proof.Machine.step s = .next t) : P {} t := by
  unfold Sys2Proof.Machine.step at hstep
  split at hstep
  · cases hstep
    exact hs
  · rename_i c rest _
    have hrest := hpending s rest hs
    by_cases hp : c = .powerOn
    · exact hpower _ hrest t (hp ▸ hstep)
    · by_cases hl : c = .lateAnswerDiscarded
      · subst hl
        have hanswer : Answers (execLateAnswerDiscarded { s with pending := rest }) (P {}) := by
          unfold execLateAnswerDiscarded
          split
          · exact answers_next (h.grantNext (hlate _ hrest))
          · exact answers_next hrest
        exact hanswer t hstep
      · exact h.exec hrest (fun _ _ _ _ => hstore) hp hl t hstep

end
end Sys2Proof.Machine


/-! SUPPORT. The laws of the Notice Unit and of the EXPIRED port are kept by every command, and no command touches
the queue of commands or a stored entry that it does not write (R3, R161, R169, R170, R172). -/

namespace Sys2Proof.Machine

set_option Elab.async false

/-! ### The Notice Unit (R169, R170, R172) -/

theorem NoticeUnit.driveIrq_sound {u : NoticeUnit} (hlen : u.queue.length ≤ 64)
    (hlost : u.lost = true → u.queue ≠ []) : u.driveIrq.Sound :=
  ⟨hlen, rfl, hlost⟩

theorem NoticeUnit.enqueue_sound {u : NoticeUnit} (h : u.Sound) (n : Notice) : (u.enqueue n).Sound := by
  obtain ⟨hlen, hirq, hlost⟩ := h
  unfold NoticeUnit.enqueue
  split
  · rename_i hroom
    refine NoticeUnit.driveIrq_sound ?_ (by simp)
    simp only [List.length_append, List.length_singleton]
    exact hroom
  · rename_i hfull
    refine ⟨hlen, hirq, fun _ hnil => hfull ?_⟩
    simp only at hnil
    simp [hnil, Config.noticeCapacity]

theorem NoticeUnit.irq_sound {u : NoticeUnit} (h : u.Sound) (b : Bool) : { u with irqEnabled := b }.driveIrq.Sound := by
  obtain ⟨hlen, -, hlost⟩ := h
  exact NoticeUnit.driveIrq_sound (u := { u with irqEnabled := b }) hlen hlost

theorem NoticeUnit.read_sound {u : NoticeUnit} (h : u.Sound) : u.read.Sound := by
  refine NoticeUnit.driveIrq_sound ?_ (by simp)
  have hlen := h.1
  simp only [List.length_drop]
  omega

theorem NoticeUnit.restarted_sound (u : NoticeUnit) : u.restarted.Sound :=
  NoticeUnit.driveIrq_sound (u := { u with queue := [], lost := false, snapshot := .invalid }) (by simp) (by simp)

theorem State.raiseNotice_sound {s : State} (h : s.notices.Sound) (r : RegionIx) (k : NoticeKind) (t : Option Tag)
    (d : BitVec 16) : (s.raiseNotice r k t d).notices.Sound := by
  unfold State.raiseNotice
  split
  · exact NoticeUnit.enqueue_sound h _
  · exact h

theorem State.restartCleared_notices (s : State) (seq : Byte) :
    (s.restartCleared.ack seq []).notices = s.notices.restarted := by
  unfold State.restartCleared
  split <;> simp [State.restartBlocks]

theorem noticesKept_blocks : KeptBlocks fun _ s => s.notices.Sound where
  enqueue n h := NoticeUnit.enqueue_sound h n
  irq b h := NoticeUnit.irq_sound h b
  noticesRead h := NoticeUnit.read_sound h
  snapshot _ h := h

theorem noticesKept_life : KeptLife fun _ s => s.notices.Sound where
  retired _ _ h := by
    simp only [State.retirementEnd, State.modLife, State.modRegion_notices]
    refine State.raiseNotice_sound ?_ ..
    simpa using h

theorem noticesKept_park : KeptPark (fun _ s => s.notices.Sound) fun _ _ => True where
  placed _ _ _ h := by simpa using h

theorem noticesKept_link : KeptLink fun _ s => s.notices.Sound where
  enabledNow _ _ _ _ _ h := by simpa using h
  enabledDue _ h := by simpa using h
  restarted _ _ := by
    rw [State.restartCleared_notices]
    exact NoticeUnit.restarted_sound _

theorem keptNotices : Kept (fun _ s => s.notices.Sound) fun _ _ => True :=
  ⟨noticesKept_blocks, {}, noticesKept_life, noticesKept_park, {}, noticesKept_link⟩

/-- Settles O5: the updates of the Notice Unit keep its law, and no other update touches it. -/
theorem noticeLawsKept : Obligations.NoticeLawsKept := by
  intro s t h hstep
  refine keptNotices.step (s := s) h (fun _ _ _ _ _ _ _ _ h => h) (fun _ _ h => h) (fun t _ => answers_next ?_) (fun _ h => h) hstep
  exact ⟨by simp [State.reset], rfl, by simp [State.reset]⟩

/-! ### The EXPIRED port (R161) -/

theorem State.retirementEnd_bus (s : State) (r : RegionIx) : (s.retirementEnd r).bus = s.bus := by simp

theorem State.enableApply_port (s : State) (r : RegionIx) (seq : Byte) :
    (s.enableApply r seq).bus.port = s.bus.port := by
  obtain ⟨x, b, heq, hport⟩ := State.appendLines_eq
    (((s.modLife r fun _ => .enabled).modRun r fun _ => .enabled).modRange (s.config r) LineEntry.enabled) .fill
      (s.config r).lineIxs
  simp only [State.enableApply, State.ack, State.placeResponse, State.setTimer, State.setLink_bus,
    State.modRegion_bus, heq, State.setBus_bus]
  exact hport

theorem State.restartCleared_bus (s : State) (seq : Byte) :
    (s.restartCleared.ack seq []).bus = s.bus.restarted := by
  unfold State.restartCleared
  split <;> simp [State.restartBlocks]

theorem keptExpired : Kept (fun _ s => s.bus.port = .expired) (fun _ _ => True) where
  bus hport h := hport h
  retired _ _ h := by rwa [State.retirementEnd_bus]
  placed _ _ _ h := by simpa using h
  enabledNow _ _ _ _ _ h := by rwa [State.enableApply_port]
  enabledDue _ h := by rwa [State.enableApply_port]
  restarted _ h := by rw [State.restartCleared_bus]; exact h

theorem exec_lateAnswerDiscarded (s : State) : exec .lateAnswerDiscarded s = execLateAnswerDiscarded s := rfl

/-- Settles O10: no update of the bus takes the port out of EXPIRED but that of the late answer, whose answer is
made of the port's change and the grant alone. -/
theorem portHeldUntilLateAnswer : Obligations.PortHeldUntilLateAnswer := by
  refine ⟨fun c s t hport hlate hpower hexec => keptExpired.exec hport (fun _ _ _ _ _ _ _ _ _ _ _ _ h => h) hpower hlate t hexec,
    fun s hport => ?_, fun s hport => ?_⟩
  · refine ⟨_, ?_, rfl⟩
    rw [exec_lateAnswerDiscarded, execLateAnswerDiscarded, hport]
    rfl
  · rw [exec_lateAnswerDiscarded, execLateAnswerDiscarded]
    split
    · rename_i hexpired
      exact absurd hexpired hport
    · rfl

end Sys2Proof.Machine


/-! SUPPORT. No command touches the queue of commands, and no update but that of WRITE_REGION a stored entry (R3);
every update keeps the bank roles (R20, R22, R25, R26). -/

namespace Sys2Proof.Machine

set_option Elab.async false

/-! ### The queue of commands (log 1) -/

section
variable (l : List Instr)

theorem queueKept_life : KeptLife fun _ s => s.pending = l where
  retired _ _ h := by simpa using h

theorem queueKept_park : KeptPark (fun _ s => s.pending = l) fun _ _ => True where
  placed _ _ _ h := by simpa using h

theorem State.restartCleared_pending (s : State) : s.restartCleared.pending = s.pending := by
  unfold State.restartCleared
  split <;> simp [State.restartBlocks]

theorem queueKept_link : KeptLink fun _ s => s.pending = l where
  enabledNow _ _ _ _ _ h := by simpa using h
  enabledDue _ h := by simpa using h
  restarted _ h := by simpa [State.restartCleared_pending] using h

theorem keptQueue : Kept (fun _ s => s.pending = l) fun _ _ => True :=
  ⟨{}, {}, queueKept_life l, queueKept_park l, {}, queueKept_link l⟩

end

/-- Settles O2: no update but power-on writes the queue of commands, and power-on keeps it. -/
theorem queueUntouched : Obligations.QueueUntouched := by
  intro c s t hexec
  by_cases hpower : c = .powerOn
  · subst hpower
    cases hexec
    rfl
  by_cases hlate : c = .lateAnswerDiscarded
  · subst hlate
    by_cases hport : s.bus.port = .expired
    · rw [exec_lateAnswerDiscarded, execLateAnswerDiscarded, hport] at hexec
      cases hexec
      simp
    · rw [portHeldUntilLateAnswer.2.2 s hport] at hexec
      cases hexec
      rfl
  · exact (keptQueue s.pending).exec rfl (fun _ _ _ _ _ _ _ _ _ _ _ _ h => h) hpower hlate t hexec

/-! ### Stored entries (R3) -/

section
variable (r : RegionIx) (e : RegionConfig × Bool)

theorem entryKept_blocks : KeptBlocks fun _ s => s.entry r = e where
  counters _ _ h := by simpa using h
  timer _ _ h := by simpa using h
  timers h := by simpa [State.entry, State.region_modRegions] using h

theorem entryKept_runs : KeptRuns fun _ s => s.entry r = e where
  tally _ _ _ h := by simpa using h
  pendingEntered _ h := by simpa using h
  flags _ _ _ h := by simpa using h
  published _ _ h := by simpa using h
  freed _ _ h := by simpa using h

theorem entryKept_life : KeptLife fun _ s => s.entry r = e where
  lifeNoted _ _ _ h := by simpa using h
  folding _ _ _ h := by simpa using h
  retired _ _ h := by simpa using h
  faulted _ _ h := by simpa using h
  retiring _ _ h := by simpa using h

theorem entryKept_park : KeptPark (fun _ s => s.entry r = e) fun _ _ => True where
  placed _ _ _ h := by simpa using h

theorem State.entry_restartCleared (s : State) (seq : Byte) :
    (s.restartCleared.ack seq []).entry r = s.entry r := by
  unfold State.restartCleared
  split <;> simp [State.setProgress]

theorem entryKept_link : KeptLink fun _ s => s.entry r = e where
  enabledNow _ _ _ _ _ h := by simpa using h
  enabledDue _ h := by simpa using h
  restarted _ h := by rwa [State.entry_restartCleared]

theorem keptEntry : Kept (fun _ s => s.entry r = e) fun _ _ => True :=
  ⟨entryKept_blocks r e, entryKept_runs r e, entryKept_life r e, entryKept_park r e, {}, entryKept_link r e⟩

end

/-- A region byte names the region it is the number of (R186). -/
theorem regionOf_eq_some {b : Byte} {r : RegionIx} : regionOf b = some r ↔ b.toNat = r.val := by
  refine ⟨fun h => ?_, regionOf_of_toNat⟩
  unfold regionOf at h
  split at h
  · exact congrArg Fin.val (Option.some.inj h)
  · cases h

/-- WRITE_REGION stores an entry in a DISABLED region that it names, and keeps every other (R3, R189). -/
theorem State.entry_writeRegion (s : State) (seq region : Byte) (x : RegionRecord) (r : RegionIx) :
    (s.writeRegion seq region x).entry r = s.entry r ∨ (region.toNat = r.val ∧ s.phase r = .disabled) := by
  unfold State.writeRegion
  split
  · exact .inl (by simp)
  · rename_i j hj
    split
    · exact .inl (by simp)
    · rename_i hactive
      split
      · exact .inl (by simp)
      · by_cases hr : r = j
        · subst hr
          exact .inr ⟨regionOf_eq_some.mp hj, State.phase_of_not_active hactive⟩
        · refine .inl ?_
          have hregion := s.region_modRegion_ne (f := fun g => { g with
            config := RegionConfig.ofRecord x, written := true }) hr
          exact congrArg (fun g : Region => (g.config, g.written)) hregion

/-- Settles O11: every update but that of WRITE_REGION keeps each stored entry. -/
theorem configurationFixed : Obligations.ConfigurationFixed := by
  intro c s t r hexec hpower
  have hsame (h : t.entry r = s.entry r) : t.config r = s.config r ∧ (t.region r).written = (s.region r).written :=
    ⟨State.config_of_entry h, congrArg Prod.snd h⟩
  by_cases hwrite : ∃ seq region x, c = .writeRegion seq region x
  · obtain ⟨seq, region, x, rfl⟩ := hwrite
    obtain rfl := Host.Outcome.next.inj hexec
    rcases s.endFrame_cases fun s => s.writeRegion seq region x with
      ⟨-, heq⟩ | ⟨-, -, heq⟩ | ⟨-, -, heq⟩ <;> rw [heq] at hsame ⊢
    · exact .inl (hsame rfl)
    · refine (State.entry_writeRegion _ seq region x r).imp (fun h => hsame h) fun ⟨hr, hp⟩ => ?_
      exact ⟨⟨seq, region, x, rfl, hr⟩, hp⟩
    · exact .inl ⟨rfl, rfl⟩
  · refine .inl (hsame ?_)
    by_cases hlate : c = .lateAnswerDiscarded
    · subst hlate
      by_cases hport : s.bus.port = .expired
      · rw [exec_lateAnswerDiscarded, execLateAnswerDiscarded, hport] at hexec
        cases hexec
        simp
      · rw [portHeldUntilLateAnswer.2.2 s hport] at hexec
        cases hexec
        rfl
    · exact (keptEntry r (s.entry r)).exec rfl (fun seq region x hc => absurd ⟨seq, region, x, hc⟩ hwrite)
        hpower hlate t hexec

end Sys2Proof.Machine


/-! SUPPORT. The bank roles, the frames and the phase flags (R20, R22, R25, R26): what a sound runtime record looks
like, and that every update keeps it. -/

namespace Sys2Proof.Machine

set_option Elab.async false

/-! ### Three banks -/

theorem PerBank.find_eq_some {α : Type} {p : PerBank α} {test : α → Bool} {b : Bank} (hb : test (p.get b) = true)
    (hne : ∀ e, e ≠ b → test (p.get e) = false) : p.find test = some b := by
  have ha := hne .bankA
  have hc := hne .bankC
  have hmid := hne .bankB
  cases b <;> simp_all [PerBank.find, PerBank.get]

/-- Three different banks are all there are. -/
theorem Bank.eq_of_three {l d x : Bank} (hld : l ≠ d) (hlx : l ≠ x) (hdx : d ≠ x) (b : Bank) :
    b = l ∨ b = d ∨ b = x := by
  cases b <;> cases l <;> cases d <;> cases x <;> simp_all

/-- The roles of the banks of a region that is not DISABLED: `l` is LIVE, `d` DRAFT, and `x` FREE or HELD (R22). -/
structure Runtime.RolesAre (t : Runtime) (l d x : Bank) : Prop where
  live_ne_draft : l ≠ d
  live_ne_third : l ≠ x
  draft_ne_third : d ≠ x
  live : t.roles.get l = .live
  draft : t.roles.get d = .draft
  third : t.roles.get x = .free ∨ t.roles.get x = .held

section
variable {t : Runtime} {l d x : Bank} (h : t.RolesAre l d x)
include h

theorem Runtime.RolesAre.cases (b : Bank) : b = l ∨ b = d ∨ b = x :=
  Bank.eq_of_three h.live_ne_draft h.live_ne_third h.draft_ne_third b

theorem Runtime.RolesAre.liveBank_eq : t.liveBank = l := by
  rw [Runtime.liveBank, PerBank.find_eq_some (b := l) (by simp [h.live]), Option.getD_some]
  intro e he
  obtain rfl | rfl | rfl := h.cases e
  · exact absurd rfl he
  · simp [h.draft]
  · rcases h.third with ht | ht <;> simp [ht]

theorem Runtime.RolesAre.draftBank_eq : t.draftBank = d := by
  rw [Runtime.draftBank, PerBank.find_eq_some (b := d) (by simp [h.draft]), Option.getD_some]
  intro e he
  obtain rfl | rfl | rfl := h.cases e
  · simp [h.live]
  · exact absurd rfl he
  · rcases h.third with ht | ht <;> simp [ht]

theorem Runtime.RolesAre.thirdBank_eq : t.thirdBank = x := by
  rw [Runtime.thirdBank, PerBank.find_eq_some (b := x) (by simpa using h.third), Option.getD_some]
  intro e he
  obtain rfl | rfl | rfl := h.cases e
  · simp [h.live]
  · simp [h.draft]
  · exact absurd rfl he

theorem Runtime.RolesAre.sound : t.RolesSound := by
  rw [Runtime.RolesSound, h.liveBank_eq, h.draftBank_eq, h.thirdBank_eq]
  exact ⟨h.live, h.draft, h.third⟩

/-- Only the third bank can be HELD. -/
theorem Runtime.RolesAre.eq_of_held {b : Bank} (hb : t.roles.get b = .held) : b = x := by
  obtain rfl | rfl | rfl := h.cases b
  · simp [h.live] at hb
  · simp [h.draft] at hb
  · rfl

theorem Runtime.RolesAre.eq_of_live {b : Bank} (hb : t.roles.get b = .live) : b = l := by
  obtain rfl | rfl | rfl := h.cases b
  · rfl
  · simp [h.draft] at hb
  · rcases h.third with ht | ht <;> simp [ht] at hb

end

theorem Runtime.RolesSound.are {t : Runtime} (h : t.RolesSound) : t.RolesAre t.liveBank t.draftBank t.thirdBank := by
  obtain ⟨hlive, hdraft, hthird⟩ := h
  refine ⟨fun e => ?_, fun e => ?_, fun e => ?_, hlive, hdraft, hthird⟩
  · rw [e, hdraft] at hlive
    cases hlive
  · rw [e] at hlive
    simp [hlive] at hthird
  · rw [e] at hdraft
    simp [hdraft] at hthird

/-- The roles after a publication with no view on the LIVE bank (R34). -/
theorem Runtime.RolesAre.published_swap {t : Runtime} {l d x : Bank} (h : t.RolesAre l d x) :
    (t.published false).RolesAre d l x where
  live_ne_draft := h.live_ne_draft.symm
  live_ne_third := h.draft_ne_third
  draft_ne_third := h.live_ne_third
  live := by
    simp [Runtime.published, Runtime.rolesPublished, PerBank.get_set, h.liveBank_eq, h.draftBank_eq,
      h.live_ne_draft.symm]
  draft := by simp [Runtime.published, Runtime.rolesPublished, PerBank.get_set, h.liveBank_eq]
  third := by
    simpa [Runtime.published, Runtime.rolesPublished, PerBank.get_set, h.liveBank_eq, h.draftBank_eq,
      h.live_ne_third.symm, h.draft_ne_third.symm] using h.third

/-- The roles after a publication with a view on the LIVE bank, which becomes HELD (R35). -/
theorem Runtime.RolesAre.published_hold {t : Runtime} {l d x : Bank} (h : t.RolesAre l d x) :
    (t.published true).RolesAre d x l where
  live_ne_draft := h.draft_ne_third
  live_ne_third := h.live_ne_draft.symm
  draft_ne_third := h.live_ne_third.symm
  live := by
    simp [Runtime.published, Runtime.rolesPublished, PerBank.get_set, h.liveBank_eq, h.draftBank_eq,
      h.thirdBank_eq, h.live_ne_draft.symm, h.draft_ne_third]
  draft := by simp [Runtime.published, Runtime.rolesPublished, PerBank.get_set, h.thirdBank_eq]
  third := by
    simp [Runtime.published, Runtime.rolesPublished, PerBank.get_set, h.liveBank_eq, h.thirdBank_eq,
      h.live_ne_third]

theorem Runtime.RolesAre.published {t : Runtime} {l d x : Bank} (h : t.RolesAre l d x) (viewed : Bool) :
    ∃ d' x', (t.published viewed).RolesAre d d' x' := by
  cases viewed
  · exact ⟨_, _, h.published_swap⟩
  · exact ⟨_, _, h.published_hold⟩

/-! ### Sound runtime records -/

theorem Runtime.Sound.of_active {t : Runtime} (hp : t.phase ≠ .disabled) (hroles : t.RolesSound)
    (hframe : t.bankFrames.get t.liveBank = t.frame)
    (hflags : t.phase ≠ .pending → t.followOn = false ∧ t.heldNotice = false) : t.Sound :=
  ⟨fun h => absurd h hp, fun _ => ⟨hroles, hframe⟩, hflags⟩

theorem Runtime.Sound.published {t : Runtime} (h : t.Sound) (hp : t.phase = .pending) (viewed : Bool) :
    { t.published viewed with followOn := false }.Sound := by
  obtain ⟨hroles, -⟩ := h.2.1 (by simp [hp])
  obtain ⟨d, x, hare⟩ := hroles.are.published viewed
  have hare' : { t.published viewed with followOn := false }.RolesAre t.draftBank d x :=
    ⟨hare.1, hare.2, hare.3, hare.4, hare.5, hare.6⟩
  refine .of_active (by simp [Runtime.published]) hare'.sound ?_ (fun _ => ⟨rfl, rfl⟩)
  rw [hare'.liveBank_eq]
  simp [Runtime.published, PerBank.get_set]

theorem Runtime.Sound.freed {t : Runtime} (h : t.Sound) {b : Bank} (hb : t.roles.get b = .held) :
    { t with roles := t.roles.set .free b }.Sound := by
  have hp : t.phase ≠ .disabled := fun hp => by
    rw [(h.1 hp).1] at hb
    cases b <;> cases hb
  obtain ⟨hroles, hframe⟩ := h.2.1 hp
  have hare := hroles.are
  obtain rfl := hare.eq_of_held hb
  have hare' : { t with roles := t.roles.set .free t.thirdBank }.RolesAre t.liveBank t.draftBank t.thirdBank :=
    ⟨hare.1, hare.2, hare.3, by simpa [PerBank.get_set, hare.2] using hare.4,
      by simpa [PerBank.get_set, hare.3] using hare.5, by simp [PerBank.get_set]⟩
  exact .of_active hp hare'.sound (hare'.liveBank_eq ▸ hframe) h.2.2

/-- A sound record stays so in another phase that has banks, with both flags clear (R26, R42, R43). -/
theorem Runtime.Sound.moved {t u : Runtime} (h : t.Sound) (hp : t.phase ≠ .disabled) (hu : u.phase ≠ .disabled)
    (hroles : u.roles = t.roles) (hframe : u.frame = t.frame) (hframes : u.bankFrames = t.bankFrames)
    (hflags : u.phase ≠ .pending → u.followOn = false ∧ u.heldNotice = false) : u.Sound := by
  obtain ⟨hsound, hlive⟩ := h.2.1 hp
  refine .of_active hu ?_ ?_ hflags
  · simpa [Runtime.RolesSound, Runtime.liveBank, Runtime.draftBank, Runtime.thirdBank, hroles] using hsound
  · simpa [Runtime.liveBank, hroles, hframe, hframes] using hlive

theorem Runtime.Sound.ended (t : Runtime) : t.ended.Sound :=
  ⟨fun _ => ⟨rfl, rfl⟩, fun hp => absurd rfl hp, fun _ => ⟨rfl, rfl⟩⟩

theorem Runtime.Sound.enabled : Runtime.enabled.Sound :=
  .of_active (by simp [Runtime.enabled]) ⟨rfl, rfl, .inl rfl⟩ rfl (fun _ => ⟨rfl, rfl⟩)

theorem Runtime.Sound.tallied {t u : Runtime} (h : t.Sound)
    (hu : u = { t with inFlight := u.inFlight, dirtyLines := u.dirtyLines }) : u.Sound := by
  rw [hu]
  exact h

/-! ### The runtime records after the larger updates -/

theorem State.run_modRegions_timer (s : State) (f : PeriodTimer → PeriodTimer) (j : RegionIx) :
    (s.modRegions fun g => { g with timer := f g.timer }).run j = s.run j := by
  simp [State.run]

theorem State.run_retirementEnd (s : State) (r j : RegionIx) :
    (s.retirementEnd r).run j = if j = r then (s.run r).ended else s.run j := by
  simp only [State.retirementEnd, State.run_modLife]
  rw [State.run_congr (State.raiseNotice_frame ..).1]
  exact s.run_modRun r j Runtime.ended

theorem State.run_enableApply (s : State) (r j : RegionIx) (seq : Byte) :
    (s.enableApply r seq).run j = if j = r then Runtime.enabled else s.run j := by
  have happend (t : State) (k : CopyKind) (l : List Nat) : (t.appendLines k l).run j = t.run j :=
    State.run_congr (t.appendLines_frame k l).1 j
  show ((((s.modLife r fun _ => .enabled).modRun r fun _ => .enabled).modRange _ _).appendLines .fill _
    |>.setTimer r _).run j = _
  rw [State.run_setTimer, happend]
  exact ((s.modLife r fun _ => .enabled).run_modRun r j fun _ => .enabled).trans (by simp)

theorem State.run_restartCleared (s : State) (seq : Byte) (j : RegionIx) :
    (s.restartCleared.ack seq []).run j = (s.run j).ended := by
  have hblocks : s.restartBlocks.run j = (s.run j).ended :=
    congrArg Region.run (s.region_modRegions Region.restarted j)
  unfold State.restartCleared
  split <;> exact hblocks

theorem State.run_storeRegion (s : State) (r j : RegionIx) (x : RegionRecord) :
    (s.storeRegion r x).run j = s.run j := by
  have := s.region_modRegion r j fun g => { g with config := RegionConfig.ofRecord x, written := true }
  simp only [State.run, State.storeRegion, this]
  split <;> simp_all

/-! ### Every update keeps the roles -/

theorem State.RolesLaw.congr {s t : State} (hrun : ∀ j, t.run j = s.run j) (h : s.RolesLaw) : t.RolesLaw :=
  fun j => hrun j ▸ h j

theorem State.RolesLaw.modRun {s : State} {r : RegionIx} {f : Runtime → Runtime} (h : s.RolesLaw)
    (hf : (s.run r).Sound → (f (s.run r)).Sound) : (s.modRun r f).RolesLaw := by
  intro j
  rw [State.run_modRun]
  split
  · exact hf (h r)
  · exact h j

theorem Phase.ne_disabled_of_working {p : Phase} (h : p.working = true) : p ≠ .disabled := by
  rintro rfl
  cases h

theorem Phase.Viewable.ne_disabled {p : Phase} (h : p.Viewable) : p ≠ .disabled := by
  rintro rfl
  rcases h with h | h | h <;> cases h

theorem rolesKept_blocks : KeptBlocks fun _ s => s.RolesLaw where
  counters r f h := h.congr (by simp)
  timer r x h := h.congr (by simp)
  timers h := h.congr (State.run_modRegions_timer _ _)

theorem rolesKept_runs : KeptRuns fun _ s => s.RolesLaw where
  tally r f hf h := h.modRun fun ht => ht.tallied (hf _)
  pendingEntered hp h := h.modRun fun ht =>
    ht.moved (by rw [show (State.run _ _).phase = _ from hp]; simp) (by simp) rfl rfl rfl (by simp)
  flags f g hp h := h.modRun fun ht =>
    have hp' : (State.run _ _).phase = .pending := hp
    ht.moved (by simp [hp']) (by simp [hp']) rfl rfl rfl (by simp [hp'])
  published hp _ h := h.modRun fun ht => ht.published hp _
  freed hheld _ h := h.modRun fun ht => ht.freed hheld

theorem rolesKept_life : KeptLife fun _ s => s.RolesLaw where
  lifeNoted r f hf h := h.congr (by simp)
  folding n _ _ h := h.congr (by simp)
  retired {m s r} _ _ h j := by
    rw [State.run_retirementEnd]
    split
    · exact .ended _
    · exact h j
  faulted _ hp h := h.modRun fun ht =>
    ht.moved (Phase.ne_disabled_of_working hp) (by simp [Runtime.faulted]) rfl rfl rfl (fun _ => ⟨rfl, rfl⟩)
  retiring _ hp h := by
    refine State.RolesLaw.modRun (h.congr (by simp)) fun ht => ?_
    rw [State.run_modLife] at ht ⊢
    exact ht.moved hp.ne_disabled (by simp [Runtime.retiring]) rfl rfl rfl (fun _ => ⟨rfl, rfl⟩)

theorem rolesKept_park : KeptPark (fun _ s => s.RolesLaw) fun _ _ => True where
  placed _ _ _ h := h.congr (fun j => State.run_congr (by simp) j)

theorem rolesKept_link : KeptLink fun _ s => s.RolesLaw where
  enabledNow _ _ _ _ _ h j := by
    rw [State.run_enableApply]
    split
    · exact .enabled
    · exact h j
  enabledDue _ h j := by
    rw [State.run_enableApply]
    split
    · exact .enabled
    · exact h j
  restarted _ _ j := by
    rw [State.run_restartCleared]
    exact .ended _

theorem keptRoles : Kept (fun _ s => s.RolesLaw) fun _ _ => True :=
  ⟨rolesKept_blocks, rolesKept_runs, rolesKept_life, rolesKept_park, {}, rolesKept_link⟩

theorem keptRoles_store : KeptStore fun _ s => s.RolesLaw :=
  fun _ _ _ _ _ _ _ _ h => h.congr (State.run_storeRegion _ _ · _)

theorem State.reset_run (r : RegionIx) : State.reset.run r = Runtime.powerOn := by
  simp [State.reset, State.run, State.region, Region.powerOn, Vector.get_eq_getElem]

/-- Settles O6: every update of a runtime record keeps it in order, and no other update touches one. -/
theorem rolesLawKept : Obligations.RolesLawKept := by
  intro s t h hstep
  refine keptRoles.step (s := s) h keptRoles_store (fun _ _ h => h) (fun t _ => answers_next ?_) (fun _ h => h) hstep
  intro r
  exact State.reset_run r ▸ .ended Runtime.powerOn

end Sys2Proof.Machine


/-! SUPPORT. The areas of active regions are disjoint, and what is stored for the regions and the enable that waits
uphold it (R3, R120 to R122): every update keeps it. -/

namespace Sys2Proof.Machine

set_option Elab.async false

/-! ### Overlaps -/

theorem overlaps_comm (a m b n : Nat) : overlaps a m b n = overlaps b n a m := by
  rw [Bool.eq_iff_iff]
  simp only [overlaps, Bool.and_eq_true, decide_eq_true_eq]
  omega

theorem bankOverlap_comm (c d : RegionConfig) (b e : Bank) : bankOverlap c d b e = bankOverlap d c e b :=
  overlaps_comm ..

theorem configsOverlap_eq_false_iff {c d : RegionConfig} :
    configsOverlap c d = false ↔
      (∀ b e : Bank, bankOverlap c d b e = false) ∧ overlaps c.lineBase c.lines d.lineBase d.lines = false := by
  simp [configsOverlap, mem_banks]

theorem configsOverlap_comm (c d : RegionConfig) : configsOverlap c d = configsOverlap d c := by
  have h (c d : RegionConfig) (hcd : configsOverlap c d = false) : configsOverlap d c = false := by
    obtain ⟨hbanks, hlines⟩ := configsOverlap_eq_false_iff.mp hcd
    exact configsOverlap_eq_false_iff.mpr
      ⟨fun b e => bankOverlap_comm d c b e ▸ hbanks e b, (overlaps_comm ..).trans hlines⟩
  cases hcd : configsOverlap c d
  · exact (h c d hcd).symm
  · cases hdc : configsOverlap d c
    · exact absurd (h d c hdc) (by simp [hcd])
    · rfl

theorem State.conflict_eq_none_iff {s : State} {r : RegionIx} :
    s.conflict r = none ↔
      ∀ j, j ≠ r → (s.phase j).active = true → configsOverlap (s.config r) (s.config j) = false := by
  simp [State.conflict, mem_regionIxs]

/-! ### A record that is accepted has its areas in order (R189) -/

theorem recordAccepted_iff {x : RegionRecord} :
    recordAccepted x = true ↔ ∀ c ∈ regionChecks x, c.2 = true := by
  simp [recordAccepted, firstFailing]

theorem RegionConfig.areasSound_of_accepted {x : RegionRecord} (h : recordAccepted x = true) :
    (RegionConfig.ofRecord x).AreasSound := by
  have hchecks := recordAccepted_iff.mp h
  simp only [regionChecks, List.forall_mem_cons, baseOk, areasDisjoint, Bool.and_eq_true, beq_iff_eq,
    decide_eq_true_eq, Bool.not_eq_eq_eq_not, Bool.not_true] at hchecks
  obtain ⟨-, hA, hB, hC, hlines, -, -, -, -, -, -, -, -, -, -, ⟨⟨hAB, hAC⟩, hBC⟩, -⟩ := hchecks
  refine ⟨fun b => ?_, fun b e hbe => ?_, hlines⟩
  · cases b
    · exact hA
    · exact hB
    · exact hC
  · cases b <;> cases e
    case bankA.bankB => exact hAB
    case bankA.bankC => exact hAC
    case bankB.bankC => exact hBC
    case bankB.bankA => exact (overlaps_comm ..).trans hAB
    case bankC.bankA => exact (overlaps_comm ..).trans hAC
    case bankC.bankB => exact (overlaps_comm ..).trans hBC
    all_goals exact absurd rfl hbe

/-! ### The law -/

/-- The law of R121 with what upholds it. -/
structure State.AreasKept (s : State) : Prop where
  areas : s.AreasLaw
  entries : s.EntriesLaw

/-- A state in which no further region is active, no entry has changed and no further enable waits keeps the law. -/
theorem State.AreasKept.mono {s t : State} (h : s.AreasKept)
    (hactive : ∀ r, (t.phase r).active = true → (s.phase r).active = true) (hentry : ∀ r, t.entry r = s.entry r)
    (hwait : ∀ r seq o, t.link.waiting = some (.enable r seq o) → ∃ o', s.link.waiting = some (.enable r seq o')) :
    t.AreasKept := by
  obtain ⟨⟨hsound, hapart⟩, hwritten, hstored, henable⟩ := h
  have hconfig (r : RegionIx) : t.config r = s.config r := State.config_of_entry (hentry r)
  have hflag (r : RegionIx) : (t.region r).written = (s.region r).written := congrArg Prod.snd (hentry r)
  refine ⟨⟨fun r hr => ?_, fun r j hrj hr hj => ?_⟩, fun r hr => ?_, fun r hr => ?_, fun r seq o hr => ?_⟩
  · exact hconfig r ▸ hsound r (hactive r hr)
  · rw [hconfig, hconfig]
    exact hapart r j hrj (hactive r hr) (hactive j hj)
  · exact hconfig r ▸ hwritten r (hflag r ▸ hr)
  · exact hflag r ▸ hstored r (hactive r hr)
  · obtain ⟨o', hs⟩ := hwait r seq o hr
    obtain ⟨hw, hconflict⟩ := henable r seq o' hs
    refine ⟨hflag r ▸ hw, State.conflict_eq_none_iff.mpr fun j hj hactive' => ?_⟩
    rw [hconfig, hconfig]
    exact State.conflict_eq_none_iff.mp hconflict j hj (hactive j hactive')

/-- A runtime record changes and no further region becomes active. -/
theorem State.AreasKept.modRun {s : State} {r : RegionIx} {f : Runtime → Runtime} (h : s.AreasKept)
    (hf : (f (s.run r)).phase.active = true → (s.phase r).active = true) : (s.modRun r f).AreasKept := by
  refine h.mono (fun j hj => ?_) (fun j => by simp) (fun _ _ o hw => ⟨o, hw⟩)
  rw [show (s.modRun r f).phase j = _ from congrArg Runtime.phase (s.run_modRun r j f)] at hj
  split at hj
  · rename_i hjr
    exact hjr ▸ hf hj
  · exact hj

theorem State.AreasKept.congr {s t : State} (h : s.AreasKept) (hrun : ∀ r, t.run r = s.run r)
    (hentry : ∀ r, t.entry r = s.entry r) (hlink : t.link = s.link) : t.AreasKept := by
  have hphase (r : RegionIx) : t.phase r = s.phase r := congrArg Runtime.phase (hrun r)
  exact h.mono (fun r hr => hphase r ▸ hr) hentry fun _ _ o hw => ⟨o, hlink ▸ hw⟩

/-- A region whose entry is stored and fails against no active region is enabled (R123). -/
theorem State.AreasKept.enableApply {s : State} {r : RegionIx} (h : s.AreasKept)
    (hwritten : (s.region r).written = true) (hconflict : s.conflict r = none) (seq : Byte) :
    (s.enableApply r seq).AreasKept := by
  obtain ⟨⟨hsound, hapart⟩, hareas, hstored, -⟩ := h
  have hentry (j : RegionIx) : (s.enableApply r seq).entry j = s.entry j := by simp
  have hconfig (j : RegionIx) : (s.enableApply r seq).config j = s.config j := State.config_of_entry (hentry j)
  have hflag (j : RegionIx) : ((s.enableApply r seq).region j).written = (s.region j).written :=
    congrArg Prod.snd (hentry j)
  have hactive (j : RegionIx) (hj : ((s.enableApply r seq).phase j).active = true) :
      j = r ∨ (s.phase j).active = true := by
    by_cases hjr : j = r
    · exact .inl hjr
    · rw [State.phase, ← State.run, State.run_enableApply, if_neg hjr] at hj
      exact .inr hj
  have hfails := State.conflict_eq_none_iff.mp hconflict
  refine ⟨⟨fun j hj => ?_, fun j k hjk hj hk => ?_⟩, fun j hj => ?_, fun j hj => ?_, fun j x o hw => ?_⟩
  · rw [hconfig]
    rcases hactive j hj with rfl | hj
    · exact hareas j hwritten
    · exact hsound j hj
  · rw [hconfig, hconfig]
    rcases hactive j hj with hjr | hj'
    · rcases hactive k hk with hkr | hk'
      · exact absurd (hjr.trans hkr.symm) hjk
      · exact hjr ▸ hfails k (hjr ▸ hjk.symm) hk'
    · rcases hactive k hk with hkr | hk'
      · rw [configsOverlap_comm, hkr]
        exact hfails j (hkr ▸ hjk) hj'
      · exact hapart j k hjk hj' hk'
  · rw [hconfig]
    exact hareas j (hflag j ▸ hj)
  · rw [hflag]
    rcases hactive j hj with rfl | hj
    · exact hwritten
    · exact hstored j hj
  · cases hw

/-- An accepted record is stored for a DISABLED region (R189). -/
theorem State.AreasKept.storeRegion {s : State} {r : RegionIx} {x : RegionRecord} (h : s.AreasKept)
    (hp : s.phase r = .disabled) (hx : recordAccepted x = true) (resp : LinkResponse) :
    ((s.storeRegion r x).placeResponse resp).AreasKept := by
  obtain ⟨⟨hsound, hapart⟩, hareas, hstored, -⟩ := h
  generalize ht : (s.storeRegion r x).placeResponse resp = t
  have hregion (j : RegionIx) (hj : j ≠ r) : t.region j = s.region j := by
    rw [← ht]
    exact s.region_modRegion_ne hj fun g => { g with config := RegionConfig.ofRecord x, written := true }
  have hself : t.region r = { s.region r with config := RegionConfig.ofRecord x, written := true } := by
    rw [← ht]
    exact s.region_modRegion_self r fun g => { g with config := RegionConfig.ofRecord x, written := true }
  have hphase (j : RegionIx) : t.phase j = s.phase j := by
    rw [← ht]
    exact congrArg Runtime.phase (s.run_storeRegion r j x)
  have hne {j : RegionIx} (hj : (t.phase j).active = true) : j ≠ r := by
    rintro rfl
    rw [hphase, hp] at hj
    cases hj
  have hconfig {j : RegionIx} (hj : j ≠ r) : t.config j = s.config j := congrArg Region.config (hregion j hj)
  refine ⟨⟨fun j hj => ?_, fun j k hjk hj hk => ?_⟩, fun j hj => ?_, fun j hj => ?_, fun j _ _ hw => ?_⟩
  · exact hconfig (hne hj) ▸ hsound j (hphase j ▸ hj)
  · rw [hconfig (hne hj), hconfig (hne hk)]
    exact hapart j k hjk (hphase j ▸ hj) (hphase k ▸ hk)
  · by_cases hjr : j = r
    · rw [hjr, State.config, hself]
      exact RegionConfig.areasSound_of_accepted hx
    · exact hconfig hjr ▸ hareas j (hregion j hjr ▸ hj)
  · exact hregion j (hne hj) ▸ hstored j (hphase j ▸ hj)
  · rw [← ht] at hw
    cases hw

/-! ### Every update keeps the law -/

theorem areasKept_blocks : KeptBlocks fun _ s => s.AreasKept where
  catchup x h := h.congr (fun _ => rfl) (fun _ => rfl) rfl
  counters r f h := h.congr (by simp) (by simp) (by simp)
  timer r x h := h.congr (by simp) (by simp) (by simp)
  timers h := h.congr (State.run_modRegions_timer _ _) (by simp [State.entry]) rfl
  clock x h := h.congr (fun _ => rfl) (fun _ => rfl) rfl
  strobes x h := h.congr (fun _ => rfl) (fun _ => rfl) rfl
  bus _ h := h.congr (fun _ => rfl) (fun _ => rfl) rfl
  enqueue n h := h.congr (fun _ => rfl) (fun _ => rfl) rfl
  irq b h := h.congr (fun _ => rfl) (fun _ => rfl) rfl
  noticesRead h := h.congr (fun _ => rfl) (fun _ => rfl) rfl
  snapshot x h := h.congr (fun _ => rfl) (fun _ => rfl) rfl

theorem areasKept_runs : KeptRuns fun _ s => s.AreasKept where
  tally r f hf h := h.modRun fun ha => by
    rw [hf] at ha
    exact ha
  pendingEntered hp h := h.modRun fun _ => by simp [hp, Phase.active]
  flags f g hp h := h.modRun fun ha => ha
  published hp _ h := h.modRun fun _ => by simp [hp, Phase.active]
  freed _ _ h := h.modRun fun ha => ha
  viewMarks _ h := h.congr (fun _ => rfl) (fun _ => rfl) rfl
  viewOpened _ _ _ _ _ _ _ h := h.congr (fun _ => rfl) (fun _ => rfl) rfl
  viewsGone _ h := h.congr (fun _ => rfl) (fun _ => rfl) rfl

theorem Phase.active_of_ne {p : Phase} (h : p ≠ .disabled) : p.active = true := by
  simpa [Phase.active] using h

theorem areasKept_life : KeptLife fun _ s => s.AreasKept where
  lifeNoted r f hf h := h.congr (by simp) (by simp) (by simp)
  folding n _ _ h := h.congr (by simp) (by simp) (by simp)
  retired {m s r} _ _ h := by
    refine h.mono (fun j hj => ?_) (by simp) (fun _ _ o hw => ⟨o, by simpa using hw⟩)
    rw [State.phase, ← State.run, State.run_retirementEnd] at hj
    split at hj
    · cases hj
    · exact hj
  faulted _ hp h := h.modRun fun _ => Phase.active_of_ne (Phase.ne_disabled_of_working hp)
  retiring {m s r} _ hp h := by
    have hlife : (s.modLife r Lifecycle.winding).AreasKept := h.congr (by simp) (by simp) (by simp)
    exact hlife.modRun fun _ => by
      rw [State.phase_modLife]
      exact Phase.active_of_ne hp.ne_disabled
  entriesDropped _ h := h.congr (fun _ => rfl) (fun _ => rfl) rfl

theorem areasKept_park : KeptPark (fun _ s => s.AreasKept) fun _ _ => True where
  slot _ h := h.congr (fun _ => rfl) (fun _ => rfl) rfl
  modEntry _ _ _ h := h.congr (fun _ => rfl) (fun _ => rfl) rfl
  removed _ _ h := h.congr (fun _ => rfl) (fun _ => rfl) rfl
  placed _ _ _ h := h.congr (fun j => State.run_congr (by simp) j) (by simp) (by simp)
  waitsLine _ h := h.congr (fun _ => rfl) (fun _ => rfl) rfl
  waitsPark _ _ _ h := h.congr (fun _ => rfl) (fun _ => rfl) rfl

theorem areasKept_host : KeptHost fun _ s => s.AreasKept where
  progress _ h := h.congr (fun _ => rfl) (fun _ => rfl) rfl
  head _ _ _ h := h.congr (fun _ => rfl) (fun _ => rfl) rfl
  headTick h := h.congr (fun _ => rfl) (fun _ => rfl) rfl
  burst _ h := h.congr (fun _ => rfl) (fun _ => rfl) rfl
  joined _ _ h := h.congr (fun _ => rfl) (fun _ => rfl) rfl
  next h := h.congr (fun _ => rfl) (fun _ => rfl) rfl
  emptied h := h.congr (fun _ => rfl) (fun _ => rfl) rfl
  released h := h.congr (fun _ => rfl) (fun _ => rfl) rfl

/-- The link changes, and no further enable waits. -/
theorem State.AreasKept.setLink {s : State} {x : Link} (h : s.AreasKept)
    (hwait : ∀ r seq o, x.waiting = some (.enable r seq o) → ∃ o', s.link.waiting = some (.enable r seq o')) :
    (s.setLink x).AreasKept :=
  h.mono (fun _ hr => hr) (fun _ => rfl) hwait

theorem areasKept_link : KeptLink fun _ s => s.AreasKept where
  firstByte _ _ h := h.setLink fun _ _ o hw => ⟨o, hw⟩
  discards _ _ _ h := h.setLink fun _ _ o hw => ⟨o, hw⟩
  frameDropped _ h := h.setLink fun _ _ o hw => ⟨o, hw⟩
  fetched _ _ _ h := h.setLink fun _ _ o hw => ⟨o, hw⟩
  runs _ h := h.setLink fun _ _ o hw => ⟨o, hw⟩
  answered _ _ h := h.setLink fun _ _ _ hw => nomatch hw
  enableWaits {m s r} seq _ hp hwritten hconflict h := by
    refine ⟨h.areas, h.entries.1, h.entries.2.1, fun j x o hw => ?_⟩
    obtain ⟨rfl, -, -⟩ := Waiting.enable.inj (Option.some.inj hw)
    exact ⟨hwritten, hconflict⟩
  restartWaits _ _ h := h.setLink fun _ _ _ hw => nomatch hw
  waitingChanged _ hw h := h.setLink hw
  enabledNow seq _ _ hwritten hconflict h := h.enableApply hwritten hconflict seq
  enabledDue {m s r seq o} hw h :=
    have ⟨hwritten, hconflict⟩ := h.entries.2.2 r seq o hw
    h.enableApply hwritten hconflict seq
  restarted {m s seq} _ h := by
    refine h.mono (fun j hj => ?_) (fun j => s.entry_restartCleared j seq) (fun _ _ _ hw => nomatch hw)
    rw [State.phase, ← State.run, State.run_restartCleared] at hj
    cases hj

theorem keptAreas : Kept (fun _ s => s.AreasKept) fun _ _ => True :=
  ⟨areasKept_blocks, areasKept_runs, areasKept_life, areasKept_park, areasKept_host, areasKept_link⟩

theorem keptAreas_store : KeptStore fun _ s => s.AreasKept :=
  fun _ _ _ _ resp _ hp hx h => h.storeRegion hp hx resp

theorem State.areasKept_of_reset {s : State} (hregions : s.regions = State.reset.regions)
    (hlink : s.link = State.reset.link) : s.AreasKept := by
  have hregion (j : RegionIx) : s.region j = Region.powerOn := by
    simp [State.region, hregions, State.reset, Vector.get_eq_getElem]
  have hinactive (j : RegionIx) : (s.phase j).active = false := by
    rw [State.phase, hregion]
    rfl
  refine ⟨⟨fun j hj => ?_, fun j k _ hj => ?_⟩, fun j hj => ?_, fun j hj => ?_, fun j _ _ hw => ?_⟩
  · simp [hinactive] at hj
  · simp [hinactive] at hj
  · simp [hregion, Region.powerOn] at hj
  · simp [hinactive] at hj
  · rw [hlink] at hw
    cases hw

/-- Settles O9: a region becomes active by an enable that fails against no active region, on an entry that was
accepted (R120, R121, R189). -/
theorem areasLawKept : Obligations.AreasLawKept := by
  intro s t hareas hentries hstep
  obtain ⟨hareas', hentries'⟩ := keptAreas.step (s := s) ⟨hareas, hentries⟩ keptAreas_store
    (fun t l h => h.congr (fun _ => rfl) (fun _ => rfl) rfl)
    (fun t _ => answers_next (State.areasKept_of_reset rfl rfl))
    (fun t h => h.congr (fun _ => rfl) (fun _ => rfl) rfl) hstep
  exact ⟨hareas', hentries'⟩

end Sys2Proof.Machine


/-! SUPPORT. The Park Queue's operations, entry by entry (R88, R91), and the laws of the two queues and of the link
that every update keeps (R88, R137 to R140, R179, R183). -/

namespace Sys2Proof.Machine

set_option Elab.async false

/-! ### The entry of a key (R88) -/

theorem State.parked_modEntry {s : State} {k : ParkKey} {f : ParkEntry → ParkEntry} (hf : ∀ e, (f e).key = e.key)
    (j : ParkKey) : (s.modEntry k f).parked j = if j = k then (s.parked k).map f else s.parked j := by
  have hkey : (fun e : ParkEntry => (if e.key == k then f e else e).key == j) = fun e => e.key == j := by
    funext e
    split <;> simp [hf]
  have hparked : (s.modEntry k f).parked j = (s.parked j).map fun e => if e.key == k then f e else e := by
    show (s.park.entries.map _).find? _ = _
    rw [List.find?_map]
    exact congrArg (fun p => (s.park.entries.find? p).map _) hkey
  rw [hparked]
  cases hj : s.parked j with
  | none => split <;> simp_all
  | some e =>
    have he : e.key = j := by simpa using List.find?_some hj
    by_cases hjk : j = k
    · rw [if_pos hjk, ← hjk, hj]
      simp [he]
    · simp [he, hjk]

theorem State.parked_append (s : State) (e : ParkEntry) (j : ParkKey) :
    (s.setEntries (s.park.entries ++ [e])).parked j =
      (s.parked j).or (if e.key = j then some e else none) := by
  show (s.park.entries ++ [e]).find? _ = _
  rw [List.find?_append]
  by_cases h : e.key = j <;> simp [h, State.parked]

theorem ParkEntry.key_merge (e : ParkEntry) (b : Beat) (w : Bool) : (e.merge b w).key = e.key := rfl

theorem ParkEntry.key_ofBeat (k : ParkKey) (b : Beat) : (ParkEntry.ofBeat k b).key = k := rfl

/-- The entry of a key once a beat has been placed there (R91). -/
def State.beatEntry (s : State) (k : ParkKey) (b : Beat) : ParkEntry :=
  match s.parked k with
  | some e => e.merge b (s.park.slot.isWriting k)
  | none => .ofBeat k b

theorem State.parked_placeBeat (s : State) (k : ParkKey) (b : Beat) (j : ParkKey) :
    (s.placeBeat k b).parked j = if j = k then some (s.beatEntry k b) else s.parked j := by
  unfold State.placeBeat State.beatEntry
  cases hk : s.parked k with
  | some e =>
    simp only [Option.isSome_some, if_true]
    rw [State.parked_modEntry fun e => e.key_merge b _, hk]
    rfl
  | none =>
    simp only [Option.isSome_none, Bool.false_eq_true, if_false]
    rw [State.parked_append, ParkEntry.key_ofBeat]
    by_cases hj : j = k
    · simp [hj, hk]
    · simp [hj, Ne.symm hj]

@[simp] theorem State.slot_placeBeat (s : State) (k : ParkKey) (b : Beat) : (s.placeBeat k b).park.slot = s.park.slot := by
  unfold State.placeBeat
  split <;> rfl

theorem State.keys_modEntry {s : State} {k : ParkKey} {f : ParkEntry → ParkEntry} (hf : ∀ e, (f e).key = e.key) :
    (s.modEntry k f).park.entries.map ParkEntry.key = s.park.entries.map ParkEntry.key := by
  show (s.park.entries.map _).map _ = _
  rw [List.map_map]
  refine List.map_congr_left fun e _ => ?_
  simp only [Function.comp]
  split
  · exact hf e
  · rfl

/-- The keys after a beat has been placed: its own joins them where it had no entry. -/
theorem State.keys_placeBeat (s : State) (k : ParkKey) (b : Beat) :
    (s.placeBeat k b).park.entries.map ParkEntry.key =
      s.park.entries.map ParkEntry.key ++ if (s.parked k).isSome then [] else [k] := by
  unfold State.placeBeat
  split
  · rw [State.keys_modEntry fun e => e.key_merge b _]
    simp
  · simp [State.setEntries, ParkEntry.key_ofBeat]

theorem State.parked_isSome_iff {s : State} {k : ParkKey} :
    (s.parked k).isSome = true ↔ k ∈ s.park.entries.map ParkEntry.key := by
  simp [State.parked, List.find?_isSome]

/-! ### Beats placed at successive words (R91) -/

theorem State.slot_placeBeats (s : State) (r : RegionIx) (tag : Word) (w : Nat) (l : List Beat) :
    (s.placeBeats r tag w l).park.slot = s.park.slot := by
  induction l generalizing s w with
  | nil => rfl
  | cons b l ih => rw [State.placeBeats, ih, State.slot_placeBeat]

/-- The keys of a run of words that have no entry. -/
def State.keysMissing (s : State) (r : RegionIx) (tag : Word) (w n : Nat) : List ParkKey :=
  ((List.range' w n).map fun word => (⟨r, word, tag⟩ : ParkKey)).filter fun k => (s.parked k).isNone

theorem State.keysMissing_placeBeat (s : State) (r : RegionIx) (tag : Word) (w n : Nat) (b : Beat) :
    (s.placeBeat ⟨r, w, tag⟩ b).keysMissing r tag (w + 1) n = s.keysMissing r tag (w + 1) n := by
  refine List.filter_congr fun k hk => ?_
  obtain ⟨word, hword, rfl⟩ := List.mem_map.mp hk
  have : w + 1 ≤ word := (List.mem_range'_1.mp hword).1
  rw [State.parked_placeBeat, if_neg]
  rintro ⟨-, rfl, -⟩
  omega

theorem State.keys_placeBeats (s : State) (r : RegionIx) (tag : Word) (w : Nat) (l : List Beat) :
    (s.placeBeats r tag w l).park.entries.map ParkEntry.key =
      s.park.entries.map ParkEntry.key ++ s.keysMissing r tag w l.length := by
  induction l generalizing s w with
  | nil => simp [State.placeBeats, State.keysMissing]
  | cons b l ih =>
    rw [State.placeBeats, ih, State.keys_placeBeat, State.keysMissing_placeBeat, List.append_assoc]
    congr 1
    simp only [State.keysMissing, List.length_cons, List.range'_succ, List.map_cons, List.filter_cons]
    cases s.parked ⟨r, w, tag⟩ <;> rfl

theorem State.parked_placeBeats_of_ne (s : State) {r : RegionIx} {tag : Word} {w : Nat} {l : List Beat} {k : ParkKey}
    (h : k.region ≠ r ∨ k.frameTag ≠ tag ∨ k.word < w ∨ w + l.length ≤ k.word) :
    (s.placeBeats r tag w l).parked k = s.parked k := by
  induction l generalizing s w with
  | nil => rfl
  | cons b l ih =>
    rw [State.placeBeats, ih, State.parked_placeBeat, if_neg]
    · rintro rfl
      simp at h
    · rw [List.length_cons] at h
      exact h.imp_right (Or.imp_right (by omega))

theorem State.parked_placeBeats (s : State) {r : RegionIx} {tag : Word} {w i : Nat} {l : List Beat} {b : Beat}
    (hb : l[i]? = some b) :
    (s.placeBeats r tag w l).parked ⟨r, w + i, tag⟩ = some (s.beatEntry ⟨r, w + i, tag⟩ b) := by
  induction l generalizing s w i with
  | nil => cases hb
  | cons x l ih =>
    rw [State.placeBeats]
    cases i with
    | zero =>
      obtain rfl : x = b := by simpa using hb
      rw [State.parked_placeBeats_of_ne _ (by simp), State.parked_placeBeat, Nat.add_zero, if_pos rfl]
    | succ i =>
      have hnext := ih (s.placeBeat ⟨r, w, tag⟩ x) (w := w + 1) (i := i) (by simpa using hb)
      rw [Nat.add_assoc, Nat.add_comm 1 i] at hnext
      rw [hnext, State.beatEntry, State.beatEntry, State.slot_placeBeat, State.parked_placeBeat, if_neg]
      intro hkey
      have := congrArg ParkKey.word hkey
      simp only at this
      omega

theorem State.length_placeBeats (s : State) (r : RegionIx) (tag : Word) (w : Nat) (l : List Beat) :
    (s.placeBeats r tag w l).park.entries.length =
      s.park.entries.length + (s.keysMissing r tag w l.length).length := by
  have := congrArg List.length (s.keys_placeBeats r tag w l)
  simpa using this

/-- The beats that would take new entries are those whose words have none (R92). -/
theorem State.newEntries_eq (s : State) (r : RegionIx) (q : HostRequest) :
    s.newEntries r q = (s.keysMissing r (s.parkTag r) ((s.config r).beatWord q 0) q.beats).length := by
  rw [State.newEntries, State.keysMissing, List.range'_eq_map_range, List.map_map, ← List.countP_eq_length_filter,
    List.countP_map]
  rfl

/-! ### The Park Queue's law (R88) -/

theorem State.nodup_keysMissing (s : State) (r : RegionIx) (tag : Word) (w n : Nat) :
    (s.keysMissing r tag w n).Nodup := by
  refine List.Nodup.filter _ (List.Nodup.map (fun a b h => ?_) List.nodup_range')
  simpa using h

theorem ParkQueue.Sound.placeBeats {s : State} (h : s.park.Sound) {r : RegionIx} {tag : Word} {w : Nat}
    {l : List Beat} (hroom : (s.keysMissing r tag w l.length).length ≤ s.emptyPlaces) :
    (s.placeBeats r tag w l).park.Sound := by
  obtain ⟨hlen, hnodup⟩ := h
  refine ⟨?_, ?_⟩
  · rw [State.length_placeBeats]
    simp only [State.emptyPlaces, Config.parkCapacity] at hroom
    omega
  · rw [State.keys_placeBeats, List.nodup_append']
    refine ⟨hnodup, State.nodup_keysMissing .., fun k hk hmissing => ?_⟩
    have hnone := (List.mem_filter.mp hmissing).2
    have hsome := State.parked_isSome_iff.mpr hk
    simp_all

theorem ParkQueue.Sound.filter {p : ParkQueue} (h : p.Sound) (test : ParkEntry → Bool) (d : DrainSlot) :
    (⟨p.entries.filter test, d⟩ : ParkQueue).Sound :=
  ⟨(List.length_filter_le ..).trans h.1, h.2.sublist (List.filter_sublist.map _)⟩

theorem ParkQueue.Sound.modEntry {s : State} (h : s.park.Sound) {k : ParkKey} {f : ParkEntry → ParkEntry}
    (hf : ∀ e, (f e).key = e.key) : (s.modEntry k f).park.Sound :=
  ⟨(List.length_map _).trans_le h.1, (State.keys_modEntry hf).symm ▸ h.2⟩

/-! ### The two queues (R88, R137, R139, R140) -/

/-- The law of the host request queue and of the Park Queue. -/
def State.QueuesSound (s : State) : Prop := s.host.Sound ∧ s.park.Sound

theorem State.QueuesSound.setHead {s : State} (h : s.QueuesSound) {x : Option Head}
    (hx : x = none ↔ s.host.queue = []) : (s.setHead x).QueuesSound :=
  ⟨⟨h.1.1, h.1.2.1, hx⟩, h.2⟩

/-- The head changes and stays a head. -/
theorem State.QueuesSound.mapHead {s : State} (h : s.QueuesSound) (f : Head → Head) :
    (s.setHead (s.host.head.map f)).QueuesSound :=
  h.setHead (Option.map_eq_none_iff.trans h.1.2.2)

theorem HostPort.Sound.join {x : HostPort} {q : HostRequest} (h : x.Sound) (hq : q.wf = true)
    (hroom : x.accepts = true) : (x.join q).Sound := by
  obtain ⟨hlen, hwf, hhead⟩ := h
  have hroom : x.queue.length < 4 := of_decide_eq_true ((Bool.and_eq_true _ _).mp hroom).2
  refine ⟨?_, fun p hp => ?_, ?_⟩
  · simp only [HostPort.join, List.length_append, List.length_singleton]
    omega
  · rcases List.mem_append.mp hp with hp | hp
    · exact hwf p hp
    · exact List.mem_singleton.mp hp ▸ hq
  · simp only [HostPort.join, List.append_eq_nil_iff, List.cons_ne_nil, and_false, iff_false]
    split
    · simp
    · rename_i hne
      rw [hhead]
      simpa using hne

theorem HostPort.Sound.next {x : HostPort} (h : x.Sound) : x.next.Sound := by
  obtain ⟨hlen, hwf, -⟩ := h
  refine ⟨?_, fun p hp => hwf p (List.mem_of_mem_tail hp), ?_⟩
  · simp only [HostPort.next, List.length_tail]
    omega
  · simp only [HostPort.next]
    cases x.queue.tail <;> simp

theorem queuesKept_park : KeptPark (fun _ s => s.QueuesSound) fun _ _ => True where
  slot _ h := ⟨h.1, h.2⟩
  modEntry _ _ hf h := ⟨h.1, h.2.modEntry hf⟩
  removed _ _ h := ⟨h.1, h.2.filter ..⟩
  placed {m s r q} _ hq hroom h := by
    refine ⟨by simpa using h.1, h.2.placeBeats ?_⟩
    have hwf : q.wf = true := h.1.2.1 q (List.mem_of_mem_head? hq)
    have hlen : q.data.length ≤ q.beats := by
      cases hkind : q.kind <;> simp_all [HostRequest.wf]
    rw [State.newEntries_eq] at hroom
    refine le_trans (List.Sublist.length_le ?_) hroom
    refine List.Sublist.filter _ (List.Sublist.map _ ?_)
    exact List.range'_sublist_right.mpr hlen
  waitsLine _ h := h.mapHead _
  waitsPark _ _ _ h := h.mapHead _

theorem queuesKept_host : KeptHost fun _ s => s.QueuesSound where
  progress _ h := h.mapHead _
  head d hqueue _ h := h.setHead (by simpa using hqueue)
  headTick h := h.mapHead _
  burst _ h := ⟨h.1, h.2⟩
  joined hq hroom h := ⟨h.1.join hq hroom, h.2⟩
  next h := ⟨h.1.next, h.2⟩
  emptied h := ⟨⟨by simp, by simp, by simp⟩, h.2⟩
  released h := ⟨h.1, h.2⟩

theorem queuesKept_life : KeptLife fun _ s => s.QueuesSound where
  retired _ _ h := ⟨by simpa using h.1, by simpa using h.2⟩
  entriesDropped _ h := ⟨h.1, h.2.filter ..⟩

theorem State.restartBlocks_queues {s : State} (h : s.QueuesSound) : s.restartBlocks.QueuesSound :=
  ⟨h.1, by simp [State.restartBlocks, ParkQueue.empty], by simp [State.restartBlocks, ParkQueue.empty]⟩

theorem queuesKept_link : KeptLink fun _ s => s.QueuesSound where
  enabledNow _ _ _ _ _ h := ⟨by simpa using h.1, by simpa using h.2⟩
  enabledDue _ h := ⟨by simpa using h.1, by simpa using h.2⟩
  restarted _ h := by
    unfold State.restartCleared
    split
    · exact (State.restartBlocks_queues h).mapHead _
    · exact State.restartBlocks_queues h

theorem keptQueues : Kept (fun _ s => s.QueuesSound) fun _ _ => True :=
  ⟨{}, {}, queuesKept_life, queuesKept_park, queuesKept_host, queuesKept_link⟩

theorem queuesLawKept {s t : State} (h : s.QueuesSound) (hstep : step s = .next t) : t.QueuesSound :=
  keptQueues.step (s := s) h (fun _ _ _ _ _ _ _ _ h => h) (fun _ _ h => h)
    (fun _ _ => answers_next ⟨⟨by simp [State.reset], by simp [State.reset], by simp [State.reset]⟩,
      by simp [State.reset, ParkQueue.empty], by simp [State.reset, ParkQueue.empty]⟩)
    (fun _ h => h) hstep

/-! ### The link (R179, R183) -/

/-- The link while a command is being executed (R183). -/
def Link.Running (l : Link) : Prop :=
  l.state = .executing ∧ l.waiting = none ∧ l.mdo = .released ∧ l.discarding = false

/-- The law of the link, within a happening: in order, or in the midst of a command. -/
def Amid.linkLaw (m : Amid) (s : State) : Prop := if m.running = true then s.link.Running else s.link.Sound

theorem Amid.linkLaw_of_running {m : Amid} {s : State} (hm : m.running = true) : m.linkLaw s ↔ s.link.Running := by
  simp [Amid.linkLaw, hm]

theorem Amid.linkLaw_of_not_running {m : Amid} {s : State} (hm : m.running = false) :
    m.linkLaw s ↔ s.link.Sound := by
  simp [Amid.linkLaw, hm]

/-- A command that waits is not being executed. -/
theorem Amid.linkLaw.sound {m : Amid} {s : State} (h : m.linkLaw s) (hnot : ¬s.link.Running) :
    m.running = false ∧ s.link.Sound := by
  cases hm : m.running
  · exact ⟨rfl, (Amid.linkLaw_of_not_running hm).mp h⟩
  · exact absurd ((Amid.linkLaw_of_running hm).mp h) hnot

/-- The response of a command that has been executed, or waited, is placed (R183). -/
theorem Link.sound_placed {l : Link} (hmdo : l.mdo = .zeros ↔ l.discarding = true) (x : LinkResponse) :
    { l with state := .ready, slot := some x, waiting := none }.Sound :=
  ⟨by simpa using hmdo, by simp, by simp, by simp⟩

theorem Link.Sound.mdo_of_waiting {l : Link} (h : l.Sound) (hw : l.waiting ≠ none) :
    l.mdo = .zeros ↔ l.discarding = true := by
  have hstate := h.2.2.1.mpr hw
  rw [h.1, hstate]
  simp

theorem State.enableApply_link (s : State) (r : RegionIx) (seq : Byte) :
    (s.enableApply r seq).link =
      { s.link with state := .ready, slot := some ⟨true, seq, 0x00#8, []⟩, waiting := none } := by
  simp [State.enableApply, State.ack, State.placeResponse]

theorem State.restartCleared_link (s : State) (seq : Byte) :
    (s.restartCleared.ack seq []).link =
      { s.link with state := .ready, slot := some ⟨true, seq, 0x00#8, []⟩, waiting := none } := by
  unfold State.restartCleared
  split <;> simp [State.ack, State.placeResponse, State.restartBlocks]

theorem linkKept_link : KeptLink fun m s => m.linkLaw s where
  firstByte {m s} hdiscard hstate h := by
    obtain ⟨hm, hs⟩ := h.sound fun hr => by simp [hr.1] at hstate
    refine (Amid.linkLaw_of_not_running hm).mpr ⟨by simp, by simp [hdiscard], ?_, by simp⟩
    have hidle : s.link.state ≠ .executing := by rintro e; simp [e] at hstate
    simpa using not_not.mp ((not_congr hs.2.2.1).mp hidle)
  discards hm hdiscard hstate h := by
    have hs := (Amid.linkLaw_of_not_running hm).mp h
    exact (Amid.linkLaw_of_not_running hm).mpr ⟨by simp, by simp [hstate], hs.2.2.1, hs.2.2.2⟩
  frameDropped {m s} hdiscard h := by
    obtain ⟨hm, hs⟩ := h.sound fun hr => by simp [hr.2.2.2] at hdiscard
    refine (Amid.linkLaw_of_not_running hm).mpr ⟨?_, (fun h => nomatch h), hs.2.2.1, hs.2.2.2⟩
    simpa [Link.frameDropped, Link.frameEnded] using hs.2.1 hdiscard
  fetched {m s} n hdiscard hstate h := by
    cases hm : m.running
    · have hs := (Amid.linkLaw_of_not_running hm).mp h
      exact (Amid.linkLaw_of_not_running hm).mpr
        ⟨by simp [Link.fetch, Link.frameEnded, hdiscard, hstate], hs.2.1, hs.2.2.1, hs.2.2.2⟩
    · obtain ⟨hstate, hwait, -, -⟩ := (Amid.linkLaw_of_running hm).mp h
      exact (Amid.linkLaw_of_running hm).mpr ⟨hstate, hwait, rfl, hdiscard⟩
  runs {m s} hr h := by
    obtain ⟨hm, hs⟩ := h.sound fun hrun => by simpa [hr.1] using hrun.1
    refine (Amid.linkLaw_of_running rfl).mpr ⟨rfl, ?_, rfl, hr.2⟩
    have hidle : s.link.state ≠ .executing := by simp [hr.1]
    exact not_not.mp ((not_congr hs.2.2.1).mp hidle)
  answered x hm h := by
    obtain ⟨-, -, hmdo, hdiscard⟩ := (Amid.linkLaw_of_running hm).mp h
    exact (Amid.linkLaw_of_not_running rfl).mpr (Link.sound_placed (by simp [hmdo, hdiscard]) x)
  enableWaits seq hm _ _ _ h := by
    obtain ⟨hstate, -, hmdo, hdiscard⟩ := (Amid.linkLaw_of_running hm).mp h
    exact (Amid.linkLaw_of_not_running rfl).mpr ⟨by simp [hmdo, hdiscard, hstate], by simp [hstate], by simp [hstate],
      by simp [hstate]⟩
  restartWaits seq hm h := by
    obtain ⟨hstate, -, hmdo, hdiscard⟩ := (Amid.linkLaw_of_running hm).mp h
    exact (Amid.linkLaw_of_not_running rfl).mpr ⟨by simp [hmdo, hdiscard, hstate], by simp [hstate], by simp [hstate],
      by simp [hstate]⟩
  waitingChanged {m s w} hw _ h := by
    have hnone : w = none ↔ s.link.waiting = none := by
      rw [← Option.isNone_iff_eq_none, ← Option.isNone_iff_eq_none, ← Option.not_isSome, ← Option.not_isSome, hw]
    cases hm : m.running
    · have hs := (Amid.linkLaw_of_not_running hm).mp h
      exact (Amid.linkLaw_of_not_running hm).mpr ⟨hs.1, hs.2.1, hs.2.2.1.trans (not_congr hnone.symm), hs.2.2.2⟩
    · obtain ⟨hstate, hwait, hmdo, hdiscard⟩ := (Amid.linkLaw_of_running hm).mp h
      exact (Amid.linkLaw_of_running hm).mpr ⟨hstate, hnone.mpr hwait, hmdo, hdiscard⟩
  enabledNow {m s r} seq hm _ _ _ h := by
    obtain ⟨-, -, hmdo, hdiscard⟩ := (Amid.linkLaw_of_running hm).mp h
    rw [Amid.linkLaw_of_not_running rfl, State.enableApply_link]
    exact Link.sound_placed (by simp [hmdo, hdiscard]) _
  enabledDue {m s r seq o} hw h := by
    obtain ⟨hm, hs⟩ := h.sound fun hr => by simp [hr.2.1] at hw
    rw [Amid.linkLaw_of_not_running hm, State.enableApply_link]
    exact Link.sound_placed (hs.mdo_of_waiting (by simp [hw])) _
  restarted {m s seq} hw h := by
    obtain ⟨hm, hs⟩ := h.sound fun hr => by simp [hr.2.1] at hw
    rw [Amid.linkLaw_of_not_running hm, State.restartCleared_link]
    exact Link.sound_placed (hs.mdo_of_waiting (by simp [hw])) _

theorem linkKept_life : KeptLife fun m s => m.linkLaw s where
  retired _ _ h := by simpa [Amid.linkLaw] using h

theorem linkKept_park : KeptPark (fun m s => m.linkLaw s) fun _ _ => True where
  placed _ _ _ h := by simpa [Amid.linkLaw] using h

theorem keptLink : Kept (fun m s => m.linkLaw s) fun _ _ => True :=
  ⟨{}, {}, linkKept_life, linkKept_park, {}, linkKept_link⟩

theorem linkKept_store : KeptStore fun m s => m.linkLaw s := fun _ _ _ _ resp hm _ _ h => by
  obtain ⟨-, -, hmdo, hdiscard⟩ := (Amid.linkLaw_of_running hm).mp h
  exact (Amid.linkLaw_of_not_running rfl).mpr (Link.sound_placed (by simp [hmdo, hdiscard]) resp)

theorem linkLawKept {s t : State} (h : s.link.Sound) (hstep : step s = .next t) : t.link.Sound :=
  keptLink.step (s := s) h linkKept_store (fun _ _ h => h)
    (fun _ _ => answers_next ⟨by simp [State.reset], by simp [State.reset], by simp [State.reset],
      by simp [State.reset]⟩)
    (fun _ h => h) hstep

end Sys2Proof.Machine


/-! SUPPORT. What waits stays in order: a command in EXECUTING, a head's write, the parked words and the drain slot
(R85, R88, R95, R97, R101, R140, R183), with the stages of retirement (R119). -/

namespace Sys2Proof.Machine

set_option Elab.async false

/-! ### The lifecycle record after a part of a region has changed -/

@[simp] theorem State.life_modRun (s : State) (r j : RegionIx) (f : Runtime → Runtime) :
    ((s.modRun r f).region j).life = (s.region j).life := by
  rw [State.region_modRun]
  split
  · rename_i hj
    rw [hj]
  · rfl

@[simp] theorem State.life_modCounters (s : State) (r j : RegionIx) (f : Counters → Counters) :
    ((s.modCounters r f).region j).life = (s.region j).life := by
  rw [State.region_modCounters]
  split
  · rename_i hj
    rw [hj]
  · rfl

@[simp] theorem State.life_setTimer (s : State) (r j : RegionIx) (x : PeriodTimer) :
    ((s.setTimer r x).region j).life = (s.region j).life := by
  rw [State.region_setTimer]
  split
  · rename_i hj
    rw [hj]
  · rfl

theorem State.life_modLife (s : State) (r j : RegionIx) (f : Lifecycle → Lifecycle) :
    ((s.modLife r f).region j).life = if j = r then f (s.region r).life else (s.region j).life := by
  rw [State.region_modLife]
  split <;> rfl

theorem State.life_retirementEnd (s : State) (r j : RegionIx) :
    ((s.retirementEnd r).region j).life =
      if j = r then { (s.region r).life with stage := .none } else (s.region j).life := by
  simp only [State.retirementEnd]
  have hlife (k : RegionIx) (t : State) (ht : t = (s.modRun r Runtime.ended).modRange (s.config r) fun _ => .clear)
      (n : NoticeKind) (d : BitVec 16) : ((t.raiseNotice r n none d).region k).life = (s.region k).life := by
    rw [State.region_congr (State.raiseNotice_frame ..).1, ht]
    exact s.life_modRun r k _
  rw [State.life_modLife, hlife _ _ rfl, hlife _ _ rfl]

theorem State.life_enableApply (s : State) (r j : RegionIx) (seq : Byte) :
    ((s.enableApply r seq).region j).life = if j = r then Lifecycle.enabled else (s.region j).life := by
  have happend (t : State) (k : CopyKind) (l : List Nat) : ((t.appendLines k l).region j).life = (t.region j).life :=
    congrArg Region.life (State.region_congr (t.appendLines_frame k l).1 j)
  show (((((s.modLife r fun _ => .enabled).modRun r fun _ => .enabled).modRange _ _).appendLines .fill _
    |>.setTimer r _).region j).life = _
  rw [State.life_setTimer, happend]
  exact ((s.modLife r fun _ => .enabled).life_modRun r j fun _ => .enabled).trans (s.life_modLife r j _)

theorem State.life_restartCleared (s : State) (seq : Byte) (j : RegionIx) :
    ((s.restartCleared.ack seq []).region j).life.stage = .none := by
  have hblocks : s.restartBlocks.region j = (s.region j).restarted := s.region_modRegions Region.restarted j
  have hregion : (s.restartCleared.ack seq []).region j = (s.region j).restarted := by
    unfold State.restartCleared
    split <;> exact hblocks
  rw [hregion]
  rfl

theorem State.life_storeRegion (s : State) (r j : RegionIx) (x : RegionRecord) :
    ((s.storeRegion r x).region j).life = (s.region j).life := by
  have := s.region_modRegion r j fun g => { g with config := RegionConfig.ofRecord x, written := true }
  simp only [State.storeRegion, this]
  split <;> simp_all

/-! ### The lifecycle side (R119, R122) -/

theorem Phase.working_iff {p : Phase} : p.working = true ↔ p = .opened ∨ p = .pending := by
  simp [Phase.working]

theorem Phase.active_of_working {p : Phase} (h : p.working = true) : p.active = true :=
  Phase.active_of_ne (Phase.ne_disabled_of_working h)

theorem Phase.viewable_of_working {p : Phase} (h : p.working = true) : p.Viewable := by
  rcases Phase.working_iff.mp h with h | h
  · exact .inl h
  · exact .inr (.inl h)

/-- A state in which a region left OPEN, PENDING or FAULTED, or kept its phase, and no stage was set keeps the law. -/
theorem State.LifecycleLaw.mono {s t : State} (h : s.LifecycleLaw)
    (hstage : ∀ r, (t.region r).life.stage ≠ .none → (s.region r).life.stage ≠ .none)
    (hphase : ∀ r, t.phase r = s.phase r ∨ (s.phase r).Viewable ∨ t.phase r = .disabled ∧ (t.region r).life.stage = .none)
    (hwait : ∀ r seq o, t.link.waiting = some (.enable r seq o) → ∃ o', s.link.waiting = some (.enable r seq o')) :
    t.LifecycleLaw := by
  obtain ⟨hretiring, henable⟩ := h
  refine ⟨fun r hr => ?_, fun r seq o hr => ?_⟩
  · have hs := hretiring r (hstage r hr)
    rcases hphase r with hp | hp | ⟨-, hnone⟩
    · exact hp.trans hs
    · rw [hs] at hp
      rcases hp with hp | hp | hp <;> cases hp
    · exact absurd hnone hr
  · obtain ⟨o', hs⟩ := hwait r seq o hr
    rcases hphase r with hp | hp | ⟨hp, -⟩
    · exact hp.trans (henable r seq o' hs)
    · exact absurd (henable r seq o' hs) hp.ne_disabled
    · exact hp

theorem State.LifecycleLaw.modRun {s : State} {r : RegionIx} {f : Runtime → Runtime} (h : s.LifecycleLaw)
    (hf : (f (s.run r)).phase = s.phase r ∨ (s.phase r).Viewable) : (s.modRun r f).LifecycleLaw := by
  refine h.mono (fun j hj => ?_) (fun j => ?_) (fun _ _ o hw => ⟨o, hw⟩)
  · rwa [State.life_modRun] at hj
  · rw [show (s.modRun r f).phase j = _ from congrArg Runtime.phase (s.run_modRun r j f)]
    split
    · rename_i hjr
      subst hjr
      exact hf.imp_right .inl
    · exact .inl rfl

theorem State.LifecycleLaw.congr {s t : State} (h : s.LifecycleLaw) (hrun : ∀ r, t.run r = s.run r)
    (hlife : ∀ r, (t.region r).life = (s.region r).life) (hlink : t.link = s.link) : t.LifecycleLaw :=
  h.mono (fun r hr => hlife r ▸ hr) (fun r => .inl (congrArg Runtime.phase (hrun r)))
    fun _ _ o hw => ⟨o, hlink ▸ hw⟩

/-- The lifecycle record of a RETIRING region changes (R119). -/
theorem State.LifecycleLaw.modLife {s : State} {r : RegionIx} (h : s.LifecycleLaw) (hp : s.phase r = .retiring)
    (f : Lifecycle → Lifecycle) : (s.modLife r f).LifecycleLaw := by
  refine ⟨fun j hj => ?_, fun j seq o hw => ?_⟩
  · rw [State.phase_modLife]
    by_cases hjr : j = r
    · exact hjr ▸ hp
    · rw [State.life_modLife, if_neg hjr] at hj
      exact h.1 j hj
  · rw [State.phase_modLife]
    exact h.2 j seq o hw

theorem State.modLife_modRun_comm (s : State) (r : RegionIx) (f : Lifecycle → Lifecycle) (g : Runtime → Runtime) :
    (s.modLife r f).modRun r g = (s.modRun r g).modLife r f :=
  (s.modRegion_modRegion r _ _).trans
    (s.modRegion_modRegion r (fun x => { x with run := g x.run }) fun x => { x with life := f x.life }).symm

theorem State.phase_retirementEnd_ne (s : State) {r j : RegionIx} (hj : j ≠ r) :
    (s.retirementEnd r).phase j = s.phase j := by
  have := s.run_retirementEnd r j
  rw [if_neg hj] at this
  exact congrArg Runtime.phase this

theorem State.phase_enableApply_ne (s : State) {r j : RegionIx} (hj : j ≠ r) (seq : Byte) :
    (s.enableApply r seq).phase j = s.phase j := by
  have := s.run_enableApply r j seq
  rw [if_neg hj] at this
  exact congrArg Runtime.phase this

theorem State.LifecycleLaw.enableApply {s : State} (h : s.LifecycleLaw) (r : RegionIx) (seq : Byte) :
    (s.enableApply r seq).LifecycleLaw := by
  refine ⟨fun j hj => ?_, fun j x o hw => ?_⟩
  · rw [State.life_enableApply] at hj
    split at hj
    · exact absurd rfl hj
    · rename_i hjr
      exact (s.phase_enableApply_ne hjr seq).trans (h.1 j hj)
  · simp [State.enableApply_link] at hw

theorem lifeKept_blocks : KeptBlocks fun _ s => s.LifecycleLaw where
  counters r f h := h.congr (by simp) (by simp) (by simp)
  timer r x h := h.congr (by simp) (by simp) (by simp)
  timers h := h.congr (State.run_modRegions_timer _ _) (by simp) rfl

theorem lifeKept_runs : KeptRuns fun _ s => s.LifecycleLaw where
  tally r f hf h := h.modRun (.inl (by rw [hf]; rfl))
  pendingEntered hp h := h.modRun (.inr (.inl hp))
  flags f g hp h := h.modRun (.inl rfl)
  published hp _ h := h.modRun (.inr (.inr (.inl hp)))
  freed _ _ h := h.modRun (.inl rfl)

theorem lifeKept_life : KeptLife fun _ s => s.LifecycleLaw where
  lifeNoted {m s} r f hf h := by
    refine h.mono (fun j hj => ?_) (fun j => .inl (State.phase_modLife ..)) fun _ _ o hw => ⟨o, hw⟩
    rw [State.life_modLife] at hj
    split at hj
    · rename_i hjr
      rwa [hf, ← hjr] at hj
    · exact hj
  folding n _ hp h := h.modLife hp _
  retired {m s r} _ hstage h := by
    refine h.mono (fun j hj => ?_) (fun j => ?_) (fun _ _ o hw => ⟨o, by simpa using hw⟩)
    · rw [State.life_retirementEnd] at hj
      split at hj
      · exact absurd rfl hj
      · exact hj
    · by_cases hjr : j = r
      · subst hjr
        refine .inr (.inr ⟨?_, ?_⟩)
        · rw [State.phase, ← State.run, State.run_retirementEnd, if_pos rfl]
          rfl
        · rw [State.life_retirementEnd, if_pos rfl]
      · exact .inl (s.phase_retirementEnd_ne hjr)
  faulted _ hp h := h.modRun (.inr (Phase.viewable_of_working hp))
  retiring {m s r} _ hp h := by
    rw [State.modLife_modRun_comm]
    exact (h.modRun (.inr hp)).modLife (State.phase_modRun_self ..) _

theorem lifeKept_park : KeptPark (fun _ s => s.LifecycleLaw) fun _ _ => True where
  placed _ _ _ h := h.congr (fun j => State.run_congr (by simp) j) (fun j => congrArg Region.life (State.region_congr (by simp) j))
    (by simp)

/-- The link changes, and an enable that waits names a DISABLED region. -/
theorem State.LifecycleLaw.setLink {s : State} (h : s.LifecycleLaw) {x : Link}
    (hwait : ∀ r seq o, x.waiting = some (.enable r seq o) → s.phase r = .disabled) : (s.setLink x).LifecycleLaw :=
  ⟨h.1, hwait⟩

theorem lifeKept_link : KeptLink fun _ s => s.LifecycleLaw where
  answered _ _ h := h.setLink fun _ _ _ hw => nomatch hw
  enableWaits _ _ hp _ _ h := h.setLink fun j x o hw => by
    obtain ⟨rfl, -, -⟩ := Waiting.enable.inj (Option.some.inj hw)
    exact hp
  restartWaits _ _ h := h.setLink fun _ _ _ hw => nomatch hw
  waitingChanged _ henable h := h.setLink fun j x o hj =>
    have ⟨o', ho⟩ := henable j x o hj
    h.2 j x o' ho
  enabledNow seq _ _ _ _ h := h.enableApply _ seq
  enabledDue _ h := h.enableApply ..
  restarted _ h := ⟨fun j hj => absurd (State.life_restartCleared ..) hj, fun j x o hw => by
    simp [State.restartCleared_link] at hw⟩

theorem lifeKept_store : KeptStore fun _ s => s.LifecycleLaw := by
  intro _ s r x resp _ _ _ h
  refine ⟨fun j hj => ?_, fun j y o hw => nomatch hw⟩
  have hlife : (((s.storeRegion r x).placeResponse resp).region j).life = (s.region j).life := s.life_storeRegion r j x
  rw [hlife] at hj
  exact (congrArg Runtime.phase (s.run_storeRegion r j x)).trans (h.1 j hj)

/-! ### What waits -/

/-- The keys of the parked words (R88). -/
def State.parkKeys (s : State) : List ParkKey := s.park.entries.map ParkEntry.key

/-- The key names a word of its region's window (R88). -/
def State.KeyInWindow (s : State) (k : ParkKey) : Prop :=
  k.word < (s.config k.region).lines * 16 ∧ (s.config k.region).lineBase + (s.config k.region).lines ≤ 2048

/-- A decision is that of the head's write in the window of a region (R140). -/
def State.WriteOf (s : State) (dec : Option Decision) (r : RegionIx) : Prop :=
  ∃ q rest d, s.host.queue = q :: rest ∧ dec = some d ∧ d.cls = .writerWrite ∧ d.region = some r ∧
    d.view = none ∧ s.inWindow q r ∧ inLine q

/-- The head is a write that may wait for a region. -/
def State.MayWait (s : State) (r : RegionIx) : Prop :=
  s.WriteOf s.decision r ∧ (s.phase r).working = true

/-- The region is on its way out, and its parked words are still there. -/
def Leaving.entering (l : Leaving) (r : RegionIx) : Prop := ∃ x, l = .entered r x

theorem Leaving.of_of_entering {l : Leaving} {r : RegionIx} (h : l.entering r) : l.of r := by
  obtain ⟨x, rfl⟩ := h
  exact rfl

/-- What waits is in order within a happening, with what upholds that. A region on its way out may still have a head
that waits for it, and at first its parked words (R101, R125, R127). -/
structure Amid.Order (m : Amid) (s : State) : Prop where
  areas : s.AreasKept
  life : s.LifecycleLaw
  queues : s.QueuesSound
  running : m.running = true → s.link.state = .executing ∧ s.link.waiting = none
  waiting : s.link.waiting ≠ none → s.link.state = .executing
  head : ∀ dec, s.HeadWaits dec → ∃ r, s.WriteOf dec r ∧ ((s.phase r).working = true ∨ m.leaving.of r)
  keys : ∀ k ∈ s.parkKeys, (s.phase k.region).active = true ∧
    ((s.phase k.region).working = true ∨ m.leaving.entering k.region) ∧ s.KeyInWindow k
  slot : ∀ k x, s.park.slot = .waiting k x → k ∈ s.parkKeys

theorem State.inWindow_congr {s t : State} {q : HostRequest} {r : RegionIx} (hconfig : t.config r = s.config r)
    (hactive : (t.phase r).active = true) (h : s.inWindow q r) : t.inWindow q r :=
  ⟨hactive, hconfig ▸ h.2.1, hconfig ▸ h.2.2⟩

theorem State.WriteOf.active {s : State} {dec : Option Decision} {r : RegionIx} (h : s.WriteOf dec r) :
    (s.phase r).active = true := by
  obtain ⟨-, -, -, -, -, -, -, -, ⟨hactive, -⟩, -⟩ := h
  exact hactive

/-- The head's write stays in the window while its region stays active. -/
theorem State.WriteOf.congr {s t : State} {dec : Option Decision} {r : RegionIx} (h : s.WriteOf dec r)
    (hqueue : ∀ q rest, s.host.queue = q :: rest → ∃ rest', t.host.queue = q :: rest')
    (hconfig : t.config r = s.config r) (hactive : (t.phase r).active = true) : t.WriteOf dec r := by
  obtain ⟨q, rest, d, hq, hdec, hcls, hr, hview, hwindow, hline⟩ := h
  obtain ⟨rest', hq'⟩ := hqueue q rest hq
  exact ⟨q, rest', d, hq', hdec, hcls, hr, hview, State.inWindow_congr hconfig hactive hwindow, hline⟩

/-! ### What leaves it in order -/

/-- The blocks that wait stay as they are, regions stay active, and a working one stays so or is on its way out. -/
theorem Amid.Order.mono {m m' : Amid} {s t : State} (h : m.Order s) (hareas : t.AreasKept) (hlife : t.LifecycleLaw)
    (hactive : ∀ r, (s.phase r).working = true ∨ m.leaving.of r → (s.phase r).active = true →
      (t.phase r).active = true)
    (hhead : ∀ r, (s.phase r).working = true ∨ m.leaving.of r → (t.phase r).working = true ∨ m'.leaving.of r)
    (hkeys : ∀ r, (s.phase r).working = true ∨ m.leaving.entering r →
      (t.phase r).working = true ∨ m'.leaving.entering r)
    (hentry : ∀ r, t.entry r = s.entry r) (hhost : t.host = s.host) (hpark : t.park = s.park)
    (hrunning : m'.running = true → t.link.state = .executing ∧ t.link.waiting = none)
    (hwaiting : t.link.waiting ≠ none → t.link.state = .executing) : m'.Order t := by
  have hconfig (r : RegionIx) : t.config r = s.config r := State.config_of_entry (hentry r)
  have hparkKeys : t.parkKeys = s.parkKeys := by simp [State.parkKeys, hpark]
  refine ⟨hareas, hlife, ⟨hhost ▸ h.queues.1, hpark ▸ h.queues.2⟩, hrunning, hwaiting, fun dec hdec => ?_,
    fun k hk => ?_, ?_⟩
  · rw [State.HeadWaits, hhost] at hdec
    obtain ⟨r, hwrite, hr⟩ := h.head dec hdec
    exact ⟨r, hwrite.congr (fun q rest hq => ⟨rest, hhost ▸ hq⟩) (hconfig r) (hactive r hr hwrite.active), hhead r hr⟩
  · obtain ⟨hk1, hk2, hwin⟩ := h.keys k (hparkKeys ▸ hk)
    refine ⟨hactive _ (hk2.imp_right Leaving.of_of_entering) hk1, hkeys _ hk2, ?_⟩
    rw [State.KeyInWindow, hconfig]
    exact hwin
  · rw [hpark, hparkKeys]
    exact h.slot

theorem Amid.Order.congr {m m' : Amid} {s t : State} (h : m.Order s) (hrun : ∀ r, t.run r = s.run r)
    (hstage : ∀ r, (t.region r).life.stage = (s.region r).life.stage) (hentry : ∀ r, t.entry r = s.entry r)
    (hlink : t.link = s.link) (hhost : t.host = s.host) (hpark : t.park = s.park)
    (hleaving : m'.leaving = m.leaving) (hm : m'.running = m.running) : m'.Order t := by
  have hphase (r : RegionIx) : t.phase r = s.phase r := congrArg Runtime.phase (hrun r)
  refine h.mono (h.areas.congr hrun hentry hlink) ?_ (fun r _ hr => hphase r ▸ hr) (fun r hr => ?_)
    (fun r hr => ?_) hentry hhost hpark (fun h' => hlink ▸ h.running (hm ▸ h')) (hlink ▸ h.waiting)
  · exact h.life.mono (fun r hr => hstage r ▸ hr) (fun r => .inl (hphase r)) (fun _ _ o hw => ⟨o, hlink ▸ hw⟩)
  · rwa [hphase, hleaving]
  · rwa [hphase, hleaving]

/-- Another block is replaced. -/
theorem Amid.Order.of_regions {m m' : Amid} {s t : State} (h : m.Order s) (hregions : t.regions = s.regions)
    (hlink : t.link = s.link) (hhost : t.host = s.host) (hpark : t.park = s.park)
    (hleaving : m'.leaving = m.leaving) (hm : m'.running = m.running) : m'.Order t :=
  h.congr (State.run_congr hregions) (fun r => by rw [State.region_congr hregions])
    (fun r => State.entry_congr hregions r) hlink hhost hpark hleaving hm

/-- A runtime record changes; its region keeps its phase or stays in OPEN and PENDING. -/
theorem Amid.Order.modRun {m : Amid} {s : State} {r : RegionIx} {f : Runtime → Runtime} (h : m.Order s)
    (hf : (f (s.run r)).phase = s.phase r ∨
      (s.phase r).working = true ∧ (f (s.run r)).phase.working = true) : m.Order (s.modRun r f) := by
  have hphase (j : RegionIx) : (s.modRun r f).phase j = s.phase j ∨
      (s.phase j).working = true ∧ ((s.modRun r f).phase j).working = true := by
    rw [show (s.modRun r f).phase j = _ from congrArg Runtime.phase (s.run_modRun r j f)]
    split
    · rename_i hjr
      exact hjr ▸ hf
    · exact .inl rfl
  refine h.mono (h.areas.modRun fun ha => ?_) (h.life.modRun ?_) (fun j _ hj => ?_) (fun j hj => ?_) (fun j hj => ?_)
    (by simp) rfl rfl h.running h.waiting
  · exact hf.elim (fun hf => hf ▸ ha) fun hf => Phase.active_of_working hf.1
  · exact hf.imp_right fun hf => Phase.viewable_of_working hf.1
  · exact (hphase j).elim (fun hp => hp ▸ hj) fun hp => Phase.active_of_working hp.2
  · exact (hphase j).elim (fun hp => hp ▸ hj) fun hp => .inl hp.2
  · exact (hphase j).elim (fun hp => hp ▸ hj) fun hp => .inl hp.2

theorem orderKept_blocks : KeptBlocks fun m s => m.Order s where
  catchup x h := h.of_regions rfl rfl rfl rfl rfl rfl
  counters r f h := h.congr (by simp) (by simp) (by simp) (by simp) (by simp) (by simp) rfl rfl
  timer r x h := h.congr (by simp) (by simp) (by simp) (by simp) (by simp) (by simp) rfl rfl
  timers h := h.congr (State.run_modRegions_timer _ _) (by simp) (by simp [State.entry]) rfl rfl rfl rfl rfl
  clock x h := h.of_regions rfl rfl rfl rfl rfl rfl
  strobes x h := h.of_regions rfl rfl rfl rfl rfl rfl
  bus _ h := h.of_regions rfl rfl rfl rfl rfl rfl
  enqueue n h := h.of_regions rfl rfl rfl rfl rfl rfl
  irq b h := h.of_regions rfl rfl rfl rfl rfl rfl
  noticesRead h := h.of_regions rfl rfl rfl rfl rfl rfl
  snapshot x h := h.of_regions rfl rfl rfl rfl rfl rfl

theorem orderKept_runs : KeptRuns fun m s => m.Order s where
  tally r f hf h := h.modRun (.inl (by rw [hf]; rfl))
  pendingEntered hp h := h.modRun (.inr (by simp [hp, Phase.working]))
  flags f g hp h := h.modRun (.inl rfl)
  published hp _ h := h.modRun (.inr (by simp [hp, Phase.working, Runtime.published]))
  freed _ _ h := h.modRun (.inl rfl)
  undue _ h := h.of_regions rfl rfl rfl rfl rfl rfl
  viewMarks _ h := h.of_regions rfl rfl rfl rfl rfl rfl
  viewOpened _ _ _ _ _ _ _ h := h.of_regions rfl rfl rfl rfl rfl rfl
  viewsGone _ h := h.of_regions rfl rfl rfl rfl rfl rfl

/-- A region enters FAULTED or RETIRING: it is on its way out (R42, R43). -/
theorem Amid.Order.enter {m : Amid} {s : State} {r : RegionIx} {f : Runtime → Runtime} {x : Bool} (h : m.Order s)
    (hm : m.leaving = .none) (hactive : (f (s.run r)).phase.active = true) (hold : (s.phase r).active = true)
    (hlife : (s.modRun r f).LifecycleLaw) : { m with leaving := .entered r x }.Order (s.modRun r f) := by
  have hphase (j : RegionIx) : j = r ∧ (s.modRun r f).phase j = (f (s.run r)).phase ∨
      j ≠ r ∧ (s.modRun r f).phase j = s.phase j := by
    rw [show (s.modRun r f).phase j = _ from congrArg Runtime.phase (s.run_modRun r j f)]
    split
    · rename_i hjr
      exact .inl ⟨hjr, rfl⟩
    · rename_i hjr
      exact .inr ⟨hjr, rfl⟩
  refine h.mono (h.areas.modRun fun _ => hold) hlife (fun j _ hj => ?_) (fun j hj => ?_) (fun j hj => ?_) (by simp) rfl
    rfl h.running h.waiting
  · rcases hphase j with ⟨-, hp⟩ | ⟨-, hp⟩
    · exact hp ▸ hactive
    · exact hp ▸ hj
  · rcases hphase j with ⟨rfl, -⟩ | ⟨-, hp⟩
    · exact .inr rfl
    · exact .inl (hp ▸ hj.resolve_right (by simp [hm, Leaving.of]))
  · rcases hphase j with ⟨rfl, -⟩ | ⟨-, hp⟩
    · exact .inr ⟨x, rfl⟩
    · exact .inl (hp ▸ hj.resolve_right (by simp [hm, Leaving.entering]))

/-- The lifecycle record of a RETIRING region changes (R119). -/
theorem Amid.Order.modLife_retiring {m : Amid} {s : State} {r : RegionIx} (h : m.Order s)
    (hp : s.phase r = .retiring) (f : Lifecycle → Lifecycle) : m.Order (s.modLife r f) :=
  h.mono (h.areas.congr (by simp) (by simp) (by simp)) (h.life.modLife hp f)
    (fun j _ hj => by rwa [State.phase_modLife]) (fun j hj => by rwa [State.phase_modLife])
    (fun j hj => by rwa [State.phase_modLife]) (by simp) rfl rfl h.running h.waiting

theorem orderKept_life : KeptLife fun m s => m.Order s where
  lifeNoted {m s} r f hf h := h.congr (by simp) (fun j => by
    rw [State.life_modLife]
    split
    · rename_i hj
      rw [hj, hf]
    · rfl) (by simp) (by simp) (by simp) (by simp) rfl rfl
  folding n _ hp h := h.modLife_retiring hp _
  retired {m s r} hm hstage h := by
    have hr : s.phase r = .retiring := h.life.1 r (by simp [hstage])
    have hwork : (s.phase r).working = false := by rw [hr]; rfl
    have hne (j : RegionIx) (hj : (s.phase j).working = true) : (s.retirementEnd r).phase j = s.phase j := by
      refine s.phase_retirementEnd_ne ?_
      rintro rfl
      simp [hwork] at hj
    refine h.mono (areasKept_life.retired hm hstage h.areas) (lifeKept_life.retired hm hstage h.life) (fun j hj ha => ?_) (fun j hj => ?_) (fun j hj => ?_)
      (by simp) (by simp) (by simp) (by simpa using h.running) (by simpa using h.waiting)
    · rw [hne j (hj.resolve_right (by simp [hm, Leaving.of]))]
      exact ha
    · rw [hne j (hj.resolve_right (by simp [hm, Leaving.of]))]
      exact hj
    · rw [hne j (hj.resolve_right (by simp [hm, Leaving.entering]))]
      exact hj
  faulted {m s r} hm hp h := by
    have hview := Phase.viewable_of_working hp
    exact h.enter hm rfl (Phase.active_of_working hp) (h.life.modRun (.inr hview))
  retiring {m s r} hm hp h := by
    rw [State.modLife_modRun_comm]
    have henter := h.enter (x := true) (f := Runtime.retiring) hm rfl (Phase.active_of_ne hp.ne_disabled)
      (h.life.modRun (.inr hp))
    exact henter.modLife_retiring (State.phase_modRun_self ..) _
  entriesDropped {m s r x} hm h := by
    have hkey (k : ParkKey) : k ∈ (s.dropEntries r).parkKeys ↔ k ∈ s.parkKeys ∧ k.region ≠ r := by
      simp only [State.parkKeys, State.dropEntries, State.setPark, List.mem_map, List.mem_filter]
      constructor
      · rintro ⟨e, ⟨he, hr⟩, rfl⟩
        exact ⟨⟨e, he, rfl⟩, by simpa [ParkEntry.key] using hr⟩
      · rintro ⟨⟨e, he, rfl⟩, hr⟩
        exact ⟨e, ⟨he, by simpa [ParkEntry.key] using hr⟩, rfl⟩
    refine ⟨areasKept_life.entriesDropped hm h.areas, h.life, queuesKept_life.entriesDropped hm h.queues, h.running,
      h.waiting, fun dec hdec => ?_, fun k hk => ?_, fun k y hslot => ?_⟩
    · obtain ⟨j, hwrite, hj⟩ := h.head dec hdec
      exact ⟨j, hwrite, hj.imp_right fun hj => by rwa [hm] at hj⟩
    · obtain ⟨hk, hne⟩ := (hkey k).mp hk
      obtain ⟨hactive, hwork, hwin⟩ := h.keys k hk
      refine ⟨hactive, hwork.imp_right fun ⟨y, hy⟩ => ?_, hwin⟩
      rw [hm] at hy
      exact absurd (Leaving.entered.inj hy).1.symm hne
    · have hslot' : s.park.slot.letGo r = .waiting k y := hslot
      unfold DrainSlot.letGo at hslot'
      split at hslot'
      · rename_i j z hj
        split at hslot'
        · cases hslot'
        · rename_i hne
          obtain ⟨rfl, -⟩ := DrainSlot.waiting.inj (hj.symm.trans hslot')
          exact (hkey _).mpr ⟨h.slot _ _ hj, hne⟩
      · rename_i hother
        exact absurd hslot' (hother _ _)
  viewless {m s r x} hm _ h := by
    refine h.mono h.areas h.life (fun _ _ hj => hj) (fun j hj => ?_) (fun j hj => ?_) (fun _ => rfl) rfl rfl h.running h.waiting
    · exact hj.imp_right fun hj => by rwa [hm] at hj
    · exact hj.imp_right fun ⟨y, hy⟩ => by simp [hm] at hy
  left {m s r} hm hwaits h := by
    refine ⟨h.areas, h.life, h.queues, h.running, h.waiting, fun dec hdec => ?_, fun k hk => ?_, h.slot⟩
    · obtain ⟨j, hwrite, hj⟩ := h.head dec hdec
      refine ⟨j, hwrite, hj.imp_right fun hj => ?_⟩
      rw [hm] at hj
      obtain rfl : r = j := hj
      obtain ⟨q, rest, d, hq, rfl, hcls, hr, -⟩ := hwrite
      rcases hdec with hdec | ⟨timer, n, hdec⟩ <;> simp [State.headWaitsOn, hdec, hr] at hwaits
    · obtain ⟨hactive, hwork, hwin⟩ := h.keys k hk
      exact ⟨hactive, hwork.imp_right fun ⟨y, hy⟩ => by simp [hm] at hy, hwin⟩

/-! ### The Park Queue and the head -/

/-- The Park Queue changes, every new word is parked in order, and a waiting slot still names a parked word. -/
theorem Amid.Order.setPark {m : Amid} {s : State} {p : ParkQueue} (h : m.Order s) (hsound : p.Sound)
    (hkeys : ∀ k ∈ (s.setPark p).parkKeys, k ∈ s.parkKeys ∨ (s.phase k.region).working = true ∧ s.KeyInWindow k)
    (hslot : ∀ k x, p.slot = .waiting k x → k ∈ (s.setPark p).parkKeys) : m.Order (s.setPark p) :=
  ⟨h.areas.congr (fun _ => rfl) (fun _ => rfl) rfl, h.life, ⟨h.queues.1, hsound⟩, h.running, h.waiting, h.head,
    fun k hk => (hkeys k hk).elim (h.keys k) fun hk => ⟨Phase.active_of_working hk.1, .inl hk.1, hk.2⟩, hslot⟩

/-- The head changes its state; where it is to wait its write is one that may. -/
theorem Amid.Order.setHost {m : Amid} {s : State} {x : HostPort} (h : m.Order s) (hsound : x.Sound)
    (hwaits : ∀ dec, (s.setHost x).HeadWaits dec →
      ∃ r, (s.setHost x).WriteOf dec r ∧ ((s.phase r).working = true ∨ m.leaving.of r)) : m.Order (s.setHost x) :=
  ⟨h.areas.congr (fun _ => rfl) (fun _ => rfl) rfl, h.life, ⟨hsound, h.queues.2⟩, h.running, h.waiting, hwaits, h.keys,
    h.slot⟩

theorem State.headWaits_setProgress {s : State} {p : Progress} {dec : Option Decision}
    (h : (s.setProgress p).HeadWaits dec) : p.waits = true ∧ dec = s.decision := by
  have hhead : (s.setProgress p).host.head = s.host.head.map fun h => { h with progress := p } := rfl
  have hdec : s.decision = s.host.head.bind (·.decision) := rfl
  rw [State.HeadWaits, hhead] at h
  rw [hdec]
  cases hs : s.host.head with
  | none => simp [hs] at h
  | some x =>
    simp only [hs, Option.map_some, Option.some.injEq, Head.mk.injEq] at h
    rcases h with ⟨rfl, rfl⟩ | ⟨timer, k, rfl, rfl⟩ <;> exact ⟨rfl, rfl⟩

/-- The head enters a wait that its write may take. -/
theorem Amid.Order.setProgress {m : Amid} {s : State} {p : Progress} (h : m.Order s)
    (hmay : p.waits = true → ∃ r, s.MayWait r) : m.Order (s.setProgress p) := by
  refine h.setHost (h.queues.mapHead _).1 fun dec hdec => ?_
  obtain ⟨hp, rfl⟩ := State.headWaits_setProgress hdec
  obtain ⟨r, hwrite, hwork⟩ := hmay hp
  exact ⟨r, hwrite, .inl hwork⟩

/-- Every word of a request in a region's window is in the window (R5, R137, R142). -/
theorem State.beatWord_lt {s : State} {q : HostRequest} {r : RegionIx} (hareas : s.AreasLaw) (hwindow : s.inWindow q r)
    (hline : inLine q) {b : Nat} (hb : b < q.beats) : (s.config r).beatWord q b < (s.config r).lines * 16 := by
  obtain ⟨hactive, hlow, hhigh⟩ := hwindow
  have hbase : (s.config r).windowBase.toNat % 64 = 0 := ((hareas.1 r hactive).1 .bankA).1
  simp only [RegionConfig.beatWord, RegionConfig.offset, byteAddr, inLine] at hline ⊢
  omega

/-- Beats placed change the Park Queue alone (R91). -/
theorem State.placeBeats_eq (s : State) (r : RegionIx) (tag : Word) (w : Nat) (l : List Beat) :
    s.placeBeats r tag w l = s.setPark (s.placeBeats r tag w l).park := by
  induction l generalizing s w with
  | nil => rfl
  | cons b l ih =>
    have hbeat : s.placeBeat ⟨r, w, tag⟩ b = s.setPark (s.placeBeat ⟨r, w, tag⟩ b).park := by
      unfold State.placeBeat
      split <;> rfl
    rw [State.placeBeats, ih]
    generalize ((s.placeBeat ⟨r, w, tag⟩ b).placeBeats r tag (w + 1) l).park = p
    rw [hbeat]
    rfl

/-- A writer write lies in the window of a region in OPEN or PENDING (R9, R11). -/
theorem RegionConfig.of_classOf_writerWrite {c : RegionConfig} {p : Phase} {q : HostRequest}
    (h : c.classOf p q = .writerWrite) :
    c.inBank .bankA (byteAddr q) = true ∧ p ≠ .retiring ∧ p ≠ .faulted ∧ q.kind = .write := by
  unfold RegionConfig.classOf at h
  split at h
  · rename_i hbank
    unfold RegionConfig.windowClass at h
    split at h
    · cases h
    · rename_i hret
      cases hkind : q.kind with
      | read =>
        simp only [hkind] at h
        repeat' split at h
        all_goals cases h
      | write =>
        simp only [hkind] at h
        refine ⟨hbank, by simpa using hret, ?_, rfl⟩
        rintro rfl
        repeat' split at h
        all_goals simp_all
  · cases h

theorem State.inWindow_of_inBankA {s : State} {q : HostRequest} {r : RegionIx} (hactive : (s.phase r).active = true)
    (h : (s.config r).inBank .bankA (byteAddr q) = true) : s.inWindow q r := by
  obtain ⟨hlow, hhigh⟩ := (Bool.and_eq_true _ _).mp h
  exact ⟨hactive, of_decide_eq_true hlow, of_decide_eq_true hhigh⟩

theorem inLine_of_not_spansLines {q : HostRequest} (h : spansLines q = false) : inLine q :=
   not_lt.mp (of_decide_eq_false h)

theorem orderKept_park : KeptPark (fun m s => m.Order s) State.MayWait where
  slot hd h := h.setPark h.queues.2 (fun _ hk => .inl hk) fun k x hk => State.parked_isSome_iff.mp (hd k x hk)
  modEntry {m s} k f hf h := by
    have hkeys (j : ParkKey) : j ∈ (s.modEntry k f).parkKeys ↔ j ∈ s.parkKeys := by
      rw [State.parkKeys, State.keys_modEntry hf]
      rfl
    exact h.setPark (h.queues.2.modEntry hf) (fun j hj => .inl ((hkeys j).mp hj))
      fun j x hj => (hkeys j).mpr (h.slot j x hj)
  removed k hslot h := by
    refine h.setPark (h.queues.2.filter ..) (fun j hj => .inl ?_) fun j x hj => absurd hj (hslot j x)
    exact (List.filter_sublist.map ParkEntry.key).subset hj
  placed {m s r q} hmay hq hroom h := by
    obtain ⟨⟨q', rest, d, hqueue, -, -, -, -, hwindow, hline⟩, hwork⟩ := hmay
    obtain rfl : q' = q := by simpa [State.headRequest, hqueue] using hq
    have hwf : q'.wf = true := h.queues.1.2.1 q' (by simp [hqueue])
    have hlen : q'.data.length ≤ q'.beats := by
      cases hkind : q'.kind <;> simp_all [HostRequest.wf]
    have hsound := (queuesKept_park.placed (m := m) (r := r) trivial hq hroom h.queues).2
    have hkeys := s.keys_placeBeats r (s.parkTag r) ((s.config r).beatWord q' 0) q'.data
    rw [State.placeBeats_eq]
    refine h.setPark hsound (fun k hk => ?_) fun k x hk => ?_
    · have hk' : k ∈ s.parkKeys ++ s.keysMissing r (s.parkTag r) ((s.config r).beatWord q' 0) q'.data.length :=
        hkeys ▸ hk
      refine (List.mem_append.mp hk').imp_right fun hmissing => ?_
      obtain ⟨word, hword, rfl⟩ := List.mem_map.mp (List.mem_filter.mp hmissing).1
      obtain ⟨hlow, hhigh⟩ := List.mem_range'_1.mp hword
      refine ⟨hwork, ?_, (h.areas.areas.1 r hwindow.1).2.2⟩
      have hlt := State.beatWord_lt h.areas.areas hwindow hline (b := word - (s.config r).beatWord q' 0)
        (by omega)
      simp only [RegionConfig.beatWord] at hlt hlow hhigh ⊢
      omega
    · rw [State.slot_placeBeats] at hk
      show k ∈ (s.placeBeats r _ _ q'.data).park.entries.map ParkEntry.key
      rw [hkeys]
      exact List.mem_append_left _ (h.slot k x hk)
  waitsLine hmay h := h.setProgress fun _ => ⟨_, hmay⟩
  waitsPark _ _ hmay h := h.setProgress fun _ => ⟨_, hmay⟩
  parkWaits {m s r d timer k} hhead hr hof h := by
    obtain ⟨j, hwrite, hj⟩ := h.head (some d) (.inr ⟨timer, k, hhead⟩)
    have hdec : s.decision = some d := by simp [State.decision, hhead]
    obtain rfl : j = r := by
      obtain ⟨q, rest, d', hq, hd', hcls, hr', -⟩ := hwrite
      obtain rfl := Option.some.inj hd'
      exact Option.some.inj (hr'.symm.trans hr)
    exact ⟨hdec ▸ hwrite, hj.resolve_right hof⟩
  writes {s r q} hq hspan hr hcls := by
    obtain ⟨hbank, hret, hfault, -⟩ := RegionConfig.of_classOf_writerWrite hcls
    have hactive := (State.regionAt_spec hr).1
    have hwork : (s.phase r).working = true := by
      rw [Phase.working_iff]
      rcases (Phase.active_iff _).mp hactive with hp | hp | hp | hp
      · exact absurd hp hret
      · exact .inl hp
      · exact .inr hp
      · exact absurd hp hfault
    obtain ⟨rest, hqueue⟩ : ∃ rest, s.host.queue = q :: rest := List.head?_eq_some_iff.mp hq
    exact ⟨⟨q, rest, _, hqueue, rfl, rfl, rfl, rfl, State.inWindow_of_inBankA hactive hbank,
      inLine_of_not_spansLines hspan⟩, hwork⟩

/-! ### The Host Bus Port and the link -/

/-- A head that is not to wait is in order. -/
theorem Amid.Order.setHost_of_not {m : Amid} {s : State} {x : HostPort} (h : m.Order s) (hsound : x.Sound)
    (hnot : ∀ y, x.head = some y → y.progress.waits = false) : m.Order (s.setHost x) := by
  refine h.setHost hsound fun dec hdec => ?_
  rcases hdec with hdec | ⟨timer, k, hdec⟩
  · cases hnot _ hdec
  · cases hnot _ hdec

theorem Head.tick_decision (x : Head) : x.tick.decision = x.decision := by
  unfold Head.tick
  split <;> rfl

theorem Head.tick_waits (x : Head) : x.tick.progress.waits = x.progress.waits := by
  unfold Head.tick
  split
  · rename_i hx
    rw [hx]
    rfl
  · rfl

theorem State.headWaits_iff {s : State} {dec : Option Decision} :
    s.HeadWaits dec ↔ ∃ x, s.host.head = some x ∧ x.progress.waits = true ∧ x.decision = dec := by
  constructor
  · rintro (h | ⟨timer, k, h⟩)
    · exact ⟨_, h, rfl, rfl⟩
    · exact ⟨_, h, rfl, rfl⟩
  · rintro ⟨⟨p, d⟩, h, hp, rfl⟩
    cases p with
    | waitLine => exact .inl h
    | waitPark timer k => exact .inr ⟨timer, k, h⟩
    | _ => cases hp

theorem orderKept_host : KeptHost fun m s => m.Order s where
  progress hp h := h.setProgress fun hw => by simp [hp] at hw
  head d hqueue hp h := h.setHost_of_not (h.queues.setHead (by simpa using hqueue)).1 fun y hy => by
    cases hy
    exact hp
  headTick {m s} h := by
    refine h.setHost (h.queues.mapHead _).1 fun dec hdec => ?_
    obtain ⟨x, hx, hwaits, rfl⟩ := State.headWaits_iff.mp hdec
    obtain ⟨y, hy, rfl⟩ := Option.map_eq_some_iff.mp hx
    rw [Head.tick_waits] at hwaits
    rw [Head.tick_decision]
    exact h.head _ (State.headWaits_iff.mpr ⟨y, hy, hwaits, rfl⟩)
  burst _ h := h.setHost h.queues.1 h.head
  joined {m s q} hq hroom h := by
    refine h.setHost (h.queues.1.join hq hroom) fun dec hdec => ?_
    obtain ⟨x, hx, hwaits, rfl⟩ := State.headWaits_iff.mp hdec
    have hx : (s.host.join q).head = some x := hx
    simp only [HostPort.join] at hx
    split at hx
    · cases hx
      cases hwaits
    · obtain ⟨r, hwrite, hr⟩ := h.head _ (State.headWaits_iff.mpr ⟨x, hx, hwaits, rfl⟩)
      refine ⟨r, hwrite.congr (fun p rest hp => ⟨rest ++ [q], ?_⟩) rfl hwrite.active, hr⟩
      simp [HostPort.join, State.setHost, hp]
  next {m s} h := by
    refine h.setHost_of_not h.queues.1.next fun y hy => ?_
    simp only [HostPort.next] at hy
    split at hy
    · cases hy
    · cases hy
      rfl
  emptied h := h.setHost_of_not ⟨by simp, by simp, by simp⟩ (fun _ hy => nomatch hy)
  released h := h.setHost h.queues.1 h.head

/-- The link changes, no further enable waits, and a command waits in EXECUTING alone. -/
theorem Amid.Order.setLink {m m' : Amid} {s : State} {x : Link} (h : m.Order s) (hleaving : m'.leaving = m.leaving)
    (hwait : ∀ r seq o, x.waiting = some (.enable r seq o) → s.phase r = .disabled)
    (hareas : (s.setLink x).AreasKept)
    (hrunning : m'.running = true → x.state = .executing ∧ x.waiting = none)
    (hwaiting : x.waiting ≠ none → x.state = .executing) : m'.Order (s.setLink x) :=
  ⟨hareas, ⟨h.life.1, hwait⟩, h.queues, hrunning, hwaiting, hleaving ▸ h.head, hleaving ▸ h.keys, h.slot⟩

/-- A region is enabled (R123). -/
theorem Amid.Order.enableApply {m m' : Amid} {s : State} {r : RegionIx} (h : m.Order s)
    (hleaving : m'.leaving = m.leaving) (hm : m'.running = false) (seq : Byte)
    (hareas : (s.enableApply r seq).AreasKept) : m'.Order (s.enableApply r seq) := by
  have hphase (j : RegionIx) : ((s.enableApply r seq).phase j).working = true ∨
      (s.enableApply r seq).phase j = s.phase j := by
    have hrun := s.run_enableApply r j seq
    by_cases hj : j = r
    · rw [if_pos hj] at hrun
      exact .inl (by rw [show State.phase _ j = _ from congrArg Runtime.phase hrun]; rfl)
    · rw [if_neg hj] at hrun
      exact .inr (congrArg Runtime.phase hrun)
  refine h.mono hareas (h.life.enableApply r seq) (fun j _ hj => ?_) (fun j hj => ?_) (fun j hj => ?_)
    (by simp) (by simp) (by simp) (by simp [hm]) (by simp [State.enableApply_link])
  · exact (hphase j).elim Phase.active_of_working fun hp => hp ▸ hj
  · exact (hphase j).elim .inl fun hp => by rwa [hp, hleaving]
  · exact (hphase j).elim .inl fun hp => by rwa [hp, hleaving]

theorem State.restartCleared_park (s : State) (seq : Byte) : (s.restartCleared.ack seq []).park = ⟨[], .idle⟩ := by
  unfold State.restartCleared
  split <;> rfl

/-- RESTART answers a head that waits (R150). -/
theorem State.not_headWaits_restartCleared (s : State) (seq : Byte) (dec : Option Decision) :
    ¬(s.restartCleared.ack seq []).HeadWaits dec := by
  unfold State.restartCleared
  split
  · intro h
    have := (State.headWaits_setProgress (s := s.restartBlocks) (dec := dec) h).1
    cases this
  · rename_i habort
    intro h
    obtain ⟨x, hx, hwaits, -⟩ := State.headWaits_iff.mp h
    have hhead : s.host.head = some x := hx
    refine habort ?_
    rw [State.restartAborts, State.progress, hhead]
    obtain ⟨p, d⟩ := x
    cases p with
    | waitLine => rfl
    | waitPark _ _ => rfl
    | _ => cases hwaits

theorem orderKept_link : KeptLink fun m s => m.Order s where
  firstByte {m s} hdiscard hstate h := by
    have hnone : s.link.waiting = none := by
      by_contra hne
      rw [h.waiting hne] at hstate
      simp at hstate
    refine h.setLink rfl h.life.2 (areasKept_link.firstByte (m := m) hdiscard hstate h.areas) (fun hm => ?_)
      (absurd hnone)
    rw [(h.running hm).1] at hstate
    simp at hstate
  discards {m s} hm hdiscard hstate h :=
    h.setLink rfl h.life.2 (areasKept_link.discards hm hdiscard hstate h.areas) h.running h.waiting
  frameDropped {m s} hdiscard h :=
    h.setLink rfl h.life.2 (areasKept_link.frameDropped (m := m) hdiscard h.areas) h.running h.waiting
  fetched {m s} n hdiscard hstate h :=
    h.setLink rfl h.life.2 (areasKept_link.fetched (m := m) n hdiscard hstate h.areas) h.running h.waiting
  runs {m s} hr h := by
    have hnone : s.link.waiting = none := by
      by_contra hne
      have := h.waiting hne
      simp [hr.1] at this
    exact h.setLink rfl h.life.2 (areasKept_link.runs (m := m) hr h.areas) (fun _ => ⟨rfl, hnone⟩) (fun _ => rfl)
  answered x hm h :=
    h.setLink rfl (fun _ _ _ hw => nomatch hw) (areasKept_link.answered x hm h.areas) nofun (absurd rfl)
  enableWaits seq hm hp hwritten hconflict h := by
    refine h.setLink rfl (fun j x o hw => ?_) (areasKept_link.enableWaits seq hm hp hwritten hconflict h.areas) nofun
      fun _ => (h.running hm).1
    obtain ⟨rfl, -, -⟩ := Waiting.enable.inj (Option.some.inj hw)
    exact hp
  restartWaits seq hm h :=
    h.setLink rfl (fun _ _ _ hw => nomatch hw) (areasKept_link.restartWaits seq hm h.areas) nofun
      fun _ => (h.running hm).1
  waitingChanged {m s w} hw henable h := by
    refine h.setLink rfl (fun j x o hj => ?_) (areasKept_link.waitingChanged (m := m) hw henable h.areas) (fun hm => ?_)
      fun hne => h.waiting ?_
    · obtain ⟨o', ho⟩ := henable j x o hj
      exact h.life.2 j x o' ho
    · obtain ⟨hstate, hnone⟩ := h.running hm
      refine ⟨hstate, ?_⟩
      simpa [hnone] using hw
    · intro hnone
      exact hne (by simpa [hnone] using hw)
  enabledNow {m s r} seq hm hp hwritten hconflict h :=
    h.enableApply (m' := { m with running := false }) rfl rfl seq
      (areasKept_link.enabledNow seq hm hp hwritten hconflict h.areas)
  enabledDue {m s r seq o} hw h := by
    refine h.enableApply rfl ?_ seq (areasKept_link.enabledDue (m := m) hw h.areas)
    cases hm : m.running
    · rfl
    · simp [(h.running hm).2] at hw
  restarted {m s seq} hw h := by
    have hm : m.running = false := by
      cases hm : m.running
      · rfl
      · simp [(h.running hm).2] at hw
    have hpark : (s.restartCleared.ack seq []).park = ⟨[], .idle⟩ := State.restartCleared_park s seq
    refine ⟨areasKept_link.restarted (m := m) hw h.areas, lifeKept_link.restarted (m := m) hw h.life,
      queuesKept_link.restarted (m := m) hw h.queues, by simp [hm], by simp [State.restartCleared_link],
      fun dec hdec => absurd hdec (State.not_headWaits_restartCleared s seq dec), fun k hk => ?_, fun k x hk => ?_⟩
    · rw [State.parkKeys, hpark] at hk
      cases hk
    · rw [hpark] at hk
      cases hk

theorem keptOrder : Kept (fun m s => m.Order s) State.MayWait :=
  ⟨orderKept_blocks, orderKept_runs, orderKept_life, orderKept_park, orderKept_host, orderKept_link⟩

/-- An entry is stored for a DISABLED region, of which nothing waits (R189). -/
theorem keptOrder_store : KeptStore fun m s => m.Order s := by
  intro m s r x resp hm hp hx h
  have hregion (j : RegionIx) (hj : j ≠ r) : (s.storeRegion r x).region j = s.region j := s.region_modRegion_ne hj _
  have hphase (j : RegionIx) : ((s.storeRegion r x).placeResponse resp).phase j = s.phase j :=
    congrArg Runtime.phase (s.run_storeRegion r j x)
  have hconfig (j : RegionIx) (hj : (s.phase j).active = true) :
      ((s.storeRegion r x).placeResponse resp).config j = s.config j := by
    refine congrArg Region.config (hregion j ?_)
    rintro rfl
    rw [hp] at hj
    cases hj
  refine ⟨keptAreas_store m s r x resp hm hp hx h.areas, lifeKept_store m s r x resp hm hp hx h.life, h.queues,
    nofun, absurd rfl, fun dec hdec => ?_, fun k hk => ?_, h.slot⟩
  · obtain ⟨j, hwrite, hj⟩ := h.head dec hdec
    exact ⟨j, hwrite.congr (fun q rest hq => ⟨rest, hq⟩) (hconfig j hwrite.active) (hphase j ▸ hwrite.active),
      hphase j ▸ hj⟩
  · obtain ⟨hactive, hwork, hwin⟩ := h.keys k hk
    refine ⟨hphase k.region ▸ hactive, hphase k.region ▸ hwork, ?_⟩
    rw [State.KeyInWindow, hconfig _ hactive]
    exact hwin

/-! ### The law of what waits -/

/-- Between commands, what waits is in order where the law holds with what upholds it. -/
theorem State.order_of_waitsLaw {s : State} (hareas : s.AreasKept) (hlife : s.LifecycleLaw) (hqueues : s.QueuesSound)
    (h : s.WaitsLaw) : ({} : Amid).Order s := by
  obtain ⟨hwaiting, hhead, hentries, hslot⟩ := h
  refine ⟨hareas, hlife, hqueues, nofun, hwaiting, fun dec hdec => ?_, fun k hk => ?_, fun k x hk => ?_⟩
  · obtain ⟨q, rest, d, r, hq, hd, hcls, hr, hview, hwork, hwindow, hline⟩ := hhead dec hdec
    exact ⟨r, ⟨q, rest, d, hq, hd, hcls, hr, hview, hwindow, hline⟩, .inl (Phase.working_iff.mpr hwork)⟩
  · obtain ⟨e, he, rfl⟩ := List.mem_map.mp hk
    obtain ⟨hwork, hrange⟩ := hentries e he
    have hwork := Phase.working_iff.mpr hwork
    exact ⟨Phase.active_of_working hwork, .inl hwork, hrange⟩
  · obtain ⟨e, he, rfl⟩ := hslot k x hk
    exact List.mem_map_of_mem he

theorem State.waitsLaw_of_order {s : State} (h : ({} : Amid).Order s) : s.WaitsLaw := by
  refine ⟨h.waiting, fun dec hdec => ?_, fun e he => ?_, fun k x hk => ?_⟩
  · obtain ⟨r, ⟨q, rest, d, hq, hd, hcls, hr, hview, hwindow, hline⟩, hwork⟩ := h.head dec hdec
    exact ⟨q, rest, d, r, hq, hd, hcls, hr, hview, Phase.working_iff.mp (hwork.resolve_right id), hwindow, hline⟩
  · obtain ⟨-, hwork, hwin⟩ := h.keys e.key (List.mem_map_of_mem he)
    exact ⟨Phase.working_iff.mp (hwork.resolve_right fun ⟨_, hx⟩ => nomatch hx), hwin⟩
  · exact List.mem_map.mp (h.slot k x hk)

theorem State.order_of_reset {s : State} (hregions : s.regions = State.reset.regions)
    (hlink : s.link = State.reset.link) (hpark : s.park = State.reset.park) (hqueue : s.host.queue = [])
    (hhead : s.host.head = none) : ({} : Amid).Order s := by
  have hregion (j : RegionIx) : s.region j = Region.powerOn := by
    simp [State.region, hregions, State.reset, Vector.get_eq_getElem]
  have hpark' : s.park = ⟨[], .idle⟩ := hpark
  refine ⟨State.areasKept_of_reset hregions hlink, ⟨fun j hj => ?_, fun j x o hw => ?_⟩,
    ⟨⟨by simp [hqueue], by simp [hqueue], by simp [hqueue, hhead]⟩, by simp [hpark'], by simp [hpark']⟩, nofun,
    fun hw => ?_, fun dec hdec => ?_, fun k hk => ?_, fun k x hk => ?_⟩
  · rw [hregion] at hj
    exact absurd rfl hj
  · rw [hlink] at hw
    cases hw
  · rw [hlink] at hw
    exact absurd rfl hw
  · obtain ⟨x, hx, -⟩ := State.headWaits_iff.mp hdec
    simp [hhead] at hx
  · simp [State.parkKeys, hpark'] at hk
  · simp [hpark'] at hk

/-- Settles O8: the queues, the link and what waits are kept in order by every update, with the areas of regions and
the stages of retirement. -/
theorem queueLawsKept : Obligations.QueueLawsKept := by
  refine ⟨fun s t hhost hpark hstep => queuesLawKept ⟨hhost, hpark⟩ hstep,
    fun s t hareas hentries hlife hhost hpark hwaits hstep => ?_, fun s t h hstep => linkLawKept h hstep⟩
  refine State.waitsLaw_of_order (keptOrder.step (s := s)
    (State.order_of_waitsLaw ⟨hareas, hentries⟩ hlife ⟨hhost, hpark⟩ hwaits) keptOrder_store
    (fun _ _ h => h.of_regions rfl rfl rfl rfl rfl rfl) (fun _ _ => answers_next ?_)
    (fun _ h => h.of_regions rfl rfl rfl rfl rfl rfl) hstep)
  exact State.order_of_reset rfl rfl rfl rfl rfl

end Sys2Proof.Machine


/-! SUPPORT. Every view stands on a LIVE or HELD bank at its frame, no tag has two views on a region, and a HELD bank
has a view (R23, R45): every update keeps it, with the roles and the stages of retirement. -/

namespace Sys2Proof.Machine

set_option Elab.async false

/-! ### Views and the conditions on them -/

theorem State.viewed_iff {s : State} {r : RegionIx} {b : Bank} : s.viewed r b = true ↔ s.ViewOn r b := by
  simp [State.viewed, State.ViewOn, slotIxs_eq_finRange, Option.any_eq_true, View.on]

theorem State.viewOf_eq_none_iff {s : State} {r : RegionIx} {t : Tag} :
    s.viewOf r t = none ↔ ∀ k v, s.view k = some v → v.region = r → v.tag ≠ t := by
  simp [State.viewOf, slotIxs_eq_finRange, View.on, Option.any_eq_false]

theorem State.mem_viewsWhere {s : State} {test : Nat → View → Bool} {v : View} :
    v ∈ s.viewsWhere test ↔ ∃ k : Slot, s.view k = some v ∧ test k.val v = true := by
  simp [State.viewsWhere, slotIxs_eq_finRange, Option.filter_eq_some_iff]

/-! ### The law within a happening -/

/-- The region is being retired, and its views are still there. -/
def Leaving.retires (l : Leaving) (r : RegionIx) : Prop := l = .entered r true ∨ l = .emptied r true

/-- The view refers to a LIVE or HELD bank and keeps that bank's frame (R23, R45). -/
def State.OnBank (s : State) (v : View) : Prop :=
  ((s.run v.region).roles.get v.bank = .live ∨ (s.run v.region).roles.get v.bank = .held) ∧
    v.frameAtOpen = (s.run v.region).bankFrames.get v.bank

/-- No two views are of one tag on one region (R45). -/
def State.ViewsUnique (s : State) : Prop :=
  ∀ (k₁ k₂ : Slot) (v₁ v₂ : View), s.view k₁ = some v₁ → s.view k₂ = some v₂ → v₁.tag = v₂.tag →
    v₁.region = v₂.region → k₁ = k₂

/-- The law of the views within a happening, with the roles and the lifecycle side: a region that is being retired
may still have its views, and a HELD bank that has lost its last view is due to be reported (R57, R60). -/
structure Amid.Viewed (m : Amid) (s : State) : Prop where
  roles : s.RolesLaw
  life : s.LifecycleLaw
  phase : ∀ k v, s.view k = some v →
    (s.phase v.region).Viewable ∨ s.phase v.region = .retiring ∧ m.leaving.retires v.region
  bank : ∀ k v, s.view k = some v → s.OnBank v
  unique : s.ViewsUnique
  held : ∀ r b, (s.run r).roles.get b = .held → s.ViewOn r b ∨ m.due r b

theorem State.OnBank.congr {s t : State} {v w : View} (h : s.OnBank v) (hfixed : w.fixed = v.fixed)
    (hrun : t.run v.region = s.run v.region) : t.OnBank w := by
  simp only [View.fixed, Prod.mk.injEq] at hfixed
  obtain ⟨-, hregion, hbank, hframe⟩ := hfixed
  rw [State.OnBank, hregion, hbank, hframe, hrun]
  exact h

/-- The view in a slot is one from before, but for what may change of a view. -/
theorem View.of_fixed {x y : Option View} (h : x.map View.fixed = y.map View.fixed) {v : View} (hx : x = some v) :
    ∃ w, y = some w ∧ v.fixed = w.fixed := by
  subst hx
  cases y with
  | none => cases h
  | some w => exact ⟨w, rfl, Option.some.inj h⟩

theorem View.fixed_inj {v w : View} (h : v.fixed = w.fixed) :
    v.tag = w.tag ∧ v.region = w.region ∧ v.bank = w.bank ∧ v.frameAtOpen = w.frameAtOpen := by
  simpa [View.fixed] using h

/-- Neither the regions' phases and roles nor what is fixed of the views changes. -/
theorem Amid.Viewed.congr {m m' : Amid} {s t : State} (h : m.Viewed s) (hlife : t.LifecycleLaw)
    (hrun : ∀ r, t.run r = s.run r) (hviews : ∀ k : Slot, (t.view k).map View.fixed = (s.view k).map View.fixed)
    (hretires : ∀ r, m.leaving.retires r → m'.leaving.retires r) (hdue : m'.due = m.due) : m'.Viewed t := by
  have hphase (r : RegionIx) : t.phase r = s.phase r := congrArg Runtime.phase (hrun r)
  refine ⟨h.roles.congr hrun, hlife, fun k v hk => ?_, fun k v hk => ?_, fun k₁ k₂ v₁ v₂ h₁ h₂ htag hregion => ?_,
    fun r b hb => ?_⟩
  · obtain ⟨w, hw, hfixed⟩ := View.of_fixed (hviews k) hk
    rw [hphase, (View.fixed_inj hfixed).2.1]
    exact (h.phase k w hw).imp_right fun ⟨hp, hl⟩ => ⟨hp, hretires _ hl⟩
  · obtain ⟨w, hw, hfixed⟩ := View.of_fixed (hviews k) hk
    exact (h.bank k w hw).congr hfixed (hrun _)
  · obtain ⟨w₁, hw₁, hf₁⟩ := View.of_fixed (hviews k₁) h₁
    obtain ⟨w₂, hw₂, hf₂⟩ := View.of_fixed (hviews k₂) h₂
    obtain ⟨htag₁, hregion₁, -⟩ := View.fixed_inj hf₁
    obtain ⟨htag₂, hregion₂, -⟩ := View.fixed_inj hf₂
    exact h.unique k₁ k₂ w₁ w₂ hw₁ hw₂ (htag₁ ▸ htag₂ ▸ htag) (hregion₁ ▸ hregion₂ ▸ hregion)
  · rw [hrun] at hb
    refine (h.held r b hb).imp (fun ⟨k, v, hk, hr, hbank⟩ => ?_) (fun hd => hdue ▸ hd)
    obtain ⟨w, hw, hfixed⟩ := View.of_fixed (hviews k).symm hk
    obtain ⟨-, hregion, hbank', -⟩ := View.fixed_inj hfixed
    exact ⟨k, w, hw, hregion ▸ hr, hbank' ▸ hbank⟩

/-- One region's runtime record changes: its views are to stay in order. -/
theorem Amid.Viewed.modRun {m m' : Amid} {s : State} {r : RegionIx} {f : Runtime → Runtime} (h : m.Viewed s)
    (hroles : (s.modRun r f).RolesLaw) (hlife : (s.modRun r f).LifecycleLaw)
    (hphase : ∀ k v, s.view k = some v → v.region = r →
      (f (s.run r)).phase.Viewable ∨ (f (s.run r)).phase = .retiring ∧ m'.leaving.retires r)
    (hbank : ∀ k v, s.view k = some v → v.region = r → (s.modRun r f).OnBank v)
    (hheld : ∀ b, (f (s.run r)).roles.get b = .held → s.ViewOn r b ∨ m'.due r b)
    (hretires : ∀ j, m.leaving.retires j → m'.leaving.retires j) (hdue : ∀ j b, m.due j b → m'.due j b) :
    m'.Viewed (s.modRun r f) := by
  refine ⟨hroles, hlife, fun k v hk => ?_, fun k v hk => ?_, h.unique, fun j b hb => ?_⟩
  · rw [show (s.modRun r f).phase v.region = _ from congrArg Runtime.phase (s.run_modRun r v.region f)]
    split
    · rename_i hr
      rw [hr]
      exact hphase k v hk hr
    · exact (h.phase k v hk).imp_right fun ⟨hp, hl⟩ => ⟨hp, hretires _ hl⟩
  · by_cases hr : v.region = r
    · exact hbank k v hk hr
    · exact (h.bank k v hk).congr rfl (s.run_modRun_ne hr f)
  · rw [State.run_modRun] at hb
    split at hb
    · rename_i hr
      exact hr ▸ hheld b hb
    · exact (h.held j b hb).imp_right (hdue j b)

/-- A runtime record changes, and keeps its roles and frames. -/
theorem Amid.Viewed.modRun_same {m m' : Amid} {s : State} {r : RegionIx} {f : Runtime → Runtime} (h : m.Viewed s)
    (hroles : (s.modRun r f).RolesLaw) (hlife : (s.modRun r f).LifecycleLaw)
    (hphase : (s.phase r).Viewable ∨ s.phase r = .retiring ∧ m.leaving.retires r →
      (f (s.run r)).phase.Viewable ∨ (f (s.run r)).phase = .retiring ∧ m'.leaving.retires r)
    (hsame : (f (s.run r)).roles = (s.run r).roles) (hframes : (f (s.run r)).bankFrames = (s.run r).bankFrames)
    (hretires : ∀ j, m.leaving.retires j → m'.leaving.retires j) (hdue : m'.due = m.due) :
    m'.Viewed (s.modRun r f) := by
  refine h.modRun hroles hlife (fun k v hk hr => hphase (hr ▸ h.phase k v hk)) (fun k v hk hr => ?_)
    (fun b hb => ?_) hretires (fun j b hd => hdue ▸ hd)
  · have hb := h.bank k v hk
    rw [State.OnBank, hr] at hb ⊢
    rwa [State.run_modRun_self, hsame, hframes]
  · rw [hsame] at hb
    exact hdue ▸ h.held r b hb

theorem viewedKept_blocks : KeptBlocks fun m s => m.Viewed s where
  catchup x h := h.congr (lifeKept_blocks.catchup (m := {}) x h.life) (fun _ => rfl) (fun _ => rfl) (fun _ hr => hr) rfl
  counters r f h := h.congr (lifeKept_blocks.counters (m := {}) r f h.life) (by simp) (fun _ => rfl) (fun _ hr => hr) rfl
  timer r x h := h.congr (lifeKept_blocks.timer (m := {}) r x h.life) (by simp) (fun _ => rfl) (fun _ hr => hr) rfl
  timers h := h.congr (lifeKept_blocks.timers (m := {}) h.life) (State.run_modRegions_timer _ _) (fun _ => rfl)
    (fun _ hr => hr) rfl
  clock x h := h.congr h.life (fun _ => rfl) (fun _ => rfl) (fun _ hr => hr) rfl
  strobes x h := h.congr h.life (fun _ => rfl) (fun _ => rfl) (fun _ hr => hr) rfl
  bus _ h := h.congr h.life (fun _ => rfl) (fun _ => rfl) (fun _ hr => hr) rfl
  enqueue n h := h.congr h.life (fun _ => rfl) (fun _ => rfl) (fun _ hr => hr) rfl
  irq b h := h.congr h.life (fun _ => rfl) (fun _ => rfl) (fun _ hr => hr) rfl
  noticesRead h := h.congr h.life (fun _ => rfl) (fun _ => rfl) (fun _ hr => hr) rfl
  snapshot x h := h.congr h.life (fun _ => rfl) (fun _ => rfl) (fun _ hr => hr) rfl

/-- A view on a bank that is neither LIVE nor HELD is none. -/
theorem Amid.Viewed.not_viewOn {m : Amid} {s : State} (h : m.Viewed s) {r : RegionIx} {b : Bank}
    (hlive : (s.run r).roles.get b ≠ .live) (hheld : (s.run r).roles.get b ≠ .held) : ¬s.ViewOn r b := by
  rintro ⟨k, v, hk, rfl, rfl⟩
  exact (h.bank k v hk).1.elim hlive hheld

/-- A publication moves the views' banks with their frames: the LIVE bank with views becomes HELD (R34, R35). -/
theorem Amid.Viewed.published {m : Amid} {s : State} {r : RegionIx} (h : m.Viewed s) (hp : s.phase r = .pending)
    (hd : s.condD r = true) :
    m.Viewed (s.modRun r fun t => { t.published (s.viewed r (s.run r).liveBank) with followOn := false }) := by
  have hroles := rolesKept_runs.published (m := {}) hp hd h.roles
  have hlife := lifeKept_runs.published (m := {}) hp hd h.life
  have hsound := (h.roles r).2.1 (by rw [show (s.run r).phase = _ from hp]; simp)
  have hare := hsound.1.are
  have hdraft : ¬s.ViewOn r (s.run r).draftBank := h.not_viewOn (by simp [hare.draft]) (by simp [hare.draft])
  have hphase (t : Runtime) (b : Bool) : ({ t.published b with followOn := false } : Runtime).phase.Viewable := .inl rfl
  have hframes (t : Runtime) (b : Bool) (e : Bank) (he : e ≠ t.draftBank) :
      ({ t.published b with followOn := false } : Runtime).bankFrames.get e = t.bankFrames.get e := by
    simp [Runtime.published, PerBank.get_set, he]
  have hview {k : Slot} {v : View} (hk : s.view k = some v) (hr : v.region = r) :
      v.bank = (s.run r).liveBank ∨ v.bank = (s.run r).thirdBank ∧ (s.run r).roles.get (s.run r).thirdBank = .held := by
    obtain ⟨hbank, -⟩ := h.bank k v hk
    rw [hr] at hbank
    exact hbank.imp (fun hb => hare.eq_of_live hb) fun hb => ⟨hare.eq_of_held hb, hare.eq_of_held hb ▸ hb⟩
  cases hviewed : s.viewed r (s.run r).liveBank
  · have hnone : ¬s.ViewOn r (s.run r).liveBank := fun hon => by simp [State.viewed_iff.mpr hon] at hviewed
    have hnew : ({ (s.run r).published false with followOn := false } : Runtime).roles =
        ((s.run r).published false).roles := rfl
    have hare' := hare.published_swap
    rw [hviewed] at hroles hlife
    refine h.modRun hroles hlife (fun _ _ _ _ => .inl (hphase ..)) (fun k v hk hr => ?_) (fun b hb => ?_)
      (fun _ hj => hj) (fun _ _ hj => hj)
    · rcases hview hk hr with hb | ⟨hb, hheld⟩
      · exact absurd ⟨k, v, hk, hr, hb⟩ hnone
      · have hold := (h.bank k v hk).2
        rw [State.OnBank, hr, hb, State.run_modRun_self, hframes _ _ _ hare.draft_ne_third.symm]
        rw [hr, hb] at hold
        refine ⟨.inr ?_, hold⟩
        simp [Runtime.published, Runtime.rolesPublished, PerBank.get_set, hare.live_ne_third.symm,
          hare.draft_ne_third.symm, hheld]
    · obtain rfl := hare'.eq_of_held (hnew ▸ hb)
      refine h.held r _ ?_
      simpa [Runtime.published, Runtime.rolesPublished, PerBank.get_set, hare.live_ne_third.symm,
        hare.draft_ne_third.symm] using hb
  · have hon := State.viewed_iff.mp hviewed
    have hfree : (s.run r).roles.get (s.run r).thirdBank ≠ .held := by
      simp only [State.condD, hviewed, Bool.not_true, Bool.false_or, beq_iff_eq] at hd
      simp [hd]
    have hare' := hare.published_hold
    rw [hviewed] at hroles hlife
    refine h.modRun hroles hlife (fun _ _ _ _ => .inl (hphase ..)) (fun k v hk hr => ?_) (fun b hb => ?_)
      (fun _ hj => hj) (fun _ _ hj => hj)
    · have hb := (hview hk hr).resolve_right fun hb => hfree hb.2
      have hold := (h.bank k v hk).2
      rw [State.OnBank, hr, hb, State.run_modRun_self, hframes _ _ _ hare.live_ne_draft]
      rw [hr, hb] at hold
      refine ⟨.inr ?_, hold⟩
      simp [Runtime.published, Runtime.rolesPublished, PerBank.get_set, hare.live_ne_third]
    · obtain rfl := hare'.eq_of_held hb
      exact .inl hon

theorem viewedKept_runs : KeptRuns fun m s => m.Viewed s where
  tally {m s} r f hf h := by
    refine h.modRun_same (rolesKept_runs.tally (m := {}) r hf h.roles) (lifeKept_runs.tally (m := {}) r hf h.life)
      (fun hp => ?_) ?_ ?_ (fun _ hj => hj) rfl <;> rw [hf]
    exact hp
  pendingEntered hp h :=
    h.modRun_same (rolesKept_runs.pendingEntered (m := {}) hp h.roles)
      (lifeKept_runs.pendingEntered (m := {}) hp h.life) (fun _ => .inl (.inr (.inl rfl))) rfl rfl (fun _ hj => hj) rfl
  flags f g hp h :=
    h.modRun_same (rolesKept_runs.flags (m := {}) f g hp h.roles) (lifeKept_runs.flags (m := {}) f g hp h.life)
      (fun hp => hp) rfl rfl (fun _ hj => hj) rfl
  published hp hd h := h.published hp hd
  freed {m s r b} hheld hview h := by
    have hnone : ¬s.ViewOn r b := fun hon => by simp [State.viewed_iff.mpr hon] at hview
    have hget (e : Bank) (he : e ≠ b) : ((s.run r).roles.set .free b).get e = (s.run r).roles.get e := by
      simp [PerBank.get_set, he]
    refine h.modRun (rolesKept_runs.freed (m := {}) hheld hview h.roles)
      (lifeKept_runs.freed (m := {}) hheld hview h.life) (fun k v hk hr => hr ▸ h.phase k v hk) (fun k v hk hr => ?_)
      (fun e he => ?_) (fun _ hj => hj) (fun _ _ hj => hj)
    · have hne : v.bank ≠ b := fun hb => hnone ⟨k, v, hk, hr, hb⟩
      have hb := h.bank k v hk
      rw [State.OnBank, hr] at hb ⊢
      rw [State.run_modRun_self]
      exact ⟨by rw [hget _ hne]; exact hb.1, hb.2⟩
    · by_cases heb : e = b
      · simp [heb, PerBank.get_set] at he
      · exact h.held r e (hget e heb ▸ he)
  undue {m s due} hdue h := by
    refine ⟨h.roles, h.life, h.phase, h.bank, h.unique, fun r b hb => ?_⟩
    rcases h.held r b hb with hon | hd
    · exact .inl hon
    · rcases hdue r b hd with hd | hd | hd
      · exact .inr hd
      · exact absurd hb hd
      · exact .inl (State.viewed_iff.mp hd)
  viewMarks hfixed h := h.congr h.life (fun _ => rfl) hfixed (fun _ hr => hr) rfl
  viewOpened {m s k r t} idle age inUse drop hk hnone hp h := by
    have hview (j : Slot) := s.view_setView k j (some ⟨t, r, (s.run r).liveBank, (s.run r).frame, idle, age, inUse, drop⟩)
    have hsound := (h.roles r).2.1 hp.ne_disabled
    refine ⟨h.roles, h.life, fun j v hj => ?_, fun j v hj => ?_, fun j₁ j₂ v₁ v₂ h₁ h₂ htag hregion => ?_,
      fun j b hb => (h.held j b hb).imp_left fun ⟨i, v, hi, hr, hbank⟩ => ?_⟩
    · rw [hview] at hj
      split at hj
      · cases hj
        exact .inl hp
      · exact h.phase j v hj
    · rw [hview] at hj
      split at hj
      · cases hj
        exact ⟨.inl hsound.1.1, hsound.2.symm⟩
      · exact h.bank j v hj
    · rw [hview] at h₁ h₂
      split at h₁ <;> split at h₂
      · simp_all
      · cases h₁
        exact absurd htag.symm (State.viewOf_eq_none_iff.mp hnone j₂ v₂ h₂ hregion.symm)
      · cases h₂
        exact absurd htag (State.viewOf_eq_none_iff.mp hnone j₁ v₁ h₁ hregion)
      · exact h.unique j₁ j₂ v₁ v₂ h₁ h₂ htag hregion
    · refine ⟨i, v, ?_, hr, hbank⟩
      rw [hview, if_neg]
      · exact hi
      · rintro rfl
        simp [hk] at hi
  viewsGone {m s} test h := by
    have hview {k : Slot} {v : View} : (s.dropWhere test).view k = some v ↔ s.view k = some v ∧ test k.val v = false := by
      simp [State.view_dropWhere, Option.filter_eq_some_iff]
    refine ⟨h.roles, h.life, fun k v hk => h.phase k v (hview.mp hk).1, fun k v hk => h.bank k v (hview.mp hk).1,
      fun k₁ k₂ v₁ v₂ h₁ h₂ => h.unique k₁ k₂ v₁ v₂ (hview.mp h₁).1 (hview.mp h₂).1, fun r b hb => ?_⟩
    rcases h.held r b hb with ⟨k, v, hk, hr, hbank⟩ | hd
    · cases htest : test k.val v
      · exact .inl ⟨k, v, hview.mpr ⟨hk, htest⟩, hr, hbank⟩
      · exact .inr (.inr ⟨v, State.mem_viewsWhere.mpr ⟨k, hk, htest⟩, hr, hbank⟩)
    · exact .inr (.inl hd)

/-- A region becomes DISABLED or is enabled while it has no view. -/
theorem Amid.Viewed.replaced {m m' : Amid} {s t : State} {r : RegionIx} (h : m.Viewed s) (hroles : t.RolesLaw)
    (hlife : t.LifecycleLaw) (hviews : ∀ k : Slot, t.view k = s.view k) (hrun : ∀ j, j ≠ r → t.run j = s.run j)
    (hnone : ∀ b, (t.run r).roles.get b ≠ .held) (hgone : ∀ k v, s.view k = some v → v.region ≠ r)
    (hleaving : m'.leaving = m.leaving) (hdue : m'.due = m.due) : m'.Viewed t := by
  refine ⟨hroles, hlife, fun k v hk => ?_, fun k v hk => ?_, fun k₁ k₂ v₁ v₂ h₁ h₂ => ?_, fun j b hb => ?_⟩
  · rw [hviews] at hk
    rw [show t.phase v.region = _ from congrArg Runtime.phase (hrun _ (hgone k v hk)), hleaving]
    exact h.phase k v hk
  · rw [hviews] at hk
    exact (h.bank k v hk).congr rfl (hrun _ (hgone k v hk))
  · rw [hviews] at h₁ h₂
    exact h.unique k₁ k₂ v₁ v₂ h₁ h₂
  · by_cases hj : j = r
    · exact absurd hb (hj ▸ hnone b)
    · rw [hrun j hj] at hb
      exact (h.held j b hb).imp (fun ⟨k, v, hk, hv⟩ => ⟨k, v, (hviews k).trans hk, hv⟩) fun hd => hdue ▸ hd

theorem viewedKept_life : KeptLife fun m s => m.Viewed s where
  lifeNoted r f hf h := h.congr (lifeKept_life.lifeNoted (m := {}) r hf h.life) (by simp) (fun _ => rfl)
    (fun _ hj => hj) rfl
  folding n hm hp h := h.congr (lifeKept_life.folding (m := {}) n rfl hp h.life) (by simp) (fun _ => rfl)
    (fun _ hj => hj) rfl
  retired {m s r} hm hstage h := by
    have hp : s.phase r = .retiring := h.life.1 r (by simp [hstage])
    refine h.replaced (r := r) (rolesKept_life.retired (m := {}) rfl hstage h.roles)
      (lifeKept_life.retired (m := {}) rfl hstage h.life) (fun k => by simp [State.view]) (fun j hj => ?_) (fun b => ?_)
      (fun k v hk hr => ?_) rfl rfl
    · rw [State.run_retirementEnd, if_neg hj]
    · rw [State.run_retirementEnd, if_pos rfl]
      cases b <;> simp [Runtime.ended, Runtime.powerOn, PerBank.get]
    · rcases h.phase k v hk with hview | ⟨-, hl⟩
      · rw [hr, hp] at hview
        rcases hview with hv | hv | hv <;> cases hv
      · rcases hl with hl | hl <;> simp [hm] at hl
  faulted {m s r} hm hp h :=
    h.modRun_same (rolesKept_life.faulted (m := {}) rfl hp h.roles) (lifeKept_life.faulted (m := {}) rfl hp h.life)
      (fun _ => .inl (.inr (.inr rfl))) rfl rfl (fun j hj => by rcases hj with hl | hl <;> simp [hm] at hl) rfl
  retiring {m s r} hm hp h := by
    have hlife := lifeKept_life.retiring (m := {}) rfl hp h.life
    have hroles := rolesKept_life.retiring (m := {}) rfl hp h.roles
    rw [State.modLife_modRun_comm] at hlife hroles ⊢
    have hretired : { m with leaving := .entered r true }.Viewed (s.modRun r Runtime.retiring) :=
      h.modRun_same (hroles.congr fun j => by simp) (h.life.modRun (.inr hp)) (fun _ => .inr ⟨rfl, .inl rfl⟩) rfl rfl
        (fun j hj => by rcases hj with hl | hl <;> simp [hm] at hl) rfl
    exact hretired.congr hlife (by simp) (fun _ => rfl) (fun _ hj => hj) rfl
  entriesDropped {m s r x} hm h := h.congr h.life (fun _ => rfl) (fun _ => rfl) (fun j hj => by
    rcases hj with hl | hl
    · rw [hm] at hl
      obtain ⟨rfl, rfl⟩ := Leaving.entered.inj hl
      exact .inr rfl
    · simp [hm] at hl) rfl
  viewless {m s r x} hm hx h := by
    refine ⟨h.roles, h.life, fun k v hk => ?_, h.bank, h.unique, h.held⟩
    refine (h.phase k v hk).imp_right fun ⟨_, hl⟩ => ?_
    rcases hl with hl | hl
    · simp [hm] at hl
    · rw [hm] at hl
      obtain ⟨hr, hx'⟩ := Leaving.emptied.inj hl
      exact absurd hr.symm (hx hx' k v hk)
  left {m s r} hm _ h := h.congr h.life (fun _ => rfl) (fun _ => rfl) (fun j hj => by
    rcases hj with hl | hl <;> simp [hm] at hl) rfl

theorem viewedKept_park : KeptPark (fun m s => m.Viewed s) fun _ _ => True where
  slot _ h := h.congr h.life (fun _ => rfl) (fun _ => rfl) (fun _ hj => hj) rfl
  modEntry _ _ _ h := h.congr h.life (fun _ => rfl) (fun _ => rfl) (fun _ hj => hj) rfl
  removed _ _ h := h.congr h.life (fun _ => rfl) (fun _ => rfl) (fun _ hj => hj) rfl
  placed {m s r q} hg hq hroom h := by
    refine h.congr (lifeKept_park.placed (m := {}) (r := r) hg hq hroom h.life) (fun j => State.run_congr (by simp) j)
      (fun k => ?_) (fun _ hj => hj) rfl
    simp [State.view]
  waitsLine _ h := h.congr h.life (fun _ => rfl) (fun _ => rfl) (fun _ hj => hj) rfl
  waitsPark _ _ _ h := h.congr h.life (fun _ => rfl) (fun _ => rfl) (fun _ hj => hj) rfl

theorem viewedKept_host : KeptHost fun m s => m.Viewed s where
  progress _ h := h.congr h.life (fun _ => rfl) (fun _ => rfl) (fun _ hj => hj) rfl
  head _ _ _ h := h.congr h.life (fun _ => rfl) (fun _ => rfl) (fun _ hj => hj) rfl
  headTick h := h.congr h.life (fun _ => rfl) (fun _ => rfl) (fun _ hj => hj) rfl
  burst _ h := h.congr h.life (fun _ => rfl) (fun _ => rfl) (fun _ hj => hj) rfl
  joined _ _ h := h.congr h.life (fun _ => rfl) (fun _ => rfl) (fun _ hj => hj) rfl
  next h := h.congr h.life (fun _ => rfl) (fun _ => rfl) (fun _ hj => hj) rfl
  emptied h := h.congr h.life (fun _ => rfl) (fun _ => rfl) (fun _ hj => hj) rfl
  released h := h.congr h.life (fun _ => rfl) (fun _ => rfl) (fun _ hj => hj) rfl

/-- The link changes, and the lifecycle side of it stays in order. -/
theorem Amid.Viewed.setLink {m m' : Amid} {s : State} {x : Link} (h : m.Viewed s) (hlife : (s.setLink x).LifecycleLaw)
    (hleaving : m'.leaving = m.leaving) (hdue : m'.due = m.due) : m'.Viewed (s.setLink x) :=
  h.congr hlife (fun _ => rfl) (fun _ => rfl) (fun _ hj => hleaving ▸ hj) hdue

/-- A DISABLED region is enabled: it has no view (R45, R123). -/
theorem Amid.Viewed.enableApply {m m' : Amid} {s : State} {r : RegionIx} (h : m.Viewed s) (hp : s.phase r = .disabled)
    (seq : Byte) (hroles : (s.enableApply r seq).RolesLaw) (hleaving : m'.leaving = m.leaving) (hdue : m'.due = m.due) :
    m'.Viewed (s.enableApply r seq) := by
  refine h.replaced (r := r) hroles (h.life.enableApply r seq) (fun k => by simp [State.view]) (fun j hj => ?_)
    (fun b => ?_) (fun k v hk hr => ?_) hleaving hdue
  · rw [State.run_enableApply, if_neg hj]
  · rw [State.run_enableApply, if_pos rfl]
    cases b <;> simp [Runtime.enabled, PerBank.get]
  · rcases h.phase k v hk with hview | ⟨hret, -⟩
    · exact hview.ne_disabled (hr ▸ hp)
    · rw [hr, hp] at hret
      cases hret

theorem State.restartCleared_view (s : State) (seq : Byte) (k : Slot) : (s.restartCleared.ack seq []).view k = none := by
  unfold State.restartCleared
  split <;> simp [State.view, State.restartBlocks, Vector.get_eq_getElem, State.setProgress, State.setHead]

theorem viewedKept_link : KeptLink fun m s => m.Viewed s where
  firstByte _ _ h := h.setLink h.life rfl rfl
  discards _ _ _ h := h.setLink h.life rfl rfl
  frameDropped _ h := h.setLink h.life rfl rfl
  fetched _ _ _ h := h.setLink h.life rfl rfl
  runs _ h := h.setLink h.life rfl rfl
  answered x hm h := h.setLink (lifeKept_link.answered (m := ⟨.none, fun _ _ => False, true⟩) x rfl h.life) rfl rfl
  enableWaits {m s r} seq hm hp hwritten hconflict h :=
    h.setLink (lifeKept_link.enableWaits (m := m) seq hm hp hwritten hconflict h.life) rfl rfl
  restartWaits {m s} seq hm h := h.setLink (lifeKept_link.restartWaits (m := m) seq hm h.life) rfl rfl
  waitingChanged {m s w} hw henable h :=
    h.setLink (lifeKept_link.waitingChanged (m := m) hw henable h.life) rfl rfl
  enabledNow {m s r} seq hm hp hwritten hconflict h :=
    h.enableApply hp seq (rolesKept_link.enabledNow (m := m) seq hm hp hwritten hconflict h.roles) rfl rfl
  enabledDue {m s r seq o} hw h :=
    h.enableApply (h.life.2 r seq o hw) seq (rolesKept_link.enabledDue (m := m) hw h.roles) rfl rfl
  restarted {m s seq} hw h := by
    refine ⟨rolesKept_link.restarted (m := m) hw h.roles, lifeKept_link.restarted (m := m) hw h.life,
      fun k v hk => ?_, fun k v hk => ?_, fun k₁ _ v₁ _ h₁ => ?_, fun j b hb => ?_⟩
    · simp [State.restartCleared_view] at hk
    · simp [State.restartCleared_view] at hk
    · simp [State.restartCleared_view] at h₁
    · rw [State.run_restartCleared] at hb
      cases b <;> simp [Runtime.ended, Runtime.powerOn, PerBank.get] at hb

theorem keptViewed : Kept (fun m s => m.Viewed s) fun _ _ => True :=
  ⟨viewedKept_blocks, viewedKept_runs, viewedKept_life, viewedKept_park, viewedKept_host, viewedKept_link⟩

theorem keptViewed_store : KeptStore fun m s => m.Viewed s := fun m s r x resp hm hp hx h =>
  h.congr (lifeKept_store m s r x resp hm hp hx h.life) (State.run_storeRegion s r · x) (fun _ => rfl)
    (fun _ hj => hj) rfl

/-! ### The law of the views -/

theorem State.viewed_of_viewsLaw {s : State} (hroles : s.RolesLaw) (hlife : s.LifecycleLaw) (h : s.ViewsLaw) :
    ({} : Amid).Viewed s :=
  ⟨hroles, hlife, fun k v hk => .inl (h.1 k v hk).1, fun k v hk => (h.1 k v hk).2, h.2.1,
    fun r b hb => .inl (h.2.2 r b hb)⟩

theorem State.viewsLaw_of_viewed {s : State} (h : ({} : Amid).Viewed s) : s.ViewsLaw := by
  refine ⟨fun k v hk => ⟨?_, h.bank k v hk⟩, h.unique, fun r b hb => (h.held r b hb).resolve_right id⟩
  refine (h.phase k v hk).resolve_right fun ⟨_, hl⟩ => ?_
  rcases hl with hl | hl <;> cases hl

theorem State.viewed_of_reset {s : State} (hregions : s.regions = State.reset.regions)
    (hviews : s.views = State.reset.views) (hlink : s.link = State.reset.link) : ({} : Amid).Viewed s := by
  have hrun (j : RegionIx) : s.run j = Runtime.powerOn :=
    (State.run_congr hregions j).trans (State.reset_run j)
  have hlife (j : RegionIx) : (s.region j).life = Lifecycle.powerOn := by
    simp [State.region, hregions, State.reset, Vector.get_eq_getElem, Region.powerOn]
  have hview (k : Slot) : s.view k = none := by
    simp [State.view, hviews, State.reset, Vector.get_eq_getElem]
  refine ⟨fun j => hrun j ▸ .ended Runtime.powerOn, ⟨fun j hj => ?_, fun j x o hw => ?_⟩, fun k v hk => ?_,
    fun k v hk => ?_, fun k₁ _ v₁ _ h₁ => ?_, fun j b hb => ?_⟩
  · rw [hlife] at hj
    exact absurd rfl hj
  · rw [hlink] at hw
    cases hw
  · simp [hview] at hk
  · simp [hview] at hk
  · simp [hview] at h₁
  · rw [hrun] at hb
    cases b <;> simp [Runtime.powerOn, PerBank.get] at hb

/-- Settles O7: every update keeps the views on LIVE and HELD banks, while the banks that lost their last view are
still to be reported, and the views of a region that is being retired are still to be removed. -/
theorem viewsLawKept : Obligations.ViewsLawKept := by
  intro s t hroles hlife hviews hstep
  have h := keptViewed.step (s := s) (State.viewed_of_viewsLaw hroles hlife hviews) keptViewed_store
    (fun _ _ h => h.congr h.life (fun _ => rfl) (fun _ => rfl) (fun _ hj => hj) rfl)
    (fun _ _ => answers_next (State.viewed_of_reset rfl rfl rfl))
    (fun _ h => h.congr h.life (fun _ => rfl) (fun _ => rfl) (fun _ hj => hj) rfl) hstep
  exact ⟨h.roles, h.life, State.viewsLaw_of_viewed h⟩

end Sys2Proof.Machine


/-! SUPPORT. The frames of the management link: every command's frame reads back, a bad one is answered by its first
failing check, and what FETCH clocks out (R179 to R186). -/

namespace Sys2Proof.Machine

set_option Elab.async false

/-- Settles O1: a step is the front command's execution on the queue's rest. -/
theorem stepRunsFront : Obligations.StepRunsFront := fun _ _ _ => ⟨rfl, rfl⟩

end Sys2Proof.Machine

namespace Sys2Proof

open Machine

set_option Elab.async false

/-! ### Frames read back (R181, R185, R186) -/

theorem CommandCode.ofByte_byte (c : CommandCode) : CommandCode.ofByte c.byte = some c := by
  cases c <;> rfl

theorem CommandCode.payloadLength_le (c : CommandCode) : c.payloadLength ≤ 48 := by
  cases c <;> decide

/-- A frame with a payload of the command's length passes the frame checks (R185). -/
theorem decodeFrame_frameOf {c : CommandCode} {seq : Byte} {payload : List Byte}
    (hlen : payload.length = c.payloadLength) : decodeFrame (frameOf c seq payload) = decodePayload c seq payload := by
  have hshort := c.payloadLength_le
  have hbyte : (BitVec.ofNat 8 payload.length).toNat = c.payloadLength := by
    rw [BitVec.toNat_ofNat, hlen]
    omega
  have hlength : (frameOf c seq payload).length = 4 + c.payloadLength := by
    simp [frameOf, hlen]
    omega
  rw [frameOf, List.cons_append, List.cons_append, List.cons_append] at hlength ⊢
  rw [decodeFrame, if_pos ⟨hbyte.trans_le hshort, hlength.trans (congrArg (4 + ·) hbyte).symm⟩,
    List.dropLast_concat, List.getLast?_concat, if_pos rfl, CommandCode.ofByte_byte]
  exact if_pos hlen

theorem TimingRecord.ofBytes_toBytes (t : TimingRecord) : TimingRecord.ofBytes t.toBytes = t := by
  obtain ⟨tickDiv, holdWait, memoryWait, share, filters⟩ := t
  simp [TimingRecord.ofBytes, TimingRecord.toBytes, field16, byteAt, bytes16, join_bytes16]

theorem RegionRecord.length_toBytes (x : RegionRecord) : x.toBytes.length = 36 := by
  simp [RegionRecord.toBytes, bytes16, bytes24, bytes32]

theorem RegionRecord.ofBytes_toBytes (b : Byte) (x : RegionRecord) :
    RegionRecord.ofBytes (b :: x.toBytes) 1 = x := by
  obtain ⟨windowBase, lines, bankBBase, bankCBase, lineBase, writerTag, readerMask, commit, close, stamp, triggers,
    periodTicks, viewIdle, viewAge, noticeMask⟩ := x
  simp [RegionRecord.ofBytes, RegionRecord.toBytes, field16, field24, field32, byteAt, bytes16, bytes24, bytes32,
    join_bytes16, join_bytes24, join_bytes32]

/-- The option byte of READ_COUNTERS: the part in bit 0, the options above it (R195). -/
theorem optionByte_fields (o : BitVec 7) (b : BitVec 1) :
    (o ++ b).getLsbD 0 = b.getLsbD 0 ∧ (o ++ b).extractLsb' 1 7 = o := by
  revert o b
  decide

/-- The parts of a link command have the command's payload length, and are read as that command. -/
theorem decodePayload_linkParts {i : Instr} {c : CommandCode} {seq : Byte} {p : List Byte}
    (h : i.linkParts = some (c, seq, p)) : p.length = c.payloadLength ∧ decodePayload c seq p = .ok i := by
  cases i <;> simp only [Instr.linkParts, Option.some.injEq, Prod.mk.injEq, reduceCtorEq] at h <;>
    obtain ⟨rfl, rfl, rfl⟩ := h
  case setTiming q t => exact ⟨rfl, by rw [decodePayload, t.ofBytes_toBytes]⟩
  case writeRegion q r x => exact ⟨congrArg (· + 1) x.length_toBytes, by rw [decodePayload, x.ofBytes_toBytes]; rfl⟩
  case readCountersFirst q r o =>
    obtain ⟨hpart, hopts⟩ := optionByte_fields o 0#1
    refine ⟨rfl, ?_⟩
    rw [decodePayload, show byteAt [r, o ++ 0#1] 1 = o ++ 0#1 from rfl, hpart, hopts]
    rfl
  case readCountersRest q r o =>
    obtain ⟨hpart, hopts⟩ := optionByte_fields o 1#1
    refine ⟨rfl, ?_⟩
    rw [decodePayload, show byteAt [r, o ++ 1#1] 1 = o ++ 1#1 from rfl, hpart, hopts]
    rfl
  all_goals exact ⟨rfl, rfl⟩

/-- Settles O14: a command's frame passes the checks, and its payload is read as the command. -/
theorem frameRoundTrip : Obligations.FrameRoundTrip := by
  intro i frame h
  obtain ⟨⟨c, seq, p⟩, hparts, rfl⟩ := Option.map_eq_some_iff.mp h
  obtain ⟨hlen, hdecode⟩ := decodePayload_linkParts hparts
  exact (decodeFrame_frameOf hlen).trans hdecode

end Sys2Proof


namespace Sys2Proof

open Machine

set_option Elab.async false

/-! SUPPORT. The frame checks in their order (R185). -/

/-! ### A frame whose length is as it says -/

/-- The frame is shorter than a frame can be, or not as long as its length byte says (R185). -/
def lengthFails (frame : List Byte) : Prop :=
  frame.length < 4 ∨ 48 < (byteAt frame 2).toNat ∨ frame.length ≠ 4 + (byteAt frame 2).toNat

/-- A frame of the length that it says is three bytes, a payload and the CRC. -/
theorem frame_split {frame : List Byte} (h : ¬lengthFails frame) :
    ∃ code seq len payload crc, frame = code :: seq :: len :: (payload ++ [crc]) ∧ payload.length = len.toNat ∧
      len.toNat ≤ 48 := by
  simp only [lengthFails, not_or, not_lt, not_not] at h
  obtain ⟨hfour, hlen, hlength⟩ := h
  match frame, hfour with
  | code :: seq :: len :: last :: rest, _ =>
    obtain ⟨payload, crc, hsplit⟩ : ∃ payload crc, last :: rest = payload ++ [crc] :=
      ⟨_, _, (List.dropLast_append_getLast (List.cons_ne_nil last rest)).symm⟩
    have hbyte : byteAt (code :: seq :: len :: last :: rest) 2 = len := rfl
    rw [hbyte] at hlen hlength
    refine ⟨code, seq, len, payload, crc, by rw [hsplit], ?_, hlen⟩
    have hcount := congrArg List.length hsplit
    simp only [List.length_cons, List.length_append, List.length_nil] at hlength hcount
    omega

theorem decodeFrame_of_lengthFails {frame : List Byte} (h : lengthFails frame) :
    decodeFrame frame = .error ⟨.badLength, lengthDetail frame.length⟩ := by
  unfold decodeFrame
  split
  · rename_i code seq len rest
    rw [if_neg]
    rintro ⟨hlen, hlength⟩
    have hbyte : byteAt (code :: seq :: len :: rest) 2 = len := rfl
    rw [lengthFails, hbyte] at h
    omega
  · rfl

section
variable {code seq len crc : Byte} {payload : List Byte} (hlen : payload.length = len.toNat) (hshort : len.toNat ≤ 48)
include hlen hshort

theorem decodeFrame_split :
    decodeFrame (code :: seq :: len :: (payload ++ [crc])) =
      if crc = crc8 (code :: seq :: len :: payload) then
        match CommandCode.ofByte code with
        | none => .error ⟨.badCommand, 0x00#8⟩
        | some c =>
          if payload.length = c.payloadLength then decodePayload c seq payload
          else .error ⟨.badLength, lengthDetail (4 + len.toNat)⟩
      else .error ⟨.badCheck, crc8 (code :: seq :: len :: payload)⟩ := by
  have hlength : (code :: seq :: len :: (payload ++ [crc])).length = 4 + len.toNat := by
    simp only [List.length_cons, List.length_append, List.length_nil, hlen]
    omega
  rw [decodeFrame, if_pos ⟨hshort, hlength⟩, List.dropLast_concat, List.getLast?_concat, hlength]
  exact if_congr Option.some_inj rfl rfl

end

/-- The last byte of a frame, and what stands before it. -/
theorem frame_last (code seq len crc : Byte) (payload : List Byte) :
    byteAt (code :: seq :: len :: (payload ++ [crc])) ((code :: seq :: len :: (payload ++ [crc])).length - 1) = crc ∧
      (code :: seq :: len :: (payload ++ [crc])).take ((code :: seq :: len :: (payload ++ [crc])).length - 1) =
        code :: seq :: len :: payload := by
  have hsplit : code :: seq :: len :: (payload ++ [crc]) = (code :: seq :: len :: payload) ++ [crc] := rfl
  rw [hsplit, List.length_append, List.length_singleton, Nat.add_sub_cancel]
  exact ⟨by simp [byteAt], List.take_left⟩

theorem CommandCode.ofByte_eq_none {b : Byte} (h : ∀ c : CommandCode, c.byte ≠ b) : CommandCode.ofByte b = none := by
  simp [CommandCode.ofByte, h]

end Sys2Proof

namespace Sys2Proof.Machine

set_option Elab.async false

/-! ### The NAK of a bad frame (R185) -/

theorem exec_commandFrameRejected {frame : List Byte} {s : State} {n : Nak} (hwf : commandFrameWf frame = true)
    (h : s.Receiving) (hdecode : decodeFrame frame = .error n) :
    exec (.commandFrameRejected frame) s =
      .next (s.replied (nakOf (byteAt frame 1) n.reason.code n.detail)) := by
  show execCommandFrameRejected frame s = _
  unfold execCommandFrameRejected
  cases frame with
  | nil => cases hwf
  | cons code rest =>
    have hcode : (code == fetchCode) = false := by simpa [commandFrameWf] using hwf
    simp only [hcode, hdecode, Bool.false_eq_true, if_false, State.endFrame_executing h]
    rfl

/-- Settles O15: the first frame check that fails is the error of `decodeFrame`, and its NAK is all that the command
answers. -/
theorem frameRejected : Obligations.FrameRejected := by
  intro frame s hwf hrec
  have hnak {n : Nak} (h : decodeFrame frame = .error n) := exec_commandFrameRejected hwf hrec h
  refine ⟨fun hbad => hnak (decodeFrame_of_lengthFails hbad), fun hgood hcrc => ?_, fun hgood hcrc hcode => ?_,
    fun c hgood hcrc hcode => ⟨fun hlen => ?_, fun hlen hread hpart => ?_⟩⟩ <;>
    obtain ⟨code, seq, len, payload, crc, rfl, hpayload, hshort⟩ := frame_split hgood <;>
    obtain ⟨hlast, htake⟩ := frame_last code seq len crc payload <;> rw [hlast, htake] at hcrc
  · rw [htake]
    refine hnak (n := ⟨.badCheck, crc8 (code :: seq :: len :: payload)⟩) ?_
    rw [decodeFrame_split hpayload hshort]
    exact if_neg hcrc
  · refine hnak (n := ⟨.badCommand, 0x00#8⟩) ?_
    rw [decodeFrame_split hpayload hshort, if_pos (not_not.mp hcrc), CommandCode.ofByte_eq_none (b := code) hcode]
  · have hcode' : CommandCode.ofByte code = some c := by
      rw [← show c.byte = code from hcode]
      exact c.ofByte_byte
    have hlen' : ¬payload.length = c.payloadLength := by
      rw [hpayload]
      exact hlen
    have hdetail : lengthDetail (4 + len.toNat) =
        BitVec.ofNat 8 (code :: seq :: len :: (payload ++ [crc])).length := by
      simp only [lengthDetail, List.length_cons, List.length_append, List.length_nil, hpayload]
      congr 1
      omega
    rw [← hdetail]
    refine hnak (n := ⟨.badLength, _⟩) ?_
    rw [decodeFrame_split hpayload hshort, if_pos (not_not.mp hcrc), hcode']
    exact if_neg hlen'
  · subst hread
    have hcode' : CommandCode.ofByte code = some .readRegion := by
      rw [← show CommandCode.readRegion.byte = code from hcode]
      exact CommandCode.ofByte_byte _
    have htwo : payload.length = 2 := hpayload.trans hlen
    obtain ⟨region, part, rfl⟩ := List.length_eq_two.mp htwo
    have hpart' : 2 ≤ part.toNat := hpart
    refine hnak (n := outOfRange) ?_
    rw [decodeFrame_split hpayload hshort, if_pos (not_not.mp hcrc), hcode']
    have hzero : ¬part = 0#8 := by rintro rfl; simp at hpart'
    have hone : ¬part = 1#8 := by rintro rfl; simp at hpart'
    simp [CommandCode.payloadLength, decodePayload, byteAt, hzero, hone]

/-! ### The link between frames (R179, R182 to R184) -/

/-- Settles O16: the first byte of a frame and the end of a discarded one change the link alone. -/
theorem framesTakenAndDropped : Obligations.FramesTakenAndDropped := by
  refine ⟨fun s hdiscard hstate => ?_, fun s hdiscard hstate => ?_, fun s hdiscard => ?_, fun s hdiscard => ?_⟩
  · show execCommandFrameFirstByte s = _
    rcases hstate with hstate | hstate <;> simp [execCommandFrameFirstByte, hdiscard, hstate, State.setLink]
  · show execCommandFrameFirstByte s = _
    simp [execCommandFrameFirstByte, hdiscard, hstate, State.setLink]
  · show execCommandDropped s = _
    simp [execCommandDropped, hdiscard, State.setLink, Link.frameDropped, Link.frameEnded]
  · show execCommandDropped s = _
    simp [execCommandDropped, hdiscard]

theorem State.fetchFrame_eq {s : State} (hdiscard : s.link.discarding = false) (hstate : s.link.state ≠ .receiving)
    (clocked : Nat) : exec (.fetch clocked) s = .next (s.setLink (s.link.fetch clocked)) := by
  show execFetch clocked s = _
  simp [execFetch, State.fetchFrame, hdiscard, hstate]

theorem LinkResponse.length_bytes (x : LinkResponse) (dropped : Nat) :
    (x.bytes dropped).length = 7 + x.payload.length := by
  simp [LinkResponse.bytes]
  omega

/-- A list cut or filled with zeros to a length. -/
theorem byteAt_take_fill (l : List Byte) (n i : Nat) (hi : i < n) :
    byteAt (l.take n ++ List.replicate (n - l.length) 0x00#8) i = byteAt l i := by
  by_cases h : i < l.length
  · simp [byteAt, List.getD_eq_getElem?_getD, List.getElem?_append, hi, h]
  · have hle : l.length ≤ i := not_lt.mp h
    have hend : l.getD i 0x00#8 = 0x00#8 := List.getD_eq_default _ _ hle
    rw [byteAt, byteAt, hend, List.getD_append_right _ _ _ _ (by simp; omega), List.getD_eq_getElem?_getD,
      List.getElem?_getD_replicate_default_eq]

/-- Settles O17: FETCH clocks out what the slot's response gives and zeros after it. -/
theorem fetchResponse : Obligations.FetchResponse := by
  refine ⟨fun clocked s x hdiscard hstate hslot => ?_, fun clocked s hdiscard hstate => ?_⟩
  · have hbytes : s.link.fetchBytes = x.bytes s.link.dropped := by simp [Link.fetchBytes, hstate, hslot]
    have hlen := x.length_bytes s.link.dropped
    refine ⟨_, State.fetchFrame_eq hdiscard (by simp [hstate]) clocked,
      (x.bytes s.link.dropped).take clocked ++ List.replicate (clocked - (x.bytes s.link.dropped).length) 0x00#8,
      ?_, fun i hi => ?_, ?_⟩
    · simp
      omega
    · rw [byteAt_take_fill _ _ _ hi]
      rfl
    · have hne : (x.bytes s.link.dropped).isEmpty = false := rfl
      simp [State.setLink, Link.fetch, Link.frameEnded, hbytes, hne, hlen]
  · have hbytes : s.link.fetchBytes = [] := by
      rcases hstate with hstate | hstate <;> simp [Link.fetchBytes, hstate]
    rw [State.fetchFrame_eq hdiscard (by rcases hstate with h | h <;> simp [h])]
    simp [State.setLink, Link.fetch, Link.frameEnded, hbytes]

end Sys2Proof.Machine


/-! SUPPORT. The commands of the link that set the part up: SET_TIMING, SET_IRQ and WRITE_REGION, and what
READ_REGION answers (R172, R188 to R190, R194, R197). -/

namespace Sys2Proof

open Machine

set_option Elab.async false

/-! ### The first check that fails -/

/-- Where a check fails and all before it hold, it is the first one that fails. -/
theorem firstFailing_eq {l : List (Byte × Bool)} {i : Nat} {d : Byte} (hfail : l[i]? = some (d, false))
    (hbefore : ∀ (j : Nat) (e : Byte) (ok : Bool), j < i → l[j]? = some (e, ok) → ok = true) :
    firstFailing l = some d := by
  induction l generalizing i with
  | nil => simp at hfail
  | cons c l ih =>
    obtain ⟨e, ok⟩ := c
    cases i with
    | zero =>
      obtain ⟨rfl, rfl⟩ : e = d ∧ ok = false := by simpa using hfail
      rfl
    | succ i =>
      obtain rfl : ok = true := hbefore 0 e ok i.succ_pos rfl
      exact ih (i := i) hfail fun j e ok hj hget => hbefore (j + 1) e ok (Nat.succ_lt_succ hj) hget

/-- Where all checks hold, none fails. -/
theorem firstFailing_eq_none {l : List (Byte × Bool)} (h : ∀ c ∈ l, c.2 = true) : firstFailing l = none := by
  simpa [firstFailing] using h

/-! ### Timing settings (R188) -/

/-- The setting of a two-bit field, by its count. -/
theorem Filter.count_ofBits (b : BitVec 2) : (Filter.ofBits b).count = [0, 4, 16, 64].getD b.toNat 0 := by
  revert b; decide

theorem Timing.filters_ofRecord (x : TimingRecord) (i : Fin 4) :
    ((Timing.ofRecord x).filters.get i).count = [0, 4, 16, 64].getD (x.filters.toNat / 4 ^ i.val % 4) 0 := by
  have hpow : 2 ^ (2 * i.val) = 4 ^ i.val := Nat.pow_mul 2 2 i.val
  simp [Timing.ofRecord, Vector.get_eq_getElem, Filter.count_ofBits, BitVec.extractLsb'_toNat,
    Nat.shiftRight_eq_div_pow, hpow]

/-! ### Offset fields (R189, R197) -/

theorem offsetMark_iff (w : BitVec 16) : offsetMark w = true ↔ 0x8000 ≤ w.toNat := by
  have hw := w.isLt
  simp only [offsetMark, BitVec.getLsbD, Nat.testBit_eq_decide_div_mod_eq, decide_eq_true_eq]
  omega

theorem offsetWord_eq (w : BitVec 16) : offsetWord w = w.toNat % 0x1000 := by
  simp [offsetWord, BitVec.extractLsb'_toNat]

theorem offsetSpare_iff (w : BitVec 16) : offsetSpare w = true ↔ w.toNat / 0x1000 % 8 = 0 := by
  simp [offsetSpare, ← BitVec.toNat_inj, BitVec.extractLsb'_toNat, Nat.shiftRight_eq_div_pow]

theorem optionOk_iff (x : RegionRecord) (w : BitVec 16) :
    optionOk x w = true ↔ offsetMeets w (x.lines.toNat * 16) := by
  have hw := w.isLt
  by_cases hmark : offsetMark w = true
  · have hpresent := (offsetMark_iff w).mp hmark
    simp only [optionOk, hmark, if_true, Bool.and_eq_true, offsetSpare_iff, wordOk, offsetWord_eq,
      decide_eq_true_eq, offsetMeets]
    omega
  · have habsent := mt (offsetMark_iff w).mpr hmark
    simp only [optionOk, hmark, if_false, Bool.false_eq_true, beq_iff_eq, offsetMeets, ← BitVec.toNat_inj,
      BitVec.ofNat_eq_ofNat, BitVec.toNat_zero]
    omega

/-- The word of an offset that may be absent, where its check holds. -/
theorem offsetOption_of_meets {w : BitVec 16} {words : Nat} (h : offsetMeets w words) :
    offsetOption w = wordOf w := by
  simp only [offsetOption, wordOf, offsetMark_iff, offsetWord_eq]
  refine ite_congr rfl (fun hpresent => congrArg some ?_) fun _ => rfl
  rw [offsetMeets] at h
  omega

theorem closeOk_iff {x : RegionRecord} (hlines : x.lines.toNat ≤ 256) : closeOk x = true ↔ meets x 10 := by
  have hw := x.closeOffset.isLt
  simp only [closeOk, Bool.and_eq_true, Bool.or_eq_true, offsetSpare_iff, offsetMark_iff, wordOk, offsetWord_eq,
    decide_eq_true_eq, meets]
  omega

theorem stampOk_iff {x : RegionRecord} (hcommit : meets x 9) : stampOk x = true ↔ meets x 11 := by
  have hw := x.stampOffset.isLt
  have hc := x.commitOffset.isLt
  simp only [meets, offsetMeets] at hcommit
  have hmark {w : BitVec 16} : offsetMark w = false ↔ ¬0x8000 ≤ w.toNat := by
    rw [← offsetMark_iff, Bool.not_eq_true]
  simp only [stampOk, Bool.and_eq_true, optionOk_iff, Bool.not_eq_true', Bool.and_eq_false_iff, hmark,
    offsetWord_eq, beq_eq_false_iff_ne, meets, offsetMeets, ne_eq, ← BitVec.toNat_inj]
  omega

/-! ### The checks of WRITE_REGION (R189) -/

theorem baseOk_iff (x : RegionRecord) (base : Word) :
    baseOk x base = true ↔ base.toNat % 64 = 0 ∧ base.toNat + x.lines.toNat * 64 ≤ 2 ^ 32 := by
  simp [baseOk]

theorem getLsbD_iff_div_mod {n : Nat} (w : BitVec n) (i : Nat) : w.getLsbD i = true ↔ w.toNat / 2 ^ i % 2 = 1 := by
  rw [BitVec.getLsbD, Nat.testBit_eq_decide_div_mod_eq, decide_eq_true_eq]

theorem triggersOk_iff (x : RegionRecord) : triggersOk x = true ↔ meets x 12 := by
  have hw := x.triggers.isLt
  have hbit {n : Nat} (w : BitVec n) (i : Nat) : w.getLsbD i = false ↔ ¬w.toNat / 2 ^ i % 2 = 1 := by
    rw [← getLsbD_iff_div_mod, Bool.not_eq_true]
  simp only [triggersOk, Bool.and_eq_true, Bool.or_eq_true, Bool.not_eq_true', hbit, offsetMark_iff, meets,
    getLsbD_iff_div_mod]
  by_cases hstrobe : x.triggers.toNat / 4 % 2 = 1
  · simp only [Nat.reducePow, if_pos hstrobe]
    simp only [bne_iff_ne, ne_eq, ← BitVec.toNat_inj, BitVec.extractLsb'_toNat, Nat.shiftRight_eq_div_pow,
      BitVec.ofNat_eq_ofNat, BitVec.toNat_zero]
    omega
  · simp only [Nat.reducePow, if_neg hstrobe]
    simp only [beq_iff_eq, ← BitVec.toNat_inj, BitVec.extractLsb'_toNat, Nat.shiftRight_eq_div_pow,
      BitVec.ofNat_eq_ofNat, BitVec.toNat_zero]
    omega

theorem ticks20Ok_iff (w : BitVec 24) : ticks20Ok w = true ↔ 1 ≤ w.toNat ∧ w.toNat ≤ 1048575 := by
  simp only [ticks20Ok, Bool.and_eq_true, decide_eq_true_eq]
  omega

theorem areasDisjoint_iff (x : RegionRecord) (a b : Word) :
    areasDisjoint x a b = true ↔ apart a b (x.lines.toNat * 64) := by
  simp only [areasDisjoint, overlaps, Bool.not_eq_true', Bool.and_eq_false_iff, decide_eq_false_iff_not, apart]
  omega

theorem noticeMask_iff (w : BitVec 16) : (w.extractLsb' 12 4 == 0) = true ↔ w.toNat < 4096 := by
  have hw := w.isLt
  simp only [beq_iff_eq, ← BitVec.toNat_inj, BitVec.extractLsb'_toNat, Nat.shiftRight_eq_div_pow,
    BitVec.ofNat_eq_ofNat, BitVec.toNat_zero]
  omega

/-- Check `d` of WRITE_REGION stands at place `d - 2` of the list, with its detail, and says what R189 says, where
the checks before it hold. -/
theorem regionChecks_meets {x : RegionRecord} {d : Nat} (hlow : 2 ≤ d) (hhigh : d ≤ 17)
    (hbefore : ∀ e, 2 ≤ e → e < d → meets x e) :
    ∃ ok : Bool, (regionChecks x)[d - 2]? = some (BitVec.ofNat 8 d, ok) ∧ (ok = true ↔ meets x d) := by
  interval_cases d
  · exact ⟨_, rfl, by simp [meets]⟩
  · exact ⟨_, rfl, baseOk_iff x _⟩
  · exact ⟨_, rfl, baseOk_iff x _⟩
  · exact ⟨_, rfl, baseOk_iff x _⟩
  · exact ⟨_, rfl, decide_eq_true_iff⟩
  · exact ⟨_, rfl, decide_eq_true_iff⟩
  · exact ⟨_, rfl, by simp [meets]⟩
  · exact ⟨_, rfl, optionOk_iff x _⟩
  · exact ⟨_, rfl, closeOk_iff (hbefore 2 (by decide) (by decide)).2⟩
  · exact ⟨_, rfl, stampOk_iff (hbefore 9 (by decide) (by decide))⟩
  · exact ⟨_, rfl, triggersOk_iff x⟩
  · exact ⟨_, rfl, ticks20Ok_iff _⟩
  · exact ⟨_, rfl, decide_eq_true_iff⟩
  · exact ⟨_, rfl, ticks20Ok_iff _⟩
  · exact ⟨_, rfl, noticeMask_iff _⟩
  · exact ⟨_, rfl, by simp only [Bool.and_eq_true, areasDisjoint_iff, and_assoc, meets]⟩

end Sys2Proof

namespace Sys2Proof

open Machine

set_option Elab.async false

/-! ### The configuration that a record stores (R2, R189, R197) -/

theorem EdgeSelect.ofBits_eq {b : BitVec 2} (h : b.toNat ≠ 0) : EdgeSelect.ofBits b = some (edgeOf b.toNat) := by
  revert b; decide

theorem strobeOf_of_meets {x : RegionRecord} (h : meets x 12) :
    strobeOf x.triggers =
      if x.triggers.toNat / 4 % 2 = 1 then
        some (Fin.ofNat 4 (x.triggers.toNat / 8 % 4), edgeOf (x.triggers.toNat / 32 % 4))
      else none := by
  obtain ⟨hshort, -, hedge⟩ := h
  simp only [strobeOf, getLsbD_iff_div_mod, Nat.reducePow]
  split
  · rename_i hstrobe
    rw [if_pos hstrobe] at hedge
    have hcode : (x.triggers.extractLsb' 5 2).toNat = x.triggers.toNat / 32 % 4 := by
      simp [BitVec.extractLsb'_toNat, Nat.shiftRight_eq_div_pow]
    have hline : (x.triggers.extractLsb' 3 2).toFin = Fin.ofNat 4 (x.triggers.toNat / 8 % 4) := by
      apply Fin.ext
      simp [Nat.shiftRight_eq_div_pow]
    rw [EdgeSelect.ofBits_eq (by rw [hcode]; omega), hcode, hline]
    rfl
  · rfl

/-- An accepted record is stored as R1 and R2 have it. -/
theorem RegionConfig.ofRecord_of_accepted {x : RegionRecord} (h : accepted x) : RegionConfig.ofRecord x = stores x := by
  have hclose : offsetMark x.closeOffset = false → offsetWord x.closeOffset = x.closeOffset.toNat := by
    intro hmark
    rw [← Bool.not_eq_true, offsetMark_iff] at hmark
    have hlines : x.lines.toNat ≤ 256 := (h 2).2
    have hmeets : 0x8000 ≤ x.closeOffset.toNat ∧ _ ∨ x.closeOffset.toNat < x.lines.toNat * 16 := h 10
    rw [offsetWord_eq]
    omega
  have hbit (i : Nat) : x.triggers.getLsbD i = decide (x.triggers.toNat / 2 ^ i % 2 = 1) := by
    rw [Bool.eq_iff_iff, getLsbD_iff_div_mod, decide_eq_true_eq]
  have hmark : (offsetMark x.closeOffset = true) = (0x8000 ≤ x.closeOffset.toNat) :=
    propext (offsetMark_iff _)
  have hcloses : (if offsetMark x.closeOffset = true then x.lines.toNat * 16 - 1 else offsetWord x.closeOffset) =
      if 0x8000 ≤ x.closeOffset.toNat then x.lines.toNat * 16 - 1 else x.closeOffset.toNat :=
    ite_congr hmark (fun _ => rfl) fun hlow => hclose (by rwa [← Bool.not_eq_true, offsetMark_iff])
  simp only [RegionConfig.ofRecord, stores, tagOf, offsetOption_of_meets (h 9), offsetOption_of_meets (h 11).1,
    strobeOf_of_meets (h 12), hbit, hcloses, Nat.reducePow, Nat.div_one]

/-! ### The record of a stored configuration (R2, R197) -/

theorem join_offset (w : BitVec 16) : w.extractLsb' 15 1 ++ (w.extractLsb' 12 3 ++ w.extractLsb' 0 12) = w := by
  rw [BitVec.extractLsb'_append_extractLsb'_eq_extractLsb' (show 12 = 0 + 12 from rfl),
    BitVec.extractLsb'_append_extractLsb'_eq_extractLsb' (show 15 = 0 + 15 from rfl)]
  exact BitVec.extractLsb'_eq_self

theorem offsetField_wordOf {w : BitVec 16} {words : Nat} (h : offsetMeets w words) : offsetField (wordOf w) = w := by
  have hw := w.isLt
  rw [offsetMeets] at h
  by_cases hpresent : 0x8000 ≤ w.toNat
  · have hmark : w.extractLsb' 15 1 = 1#1 := by
      apply BitVec.eq_of_toNat_eq
      simp [BitVec.extractLsb'_toNat, Nat.shiftRight_eq_div_pow]
      omega
    have hspare : w.extractLsb' 12 3 = 0#3 := by
      apply BitVec.eq_of_toNat_eq
      simp [BitVec.extractLsb'_toNat, Nat.shiftRight_eq_div_pow]
      omega
    have hword : w.extractLsb' 0 12 = BitVec.ofNat 12 (w.toNat - 0x8000) := by
      apply BitVec.eq_of_toNat_eq
      simp [BitVec.extractLsb'_toNat]
      omega
    have hjoin := join_offset w
    rw [hmark, hspare, hword] at hjoin
    rw [wordOf, if_pos hpresent]
    exact hjoin
  · rw [wordOf, if_neg hpresent, offsetField]
    apply BitVec.eq_of_toNat_eq
    simp
    omega

/-- The TRIGGERS byte reads back where its check holds. -/
theorem triggersByte_eq (t : Byte) (hshort : t.toNat < 128)
    (hedge : if t.toNat / 4 % 2 = 1 then t.toNat / 32 ≠ 0 else t.toNat / 8 = 0) :
    0#1 ++ (strobeBits (if t.toNat / 4 % 2 = 1 then
        some (Fin.ofNat 4 (t.toNat / 8 % 4), edgeOf (t.toNat / 32 % 4)) else none) ++
      (BitVec.ofBool (if t.toNat / 4 % 2 = 1 then
          some ((Fin.ofNat 4 (t.toNat / 8 % 4) : Fin 4), edgeOf (t.toNat / 32 % 4)) else none).isSome ++
        (BitVec.ofBool (decide (t.toNat / 2 % 2 = 1)) ++ BitVec.ofBool (decide (t.toNat % 2 = 1))))) = t := by
  revert t
  decide

theorem triggersByte_stores {x : RegionRecord} (h : meets x 12) : (stores x).triggersByte = x.triggers :=
  triggersByte_eq _ h.1 h.2.2

/-- The record of the configuration that an accepted record stores is that record, with CLOSE_OFFSET as a number. -/
theorem toRecord_stores {x : RegionRecord} (h : accepted x) :
    (stores x).toRecord =
      { x with
        closeOffset :=
          if 0x8000 ≤ x.closeOffset.toNat then BitVec.ofNat 16 (x.lines.toNat * 16 - 1) else x.closeOffset } := by
  have htag : BitVec.ofNat 8 (x.writerTag.toNat % 16) = x.writerTag := by
    have hshort : x.writerTag.toNat < 16 := h 7
    rw [Nat.mod_eq_of_lt hshort, BitVec.ofNat_toNat, BitVec.setWidth_eq]
  rw [RegionConfig.toRecord, triggersByte_stores (h 12)]
  simp only [stores, offsetField_wordOf (h 9), offsetField_wordOf (h 11).1, Fin.val_ofNat, htag]
  split <;> simp

end Sys2Proof

namespace Sys2Proof.Machine

set_option Elab.async false

/-! ### SET_TIMING and SET_IRQ (R172, R188, R194) -/

section
variable {s : State} (hrec : s.Receiving) {seq : Byte}
include hrec

theorem exec_setTiming_rejected {x : TimingRecord} {d : Byte} (h : firstFailing (timingChecks x) = some d) :
    exec (.setTiming seq x) s = .next (s.replied (nakOf seq 4#8 d)) := by
  show execSetTiming seq x s = _
  rw [execSetTiming, State.endFrame_executing hrec, State.setTiming, h]
  rfl

theorem exec_setTiming_accepted {x : TimingRecord} (h : firstFailing (timingChecks x) = none) :
    exec (.setTiming seq x) s =
      .next ({ s with clock := { s.clock with timing := Timing.ofRecord x, prescaler := 0 } }.replied
        (ackOf seq [])) := by
  show execSetTiming seq x s = _
  rw [execSetTiming, State.endFrame_executing hrec, State.setTiming, h]
  rfl

end

/-- Settles O20: the first field out of range is the first check of `timingChecks` that fails. -/
theorem timingStored : Obligations.TimingStored := by
  intro seq x s hrec
  have hfail {d : Byte} (h : firstFailing (timingChecks x) = some d) := exec_setTiming_rejected hrec (seq := seq) h
  refine ⟨fun hdiv => hfail ?_, fun hdiv hhold => hfail ?_, fun hdiv hhold hmem => hfail ?_,
    fun hdiv hhold hmem hshare => hfail ?_, fun hdiv hhold hmem hshare => ?_⟩
  · simp [firstFailing, timingChecks]
    omega
  · simp [firstFailing, timingChecks, hdiv, hhold]
  · simp [firstFailing, timingChecks, hdiv, hhold, hmem]
  · simp [firstFailing, timingChecks, hdiv, hhold, hmem]
    omega
  · refine ⟨(Timing.ofRecord x).filters, Timing.filters_ofRecord x, exec_setTiming_accepted hrec ?_⟩
    simp [firstFailing, timingChecks, hdiv, hhold, hmem, hshare]

/-- Settles O21: the argument decides between the NAK and the interrupt enable, and IRQ_N follows it. -/
theorem interruptSet : Obligations.InterruptSet := by
  intro seq value s hrec
  have hexec : exec (.setIrq seq value) s = .next (s.executing.setIrq seq value) := by
    show execSetIrq seq value s = _
    rw [execSetIrq, State.endFrame_executing hrec]
  rw [hexec]
  refine ⟨?_, ?_, fun hzero hone => ?_⟩
  · rintro rfl
    rfl
  · rintro rfl
    have hirq : decide (s.notices.queue ≠ []) = !s.notices.queue.isEmpty := by
      cases s.notices.queue <;> rfl
    rw [hirq]
    rfl
  · rw [State.setIrq, if_neg (not_or.mpr ⟨hzero, hone⟩)]
    rfl

/-! ### WRITE_REGION (R189) -/

section
variable {s : State} (hrec : s.Receiving) {seq region : Byte} {x : RegionRecord}
include hrec

theorem exec_writeRegion_of_receiving :
    exec (.writeRegion seq region x) s = .next (s.executing.writeRegion seq region x) := by
  show execWriteRegion seq region x s = _
  rw [execWriteRegion, State.endFrame_executing hrec]

end

/-- Settles O24: index, phase and checks, in the order of `State.writeRegion`, decide between the NAK and the
record stored. -/
theorem regionWritten : Obligations.RegionWritten := by
  intro seq region x s hrec
  rw [exec_writeRegion_of_receiving hrec]
  refine ⟨fun habove => ?_, fun r hr => ⟨fun hphase => ?_, fun hphase => ⟨fun d hlow hhigh hmet hfail => ?_,
    fun hmeets => ?_⟩⟩⟩
  · rw [State.writeRegion, regionOf_of_le habove]
    rfl
  · have hactive : (s.executing.phase r).active = true := Phase.active_of_ne hphase
    rw [State.writeRegion, regionOf_of_toNat hr]
    simp only [hactive, if_true]
    rfl
  · have hactive : (s.executing.phase r).active = false := by
      simp [show s.executing.phase r = .disabled from hphase, Phase.active]
    obtain ⟨ok, hget, hok⟩ := regionChecks_meets hlow hhigh hmet
    obtain rfl : ok = false := by simpa [hfail] using hok
    have hfirst : firstFailing (regionChecks x) = some (BitVec.ofNat 8 d) := by
      refine firstFailing_eq hget fun j e ok hj hget => ?_
      obtain ⟨ok', hget', hok'⟩ := regionChecks_meets (x := x) (d := j + 2) (by omega) (by omega)
        fun e hlow he => hmet e hlow (by omega)
      obtain rfl : ok' = ok := congrArg Prod.snd (Option.some.inj (hget'.symm.trans hget))
      exact hok'.mpr (hmet (j + 2) (by omega) (by omega))
    rw [State.writeRegion, regionOf_of_toNat hr]
    simp only [hactive, Bool.false_eq_true, if_false, hfirst]
    rfl
  · have hactive : (s.executing.phase r).active = false := by
      simp [show s.executing.phase r = .disabled from hphase, Phase.active]
    have hnone : firstFailing (regionChecks x) = none := by
      refine firstFailing_eq_none fun c hc => ?_
      obtain ⟨i, hi, rfl⟩ := List.getElem_of_mem hc
      have hlen : (regionChecks x).length = 16 := rfl
      obtain ⟨ok, hget, hok⟩ := regionChecks_meets (x := x) (d := i + 2) (by omega) (by omega)
        fun e _ _ => hmeets e
      rw [Nat.add_sub_cancel, List.getElem?_eq_getElem hi] at hget
      rw [Option.some.inj hget]
      exact hok.mpr (hmeets _)
    rw [State.writeRegion, regionOf_of_toNat hr]
    simp only [hactive, Bool.false_eq_true, if_false, hnone]
    rw [← RegionConfig.ofRecord_of_accepted hmeets]
    rfl

/-! ### READ_REGION (R190, R197) -/

section
variable {s : State} (hrec : s.Receiving) {seq region : Byte}
include hrec

theorem exec_readRegionConfig_rejected (h : 16 ≤ region.toNat) :
    exec (.readRegionConfig seq region) s = .next (s.replied (nakOf seq 4#8 0xFF#8)) := by
  show execReadRegionConfig seq region s = _
  rw [execReadRegionConfig, State.endFrame_executing hrec, State.withRegion, regionOf_of_le h]
  rfl

theorem exec_readRegionConfig_accepted {r : RegionIx} (h : region.toNat = r.val) :
    exec (.readRegionConfig seq region) s = .next (s.replied (ackOf seq (s.region r).configPayload)) := by
  show execReadRegionConfig seq region s = _
  rw [execReadRegionConfig, State.endFrame_executing hrec, State.withRegion, regionOf_of_toNat h]
  rfl

theorem exec_readRegionState_rejected (h : 16 ≤ region.toNat) :
    exec (.readRegionState seq region) s = .next (s.replied (nakOf seq 4#8 0xFF#8)) := by
  show execReadRegionState seq region s = _
  rw [execReadRegionState, State.endFrame_executing hrec, State.withRegion, regionOf_of_le h]
  rfl

theorem exec_readRegionState_accepted {r : RegionIx} (h : region.toNat = r.val) :
    exec (.readRegionState seq region) s = .next (s.replied (ackOf seq (s.statePayload r))) := by
  show execReadRegionState seq region s = _
  rw [execReadRegionState, State.endFrame_executing hrec, State.withRegion, regionOf_of_toNat h]
  rfl

end

/-- Settles O25: the payload is the WRITTEN flag and the record of the configuration, and the record of a stored
configuration is the one that was written. -/
theorem configurationReadBack : Obligations.ConfigurationReadBack := by
  intro seq region s hrec
  refine ⟨fun habove => exec_readRegionConfig_rejected hrec habove, fun r hr => ?_⟩
  rw [exec_readRegionConfig_accepted hrec hr]
  refine ⟨⟨_, rfl, ?_, rfl⟩, fun x hx hwritten hconfig => ?_⟩
  · simp [Region.configPayload, RegionRecord.length_toBytes]
  · have hstored : (s.region r).config = stores x := hconfig
    rw [Region.configPayload, hwritten, hstored, toRecord_stores hx]
    rfl

end Sys2Proof.Machine


/-! SUPPORT. The conditions of publication as statements about lines, entries and views, the notice raised, and the
state record of READ_REGION (R29, R32, R166 to R170, R197). -/

namespace Sys2Proof.Machine

set_option Elab.async false

/-! ### The publication conditions (R29, R32) -/

section
variable {s : State} {r : RegionIx}

theorem State.condA_iff :
    s.condA r = true ↔ ∀ n : Nat, n < (s.config r).lines →
      (s.line ((s.config r).lineBase + n)).stale.get (s.run r).draftBank = false := by
  simp [State.condA, State.staleCount, RegionConfig.lineIxs]

theorem State.condB_iff : s.condB r = true ↔ (s.run r).inFlight = 0 := by simp [State.condB]

theorem State.draftEntries_eq_zero_iff :
    s.draftEntries r = 0 ↔ ∀ e ∈ s.park.entries, e.region = r → e.frameTag ≠ (s.run r).frame + 1 := by
  simp [State.draftEntries, Runtime.draftFrame]

theorem State.condC_iff :
    s.condC r = true ↔ ∀ e ∈ s.park.entries, e.region = r → e.frameTag ≠ (s.run r).frame + 1 := by
  rw [State.condC, beq_iff_eq, State.draftEntries_eq_zero_iff]

theorem State.draftComplete_iff : s.DraftComplete r ↔ (s.condA r && s.condB r && s.condC r) = true := by
  simp only [State.DraftComplete, Bool.and_eq_true, State.condA_iff, State.condB_iff, State.condC_iff, and_assoc]

theorem State.bankAvailable_iff : s.BankAvailable r ↔ s.condD r = true := by
  simp only [State.BankAvailable, State.condD, Bool.or_eq_true, Bool.not_eq_true', beq_iff_eq, ← State.viewed_iff,
    Bool.not_eq_true]

theorem State.draftEmpty_iff : s.DraftEmpty r ↔ s.isEmptyDraft r = true := by
  simp only [State.DraftEmpty, State.isEmptyDraft, Bool.and_eq_true, beq_iff_eq, State.draftEntries_eq_zero_iff,
    and_assoc]

theorem State.canPublish_iff : s.canPublish r = true ↔ s.DraftComplete r ∧ s.BankAvailable r := by
  rw [State.draftComplete_iff, State.bankAvailable_iff, State.canPublish, Bool.and_eq_true]

end

/-! ### A notice raised (R166, R168, R170, R172) -/

/-- A notice of a kind that NOTICE_MASK lets through is queued, and any other leaves no trace. -/
theorem NoticeUnit.raised_eq (u : NoticeUnit) (c : RegionConfig) (n : Notice) :
    u.raised c.noticeMask n = if noticeTaken c n.kind then u.enqueue n else u := by
  have htaken : noticeTaken c n.kind = true ↔
      ¬(n.kind ≠ .faulted ∧ n.kind ≠ .retired ∧ c.noticeMask.getLsbD (n.kind.code - 1) = false) := by
    simp only [noticeTaken, Bool.or_eq_true, beq_iff_eq, ← Bool.not_eq_true]
    tauto
  have hqueued : u.enqueue n =
      if u.queue.length < 64 then { u with queue := u.queue ++ [n], irqAsserted := u.irqEnabled }
      else { u with lost := true } := by
    have hne : (u.queue ++ [n]).isEmpty = false := by simp
    simp [NoticeUnit.enqueue, NoticeUnit.driveIrq, Config.noticeCapacity, hne]
  unfold NoticeUnit.raised
  by_cases h : noticeTaken c n.kind = true
  · rw [if_pos h, if_neg (htaken.mp h), hqueued]
  · rw [if_neg h, if_pos (not_not.mp (mt htaken.mpr h))]

theorem State.raiseNotice_eq (s : State) (r : RegionIx) (k : NoticeKind) (tag : Option Tag) (detail : BitVec 16) :
    s.raiseNotice r k tag detail =
      s.setNotices (s.notices.raised (s.config r).noticeMask (s.noticeOf r k tag detail)) := by
  rw [NoticeUnit.raised_eq]
  unfold State.raiseNotice
  split
  · rename_i h
    rw [if_pos (show noticeTaken (s.config r) (s.noticeOf r k tag detail).kind = true from h)]
    rfl
  · rename_i h
    rw [if_neg (show ¬noticeTaken (s.config r) (s.noticeOf r k tag detail).kind = true from h)]
    rfl

/-! ### READ_REGION STATE (R33, R65, R89, R197) -/

/-- Two flags in the low bits of a byte. -/
theorem flagBits (a b : Bool) :
    (BitVec.ofNat 8 (a.toNat + 2 * b.toNat)).getLsbD 0 = a ∧ (BitVec.ofNat 8 (a.toNat + 2 * b.toNat)).getLsbD 1 = b := by
  revert a b; decide

/-- The fields of the state record. -/
theorem stateRecord_fields (t : Runtime) (x : Lifecycle) (m : Computed) :
    let p := stateRecord t x m
    p.length = 37 ∧ byteAt p 0 = t.phase.code ∧ byteAt p 1 = BitVec.ofNat 8 (m.fill.toNat + 2 * m.held.toNat) ∧
      byteAt p 2 = t.roles.a.code ∧ byteAt p 3 = t.roles.b.code ∧ byteAt p 4 = t.roles.c.code ∧
      byteAt p 5 = BitVec.ofNat 8 (t.followOn.toNat + 2 * t.heldNotice.toNat) ∧
      field32 p 6 = t.frame ∧ field32 p 10 = t.bankFrames.a ∧ field32 p 14 = t.bankFrames.b ∧
      field32 p 18 = t.bankFrames.c ∧ byteAt p 22 = BitVec.ofNat 8 t.inFlight ∧
      field16 p 23 = BitVec.ofNat 16 t.dirtyLines ∧ field16 p 25 = BitVec.ofNat 16 m.stale ∧
      byteAt p 27 = BitVec.ofNat 8 m.parked ∧ byteAt p 28 = x.cause.code ∧
      byteAt p 29 = BitVec.ofNat 8 x.faultLine ∧ byteAt p 30 = x.stage.code ∧
      field16 p 31 = BitVec.ofNat 16 x.foldsOutstanding ∧ field16 p 33 = BitVec.ofNat 16 x.linesFolded ∧
      field16 p 35 = BitVec.ofNat 16 x.linesUnfolded := by
  simp [stateRecord, field16, field32, byteAt, bytes16, bytes32, join_bytes16, join_bytes32]

/-- The stale-line count of R65: in the DRAFT bank, or in bank A of a retiring region. -/
theorem State.staleLines_eq (s : State) (r : RegionIx) :
    s.staleLines r =
      if s.phase r = .disabled then 0
      else
        (List.range (s.config r).lines).countP fun n =>
          (s.line ((s.config r).lineBase + n)).stale.get
            (if s.phase r = .retiring then .bankA else (s.run r).draftBank) := by
  have hcount (b : Bank) : s.staleCount r b = (List.range (s.config r).lines).countP fun n =>
      (s.line ((s.config r).lineBase + n)).stale.get b := by
    rw [State.staleCount, RegionConfig.lineIxs, List.countP_map]
    rfl
  unfold State.staleLines
  cases s.phase r <;> simp [hcount]

/-- Settles O26: the record's bytes are the fields of `stateRecord`, and what it computes is what R33, R65 and R89
count. -/
theorem stateReadOut : Obligations.StateReadOut := by
  intro seq region s hrec
  refine ⟨fun habove => exec_readRegionState_rejected hrec habove, fun r hr => ?_⟩
  obtain ⟨hlen, hphase, hreasons, hA, hB, hC, hflags, hframe, hframeA, hframeB, hframeC, hflight, hdirty, hstale,
    hparked, hcause, hline, hstage, hfolds, hfolded, hunfolded⟩ := stateRecord_fields (s.run r) (s.region r).life
      ⟨s.reasonFill r, s.reasonHeld r, s.staleLines r, s.parkedCount r⟩
  obtain ⟨hfill, hheld⟩ := flagBits (s.reasonFill r) (s.reasonHeld r)
  obtain ⟨hfollow, hnoted⟩ := flagBits (s.run r).followOn (s.run r).heldNotice
  refine ⟨s.statePayload r, exec_readRegionState_accepted hrec hr, hlen, hphase, ?_, ?_, hA, hB, hC, ?_, ?_, hframe,
    hframeA, hframeB, hframeC, hflight, hdirty, ?_, hparked, hcause, hline, hstage, hfolds, hfolded, hunfolded⟩
  · rw [State.statePayload, hreasons, hfill, State.reasonFill, State.draftComplete_iff, Bool.and_eq_true, beq_iff_eq,
      Bool.not_eq_true', Bool.not_eq_true]
    rfl
  · rw [State.statePayload, hreasons, hheld, State.reasonHeld, State.bankAvailable_iff, Bool.and_eq_true, beq_iff_eq,
      Bool.not_eq_true', Bool.not_eq_true]
    rfl
  · rw [State.statePayload, hflags, hfollow]
  · rw [State.statePayload, hflags, hnoted]
  · rw [State.statePayload, hstale, State.staleLines_eq]
    rfl

end Sys2Proof.Machine


/-! SUPPORT. Power-on, the stops by name, and what a NAK leaves as it stands (R135, R137, R153, R185; log 18). -/

namespace Sys2Proof.Machine

set_option Elab.async false

/-! ### Power-on (R135) -/

theorem State.reset_region (r : RegionIx) : State.reset.region r = .powerOn := by
  simp [State.region, State.reset, Vector.get_eq_getElem]

theorem State.reset_view (k : Slot) : State.reset.view k = none := by
  simp [State.view, State.reset, Vector.get_eq_getElem]

theorem State.line_of_empty {s : State} (h : s.catchup = .empty) (ix : Nat) :
    s.line ix = ⟨⟨false, false, false⟩, false, false, false⟩ := by
  simp [State.line, h, Catchup.empty, LineEntry.clear]

theorem cleared_toBytes : RegionConfig.cleared.toRecord.toBytes = List.replicate 36 0x00#8 := by decide

/-- Settles O3: POWER_ON answers the reset state, block by block. -/
theorem powerOnState : Obligations.PowerOnState := by
  intro s
  let t : State :=
    { State.reset with
      host := { State.reset.host with resetAsserted := s.host.resetAsserted }, pending := s.pending }
  have hregion (r : RegionIx) : t.region r = .powerOn := State.reset_region r
  refine ⟨t, rfl, fun r => ?_, State.reset_view, State.line_of_empty rfl, rfl, rfl, rfl, rfl, rfl, rfl, fun i => ?_,
    rfl, rfl, rfl, rfl, rfl, rfl, rfl, rfl, rfl⟩
  · simp only [State.config, State.run, hregion]
    exact ⟨rfl, cleared_toBytes, rfl, rfl, rfl, rfl, rfl, rfl, rfl⟩
  · simp [t, State.reset, StrobeLine.powerOn, Vector.get_eq_getElem]

/-- Settles O4: nothing is active, queued or waiting in the reset state. -/
theorem lawsAtReset : Obligations.LawsAtReset := by
  have horder := State.order_of_reset (s := State.reset) rfl rfl rfl rfl rfl
  have hviewed := State.viewed_of_reset (s := State.reset) rfl rfl rfl
  refine ⟨⟨by decide, rfl, nofun⟩, hviewed.roles, hviewed.life, State.viewsLaw_of_viewed hviewed,
    horder.queues.1, horder.queues.2, horder.areas.areas, horder.areas.entries,
    State.waitsLaw_of_order horder, ?_⟩
  exact ⟨by simp [State.reset], nofun, by simp [State.reset], nofun⟩

/-! ### The link while no command waits -/

@[simp] theorem State.link_accessMemory (s : State) (q : HostRequest) (d : Decision) (p : HostPurpose) :
    (s.accessMemory q d p).link = s.link := rfl

@[simp] theorem State.link_passRequest (s : State) (q : HostRequest) : (s.passRequest q).link = s.link := rfl

@[simp] theorem State.link_writerRead (s : State) (r : RegionIx) (q : HostRequest) :
    (s.writerRead r q).link = s.link := rfl

@[simp] theorem State.link_viewRead (s : State) (r : RegionIx) (q : HostRequest) :
    (s.viewRead r q).link = s.link := by
  simp only [State.viewRead]
  split
  · simp
  · split <;> simp

section
variable {s : State} (hw : s.link.waiting = none)
include hw

theorem State.enableDue_of_none : s.enableDue = s := by
  unfold State.enableDue
  rw [hw]

theorem State.link_giveResponse (x : HostResponse) : (s.giveResponse x).link = s.link := by
  have hlink : ((s.setProgress (.respond x)).endDecisionUse s.decision).link = s.link := by simp
  rw [State.giveResponse, State.enableDue_of_none (by rw [hlink]; exact hw)]
  simp

theorem State.link_placeWrite (r : RegionIx) (q : HostRequest) (commit : Bool) :
    (s.placeWrite r q commit).link = s.link := by
  simp only [State.placeWrite, State.drainNext_frame, State.wordTrigger_frame]
  rw [State.link_giveResponse (by simpa using hw)]
  simp

theorem State.link_parkWrite (r : RegionIx) (timer : Nat) : (s.parkWrite r timer).link = s.link := by
  simp only [State.parkWrite]
  split
  · split
    · exact State.link_placeWrite hw ..
    · split
      · rfl
      · rw [(State.chargeParkTimeout_frame ..).2.2.2.2.2.2.2.1]
        exact State.link_giveResponse hw _
  · rfl

theorem State.link_reevaluatePark : s.reevaluatePark.link = s.link := by
  unfold State.reevaluatePark
  split
  · split
    · exact State.link_parkWrite hw ..
    · rfl
  · rfl

theorem State.link_refuse (r : RegionIx) (q : HostRequest) (why : RefuseReason) :
    (s.refuse r q why).link = s.link := by
  rw [State.refuse, State.link_giveResponse (by simpa using hw)]
  simp

theorem State.link_writerWrite (r : RegionIx) (q : HostRequest) : (s.writerWrite r q).link = s.link := by
  simp only [State.writerWrite]
  split
  · rw [State.link_parkWrite (by simpa using hw)]
    simp
  · simp

theorem State.link_sendOn (q : HostRequest) : (s.sendOn q).link = s.link := by
  unfold State.sendOn
  split
  · simp
  · split
    · simp
    · exact State.link_refuse hw ..
    · exact State.link_writerWrite hw ..
    · simp
    · simp

theorem State.link_decideHead : s.decideHead.link = s.link := by
  unfold State.decideHead
  split
  · split
    · rfl
    · split
      · exact State.link_giveResponse (s := s.setHost { s.host with burstSpan := satInc s.host.burstSpan }) hw _
      · exact State.link_sendOn hw _
  · rfl

theorem State.link_parkDiscard (r : RegionIx) : (s.parkDiscard r).link = s.link := by
  simp only [State.parkDiscard, State.drainNext_frame]
  unfold State.reevaluateOthers
  split
  · simp
  · rw [State.link_reevaluatePark (by simpa using hw)]
    simp

end

/-! ### What a NAK leaves (R185) -/

/-- `u` is `s` with a NAK, or it answers an ACK, or it answers nothing. -/
def State.NakOrElse (s u : State) : Prop :=
  (∃ seq n, u = s.nak seq n) ∨ (∃ x, u.link.slot = some x ∧ x.ack = true) ∨ u.link.state ≠ .ready

theorem State.nakOrElse_nak (s : State) (seq : Byte) (n : Nak) : s.NakOrElse (s.nak seq n) := .inl ⟨_, _, rfl⟩

theorem State.nakOrElse_ack (s u : State) (seq : Byte) (p : List Byte) : s.NakOrElse (u.ack seq p) :=
  .inr (.inl ⟨_, rfl, rfl⟩)

theorem State.nakOrElse_withRegion {s : State} {seq region : Byte} {run : RegionIx → State}
    (h : ∀ r, s.NakOrElse (run r)) : s.NakOrElse (s.withRegion seq region run) := by
  unfold State.withRegion
  split
  · exact s.nakOrElse_nak ..
  · exact h _

section
variable (s : State) (seq : Byte)

theorem State.nakOrElse_setTiming (x : TimingRecord) : s.NakOrElse (s.setTiming seq x) := by
  unfold State.setTiming
  split
  · exact s.nakOrElse_nak ..
  · exact s.nakOrElse_ack ..

theorem State.nakOrElse_setIrq (v : Byte) : s.NakOrElse (s.setIrq seq v) := by
  unfold State.setIrq
  split
  · exact s.nakOrElse_ack ..
  · exact s.nakOrElse_nak ..

theorem State.nakOrElse_writeRegion (region : Byte) (x : RegionRecord) :
    s.NakOrElse (s.writeRegion seq region x) := by
  unfold State.writeRegion
  split
  · exact s.nakOrElse_nak ..
  · split
    · exact s.nakOrElse_nak ..
    · split
      · exact s.nakOrElse_nak ..
      · exact s.nakOrElse_ack ..

theorem State.nakOrElse_enableRegion (hstate : s.link.state = .executing) (r : RegionIx) :
    s.NakOrElse (s.enableRegion seq r) := by
  unfold State.enableRegion
  split
  · exact s.nakOrElse_nak ..
  · split
    · exact s.nakOrElse_nak ..
    · unfold State.enableOrWait
      split
      · exact .inr (.inr (by simp [hstate]))
      · exact s.nakOrElse_ack ..

theorem State.nakOrElse_retireRegion (r : RegionIx) : s.NakOrElse (s.retireRegion seq r) := by
  unfold State.retireRegion
  split
  · exact s.nakOrElse_nak ..
  all_goals exact s.nakOrElse_ack ..

theorem State.nakOrElse_publishRegion (r : RegionIx) : s.NakOrElse (s.publishRegion seq r) := by
  unfold State.publishRegion
  split
  · exact s.nakOrElse_ack ..
  · exact s.nakOrElse_nak ..

theorem State.nakOrElse_dropViewsCommand (which : Byte) : s.NakOrElse (s.dropViewsCommand seq which) := by
  unfold State.dropViewsCommand
  split
  · exact s.nakOrElse_nak ..
  · exact s.nakOrElse_ack ..

theorem State.nakOrElse_countersRest (r : RegionIx) : s.NakOrElse (s.countersRest seq r) := by
  simp only [State.countersRest]
  split
  · exact s.nakOrElse_ack ..
  · exact s.nakOrElse_nak ..

theorem State.nakOrElse_restart (hstate : s.link.state = .executing) :
    s.NakOrElse (s.setLink { s.link with waiting := some (.restart seq) }).restartDue := by
  unfold State.restartDue
  simp only [State.setLink_link]
  split
  · exact .inr (.inr (by simp [hstate]))
  · simp only [State.restartApply]
    refine .inr (.inl ⟨⟨true, seq, 0x00#8, []⟩, ?_, rfl⟩)
    rw [State.link_decideHead rfl]
    rfl

end

/-- A command whose answer is a NAK leaves the blocks as they stood, with the grant that is not made. -/
theorem State.NakOrElse.blocks {s u : State} (hw : s.link.waiting = none) (hgrant : s.grantable = false)
    (h : s.executing.NakOrElse u) {t : State} (ht : t = u ∨ t = u.grantNext) {x : LinkResponse}
    (hready : t.link.state = .ready) (hslot : t.link.slot = some x) (hnak : x.ack = false) :
    t = { s with link := t.link } := by
  have hlink : t.link = u.link := by
    rcases ht with rfl | rfl <;> simp
  rw [hlink] at hready hslot
  rcases h with ⟨seq, n, rfl⟩ | ⟨y, hy, hack⟩ | hstate
  · have hidle : ¬(s.executing.nak seq n).grantable = true := by
      rw [Bool.not_eq_true, ← hgrant]
      simp [State.grantable, State.restartWaits, hw, State.nak, State.placeResponse, State.executing]
    rw [State.grantNext_of_not_grantable hidle, or_self] at ht
    subst ht
    rfl
  · rw [hslot] at hy
    cases hy
    rw [hnak] at hack
    cases hack
  · exact absurd hready hstate

/-- No FETCH frame comes within a command frame (log 9). -/
theorem State.fetchFrame_of_receiving {s : State} (h : s.Receiving) (clocked : Nat) : s.fetchFrame clocked = s := by
  simp [State.fetchFrame, h.1]

/-- Settles O18: each command answers a NAK before it changes anything, or an ACK, or it waits. -/
theorem nakLeavesBlocks : Obligations.NakLeavesBlocks := by
  intro c s t x hc hrec hw hgrant hexec hready hslot hnak
  have hblocks {u : State} (h : s.executing.NakOrElse u) (ht : t = u ∨ t = u.grantNext) :
      t = { s with link := t.link } := h.blocks hw hgrant ht hready hslot hnak
  have hstate : s.executing.link.state = .executing := rfl
  have hplain {run : State → State} (h : s.executing.NakOrElse (run s.executing))
      (ht : (.next (s.endFrame run) : Host.Outcome State Fault Refusal) = .next t) :
      t = { s with link := t.link } := by
    rw [State.endFrame_executing hrec] at ht
    exact hblocks h (.inl (Host.Outcome.next.inj ht).symm)
  have hgrants {run : State → State} (h : s.executing.NakOrElse (run s.executing))
      (ht : (.next (s.endFrame run).grantNext : Host.Outcome State Fault Refusal) = .next t) :
      t = { s with link := t.link } := by
    rw [State.endFrame_executing hrec] at ht
    exact hblocks h (.inr (Host.Outcome.next.inj ht).symm)
  rcases hc with hlink | ⟨frame, rfl⟩
  case inr =>
    have hsame (ht : (.next s : Host.Outcome State Fault Refusal) = .next t) : t = { s with link := t.link } := by
      cases ht
      rfl
    cases frame with
    | nil => exact hsame hexec
    | cons code rest =>
      change (if code == fetchCode then _ else _) = _ at hexec
      split at hexec
      · refine hsame ?_
        rwa [State.fetchFrame_of_receiving hrec] at hexec
      · split at hexec
        · exact hsame hexec
        · exact hplain (State.nakOrElse_nak ..) hexec
  cases c with
  | ident seq => exact hplain (s.executing.nakOrElse_ack ..) hexec
  | setTiming seq y => exact hplain (State.nakOrElse_setTiming ..) hexec
  | writeRegion seq region y => exact hplain (State.nakOrElse_writeRegion ..) hexec
  | readRegionConfig seq region => exact hplain (State.nakOrElse_withRegion fun _ => State.nakOrElse_ack ..) hexec
  | readRegionState seq region => exact hplain (State.nakOrElse_withRegion fun _ => State.nakOrElse_ack ..) hexec
  | enableRegion seq region =>
    exact hgrants (State.nakOrElse_withRegion fun _ => State.nakOrElse_enableRegion _ _ hstate _) hexec
  | retireRegion seq region =>
    exact hgrants (State.nakOrElse_withRegion fun _ => State.nakOrElse_retireRegion ..) hexec
  | publish seq region =>
    exact hgrants (State.nakOrElse_withRegion fun _ => State.nakOrElse_publishRegion ..) hexec
  | dropViews seq which => exact hgrants (State.nakOrElse_dropViewsCommand ..) hexec
  | readViews seq start =>
    refine hplain ?_ hexec
    split
    · exact State.nakOrElse_ack ..
    · exact State.nakOrElse_nak ..
  | readNotices seq => exact hplain (State.nakOrElse_ack ..) hexec
  | readCountersFirst seq region opts =>
    refine hplain (State.nakOrElse_withRegion fun _ => ?_) hexec
    split
    · exact State.nakOrElse_ack ..
    · exact State.nakOrElse_nak ..
  | readCountersRest seq region opts =>
    refine hplain (State.nakOrElse_withRegion fun _ => ?_) hexec
    split
    · exact State.nakOrElse_countersRest ..
    · exact State.nakOrElse_nak ..
  | setIrq seq v => exact hplain (State.nakOrElse_setIrq ..) hexec
  | restart seq => exact hgrants (State.nakOrElse_restart _ _ hstate) hexec
  | _ => cases hlink

/-! ### The stops by name (log 18) -/

theorem exec_memoryAnswer (a : MemAnswer) (s : State) : exec (.memoryAnswer a) s = execMemoryAnswer a s := rfl

/-- A frame under way that is to be discarded is dropped at its end, and with no frame under way nothing ends. -/
theorem State.endFrame_discarding {s : State} (h : s.link.discarding = true) (run : State → State) :
    s.endFrame run = s.setLink s.link.frameDropped := by
  simp [State.endFrame, h]

theorem State.endFrame_of_none {s : State} (hdiscard : s.link.discarding = false)
    (hstate : s.link.state ≠ .receiving) (run : State → State) : s.endFrame run = s := by
  unfold State.endFrame
  rw [hdiscard]
  cases hl : s.link.state
  case receiving => exact absurd hl hstate
  all_goals rfl

/-- A link command is executed at the end of its frame, with a grant after it or without one. -/
theorem exec_linkCommand {c : Instr} (hc : c.linkParts.isSome = true) :
    ∃ run : State → State, (∀ s, exec c s = .next (s.endFrame run)) ∨ ∀ s, exec c s = .next (s.endFrame run).grantNext := by
  cases c with
  | ident | setTiming | writeRegion | readRegionConfig | readRegionState | readViews | readNotices
  | readCountersFirst | readCountersRest | setIrq => exact ⟨_, .inl fun _ => rfl⟩
  | enableRegion | retireRegion | publish | dropViews | restart => exact ⟨_, .inr fun _ => rfl⟩
  | _ => cases hc

/-- Settles O60: the checks of the operands, and the end of a frame that is no command of its row. -/
theorem stopsByName : Obligations.StopsByName := by
  refine ⟨fun q s hwf => ?_, fun words s hlong => ?_, fun words s o kind n hshort hflight hread hwrite => ?_,
    fun rest s => ⟨rfl, rfl⟩, fun frame i s hwf hdecode => ?_, fun c s hc hgrant => ⟨fun hdiscard => ?_,
    fun hdiscard hstate => ?_⟩⟩
  · rw [exec_hostRequestAccepted, execHostRequestAccepted, hwf]
    rfl
  · have hwf : (MemAnswer.okay words).wf = false := by simp [MemAnswer.wf, hlong]
    rw [exec_memoryAnswer, execMemoryAnswer, hwf]
    rfl
  · obtain ⟨a, timer, hport, rfl, rfl⟩ := hflight
    have hwf : (MemAnswer.okay words).wf = true := by simp [MemAnswer.wf, hshort]
    have hfits : answerFits a words = false := by
      unfold answerFits
      split
      · rename_i hkind
        simpa using hread hkind
      · rename_i hkind
        simpa using hwrite hkind
    rw [exec_memoryAnswer, execMemoryAnswer, hwf, hport]
    simp [answerAllowed, hfits]
  · show execCommandFrameRejected frame s = _
    unfold execCommandFrameRejected
    cases frame with
    | nil => rfl
    | cons code rest =>
      have hcode : (code == fetchCode) = false := by simpa [commandFrameWf] using hwf
      simp only [hcode, hdecode, Bool.false_eq_true, if_false]
  · obtain ⟨run, hexec | hexec⟩ := exec_linkCommand hc
    · rw [hexec, State.endFrame_discarding hdiscard]
      rfl
    · rw [hexec, State.endFrame_discarding hdiscard, State.grantNext_of_not_grantable]
      · rfl
      · rw [Bool.not_eq_true, ← hgrant]
        rfl
  · obtain ⟨run, hexec | hexec⟩ := exec_linkCommand hc
    · rw [hexec, State.endFrame_of_none hdiscard hstate]
    · rw [hexec, State.endFrame_of_none hdiscard hstate, State.grantNext_of_not_grantable (by simp [hgrant])]

end Sys2Proof.Machine


/-! SUPPORT. What a response given to the head brings about where nothing hangs on it, and the charges of R15, R49
and R94 as they stand in the state; then how requests queue, pass and are refused (R139 to R144). -/

namespace Sys2Proof.Machine

set_option Elab.async false

/-! ### Regions read after another block has changed -/

section
variable (s : State) (r : RegionIx)

@[simp] theorem State.region_setCatchup (x : Catchup) : (s.setCatchup x).region r = s.region r := rfl
@[simp] theorem State.run_setCatchup (x : Catchup) : (s.setCatchup x).run r = s.run r := rfl
@[simp] theorem State.config_setCatchup (x : Catchup) : (s.setCatchup x).config r = s.config r := rfl
@[simp] theorem State.phase_setCatchup (x : Catchup) : (s.setCatchup x).phase r = s.phase r := rfl

@[simp] theorem State.region_setPark (x : ParkQueue) : (s.setPark x).region r = s.region r := rfl
@[simp] theorem State.run_setPark (x : ParkQueue) : (s.setPark x).run r = s.run r := rfl
@[simp] theorem State.config_setPark (x : ParkQueue) : (s.setPark x).config r = s.config r := rfl
@[simp] theorem State.phase_setPark (x : ParkQueue) : (s.setPark x).phase r = s.phase r := rfl

@[simp] theorem State.region_setViews (x : Vector (Option View) 32) : (s.setViews x).region r = s.region r := rfl
@[simp] theorem State.run_setViews (x : Vector (Option View) 32) : (s.setViews x).run r = s.run r := rfl
@[simp] theorem State.config_setViews (x : Vector (Option View) 32) : (s.setViews x).config r = s.config r := rfl
@[simp] theorem State.phase_setViews (x : Vector (Option View) 32) : (s.setViews x).phase r = s.phase r := rfl

@[simp] theorem State.region_setHost (x : HostPort) : (s.setHost x).region r = s.region r := rfl
@[simp] theorem State.run_setHost (x : HostPort) : (s.setHost x).run r = s.run r := rfl
@[simp] theorem State.config_setHost (x : HostPort) : (s.setHost x).config r = s.config r := rfl
@[simp] theorem State.phase_setHost (x : HostPort) : (s.setHost x).phase r = s.phase r := rfl

@[simp] theorem State.region_setBus (x : MemoryBus) : (s.setBus x).region r = s.region r := rfl
@[simp] theorem State.run_setBus (x : MemoryBus) : (s.setBus x).run r = s.run r := rfl
@[simp] theorem State.config_setBus (x : MemoryBus) : (s.setBus x).config r = s.config r := rfl
@[simp] theorem State.phase_setBus (x : MemoryBus) : (s.setBus x).phase r = s.phase r := rfl

@[simp] theorem State.region_setNotices (x : NoticeUnit) : (s.setNotices x).region r = s.region r := rfl
@[simp] theorem State.run_setNotices (x : NoticeUnit) : (s.setNotices x).run r = s.run r := rfl
@[simp] theorem State.config_setNotices (x : NoticeUnit) : (s.setNotices x).config r = s.config r := rfl
@[simp] theorem State.phase_setNotices (x : NoticeUnit) : (s.setNotices x).phase r = s.phase r := rfl

@[simp] theorem State.region_setLink (x : Link) : (s.setLink x).region r = s.region r := rfl
@[simp] theorem State.run_setLink (x : Link) : (s.setLink x).run r = s.run r := rfl
@[simp] theorem State.config_setLink (x : Link) : (s.setLink x).config r = s.config r := rfl
@[simp] theorem State.phase_setLink (x : Link) : (s.setLink x).phase r = s.phase r := rfl

@[simp] theorem State.region_setHead (x : Option Head) : (s.setHead x).region r = s.region r := rfl
@[simp] theorem State.run_setHead (x : Option Head) : (s.setHead x).run r = s.run r := rfl
@[simp] theorem State.config_setHead (x : Option Head) : (s.setHead x).config r = s.config r := rfl
@[simp] theorem State.phase_setHead (x : Option Head) : (s.setHead x).phase r = s.phase r := rfl

@[simp] theorem State.region_setProgress (x : Progress) : (s.setProgress x).region r = s.region r := rfl
@[simp] theorem State.run_setProgress (x : Progress) : (s.setProgress x).run r = s.run r := rfl
@[simp] theorem State.config_setProgress (x : Progress) : (s.setProgress x).config r = s.config r := rfl
@[simp] theorem State.phase_setProgress (x : Progress) : (s.setProgress x).phase r = s.phase r := rfl

@[simp] theorem State.region_setStrobes (x : Strobes) : (s.setStrobes x).region r = s.region r := rfl
@[simp] theorem State.run_setStrobes (x : Strobes) : (s.setStrobes x).run r = s.run r := rfl
@[simp] theorem State.config_setStrobes (x : Strobes) : (s.setStrobes x).config r = s.config r := rfl
@[simp] theorem State.phase_setStrobes (x : Strobes) : (s.setStrobes x).phase r = s.phase r := rfl

@[simp] theorem State.region_setClock (x : TimeBase) : (s.setClock x).region r = s.region r := rfl
@[simp] theorem State.run_setClock (x : TimeBase) : (s.setClock x).run r = s.run r := rfl
@[simp] theorem State.config_setClock (x : TimeBase) : (s.setClock x).config r = s.config r := rfl
@[simp] theorem State.phase_setClock (x : TimeBase) : (s.setClock x).phase r = s.phase r := rfl

end

/-! ### Completion with the grant (R156) -/

theorem CompletesGranting.of_exec {c : Instr} {s u : State} (h : exec c s = .next u.grantNext) :
    CompletesGranting c s u := ⟨_, h, rfl⟩

/-! ### A settled drain slot (R97, R98) -/

section
variable {s t : State}

theorem State.drainRelease_of_settled (h : s.DrainSettled) : s.drainRelease = s := by
  unfold State.drainRelease
  split
  · rename_i k retried hslot
    simp [State.drainReady, h.2 k retried hslot]
  · rfl

theorem State.drainNext_of_settled (h : s.DrainSettled) : s.drainNext = s := by
  unfold State.drainNext
  split
  · rename_i hslot
    have hnone : s.park.entries.find? s.eligible = none := List.find?_eq_none.mpr (by simpa using h.1 hslot)
    rw [hnone]
    exact ite_self s
  · rfl

/-- The slot stays settled while no region begins to work or changes its frame or DRAFT bank. -/
theorem State.DrainSettled.mono (h : s.DrainSettled) (hpark : t.park = s.park)
    (hlines : t.catchup.lines = s.catchup.lines)
    (hrun : ∀ r, ((t.phase r).working = true → (s.phase r).working = true) ∧ (t.run r).frame = (s.run r).frame ∧
      (t.run r).roles = (s.run r).roles)
    (hconfig : ∀ r, t.config r = s.config r) : t.DrainSettled := by
  refine ⟨fun hslot e he => ?_, fun k retried hslot => ?_⟩
  · rw [hpark] at hslot he
    have hnot := h.1 hslot e he
    obtain ⟨hwork, hframe, -⟩ := hrun e.region
    simp only [State.eligible, Runtime.draftFrame, Bool.and_eq_false_iff, hframe] at hnot ⊢
    refine hnot.imp_left fun hnot => ?_
    rw [← Bool.not_eq_true] at hnot ⊢
    exact mt hwork hnot
  · rw [hpark] at hslot
    have hstale := h.2 k retried hslot
    rw [State.draftStale, Runtime.draftBank] at hstale ⊢
    rwa [hconfig, State.line_congr hlines, (hrun k.region).2.2]

/-- The host port, the bus, the notices and the counters do not bear on it. -/
theorem State.DrainSettled.congr (h : s.DrainSettled) (hpark : t.park = s.park)
    (hlines : t.catchup.lines = s.catchup.lines) (hrun : ∀ r, t.run r = s.run r)
    (hconfig : ∀ r, t.config r = s.config r) : t.DrainSettled :=
  h.mono hpark hlines
    (fun r => ⟨by rw [State.phase, State.phase, ← State.run, hrun]; exact id, by rw [hrun], by rw [hrun]⟩) hconfig

theorem State.config_congr (h : t.regions = s.regions) (r : RegionIx) : t.config r = s.config r :=
  congrArg Region.config (State.region_congr h r)

/-! ### A response on which nothing hangs (R149) -/

/-- No view serves the head. -/
def State.NoViewServes (s : State) : Prop := ∀ d : Decision, s.decision = some d → d.view = none

theorem State.endDecisionUse_of_none {d : Option Decision} (h : ∀ x, d = some x → x.view = none) :
    s.endDecisionUse d = s := by
  unfold State.endDecisionUse
  split
  · rfl
  · rename_i x
    rw [h x rfl]

/-- The response of a head that no view serves, where no command waits, sets the head's progress and lets a held
drain write go. -/
theorem State.giveResponse_eq (hview : s.NoViewServes) (hw : s.link.waiting = none) (x : HostResponse) :
    s.giveResponse x = (s.setProgress (.respond x)).drainRelease := by
  rw [State.giveResponse, State.endDecisionUse_of_none hview,
    State.enableDue_of_none (s := s.setProgress (.respond x)) hw]

theorem State.giveResponse_of_settled (hview : s.NoViewServes) (hw : s.link.waiting = none) (h : s.DrainSettled)
    (x : HostResponse) : s.giveResponse x = s.setProgress (.respond x) := by
  rw [State.giveResponse_eq hview hw]
  exact State.drainRelease_of_settled (h.congr rfl rfl (fun _ => rfl) fun _ => rfl)

end

/-! ### The charges (R15, R49, R94) -/

section
variable (s : State) (r : RegionIx)

theorem State.noticeOf_modCounters (f : Counters → Counters) (k : NoticeKind) (tag : Option Tag) (d : BitVec 16) :
    (s.modCounters r f).noticeOf r k tag d = s.noticeOf r k tag d := by
  simp [State.noticeOf]

theorem State.raiseNotice_modCounters (f : Counters → Counters) (k : NoticeKind) (tag : Option Tag)
    (d : BitVec 16) :
    (s.modCounters r f).raiseNotice r k tag d =
      (s.modCounters r f).setNotices (s.notices.raised (s.config r).noticeMask (s.noticeOf r k tag d)) := by
  rw [State.raiseNotice_eq, State.noticeOf_modCounters, State.config_modCounters]
  rfl

theorem State.chargeRefusal_eq (tag : Tag) (why : RefuseReason) :
    s.chargeRefusal r tag why =
      (s.modCounters r fun c => { c with refused := satInc c.refused, refusedFlag := true }).setNotices
        (if (s.region r).counters.refusedFlag then s.notices
          else s.notices.raised (s.config r).noticeMask (s.noticeOf r .refused (some tag) why.code)) := by
  simp only [State.chargeRefusal, State.raiseNotice_modCounters]
  cases (s.region r).counters.refusedFlag <;> rfl

theorem State.chargeShortage_eq (tag : Tag) :
    s.chargeShortage r tag =
      (s.modCounters r fun c => { c with viewShortage := satInc c.viewShortage, shortageFlag := true }).setNotices
        (if (s.region r).counters.shortageFlag then s.notices
          else s.notices.raised (s.config r).noticeMask
            (s.noticeOf r .viewShortage (some tag) (BitVec.ofNat 16 (s.viewCount r)))) := by
  simp only [State.chargeShortage, State.raiseNotice_modCounters]
  cases (s.region r).counters.shortageFlag <;> rfl

theorem State.chargeParkTimeout_eq (tag : Tag) (k : Nat) :
    s.chargeParkTimeout r tag k =
      (s.modCounters r fun c => { c with parkTimeout := satInc c.parkTimeout }).setNotices
        (s.notices.raised (s.config r).noticeMask (s.noticeOf r .parkTimeout (some tag) (BitVec.ofNat 16 k))) :=
  s.raiseNotice_modCounters r ..

end

/-! ### The request queue (R139, R141, R149) -/

theorem State.decideHead_of_held {s : State} (h : s.link.waiting ≠ none) : s.decideHead = s := by
  have hheld : s.decisionsHeld = true := Option.isSome_iff_ne_none.mpr h
  unfold State.decideHead
  split
  · rw [hheld]
    rfl
  · rfl

theorem State.decideHead_of_none {s : State} (h : s.host.head = none) : s.decideHead = s := by
  unfold State.decideHead
  rw [h]

/-- Settles O34: a request joins, is held off or leaves, as the queue and HRST_N have it. -/
theorem requestsQueued : Obligations.RequestsQueued := by
  refine ⟨fun q s hwf => ⟨fun hoff => ?_, fun hreset hqueue hroom => ?_⟩, fun c s q rest harrives hw => ?_,
    fun s gone resp hresp hqueue => ?_, fun s hresp => ?_⟩
  · have haccepts : s.host.accepts = false := by
      rw [HostPort.accepts, Bool.and_eq_false_iff, Bool.not_eq_false', decide_eq_false_iff_not, not_lt]
      exact hoff
    rw [exec_hostRequestAccepted, execHostRequestAccepted, hwf, haccepts]
    rfl
  · have haccepts : s.host.accepts = true := by
      simp [HostPort.accepts, hreset, hroom, Config.hostQueueCapacity]
    have hempty : s.host.queue.isEmpty = false := by simpa using hqueue
    rw [exec_hostRequestAccepted, execHostRequestAccepted, hwf, haccepts]
    simp [hempty, HostPort.join, State.setHost]
  · refine .of_exec ?_
    rw [exec_of_headArrives harrives, State.decideHead_of_held (s := s.withNewHead q rest) hw]
    rfl
  · refine .of_exec ?_
    have hnext : s.setHost s.host.next = { s with host := { s.host with queue := [], head := none } } := by
      simp [State.setHost, HostPort.next, hqueue]
    rw [exec_hostResponseTaken, execHostResponseTaken, hresp]
    simp only [hnext]
    rw [State.decideHead_of_none rfl]
  · rw [exec_hostResponseTaken, execHostResponseTaken]
    split
    · rename_i resp h
      exact absurd h (hresp resp)
    · rfl

/-! ### A new head that is decided (R8 to R11, R143) -/

/-- The head that a command brings is classified and sent on, and the grant follows. -/
theorem Decides.exec_eq {c : Instr} {s : State} {q : HostRequest} {rest : List HostRequest} (h : Decides c s q rest) :
    exec c s = .next ((s.withNewHead q rest).sendOn q).grantNext := by
  obtain ⟨harrives, hw, hline, -⟩ := h
  rw [exec_of_headArrives harrives, State.decideHead_withNewHead rest hw hline]

theorem Decides.settled {c : Instr} {s : State} {q : HostRequest} {rest : List HostRequest}
    (h : Decides c s q rest) (t : State) (hpark : t.park = s.park) (hlines : t.catchup.lines = s.catchup.lines)
    (hrun : ∀ r, t.run r = s.run r) (hconfig : ∀ r, t.config r = s.config r) : t.DrainSettled := by
  obtain ⟨-, -, -, -, hsettled⟩ := h
  exact hsettled.congr hpark hlines hrun hconfig

/-- A head that is still to be decided is served by no view. -/
theorem State.noViewServes_withNewHead (s : State) (q : HostRequest) (rest : List HostRequest) :
    (s.withNewHead q rest).NoViewServes := by
  intro d hd
  have hnone : (s.withNewHead q rest).decision = none := rfl
  cases hnone.symm.trans hd

/-- Settles O35: no active region holds the address, so the directory finds none. -/
theorem passForwarded : Obligations.PassForwarded := by
  intro c s q rest hdecides hfree
  have hnone : (s.withNewHead q rest).regionAt (byteAddr q) = none := by
    refine List.find?_eq_none.mpr fun r _ hr => ?_
    rw [Bool.and_eq_true] at hr
    exact Bool.false_ne_true ((hfree r hr.1).symm.trans hr.2)
  refine ⟨passDecision q, rfl, rfl, rfl, rfl, .of_exec ?_⟩
  rw [hdecides.exec_eq, State.sendOn, hnone]
  rfl

/-! ### Refusals (R9, R11, R15, R142) -/

theorem FirstRow.unique {α : Type} {x y : α} {rows : List (Prop × α)} (hx : FirstRow x rows) (hy : FirstRow y rows) :
    x = y := by
  induction rows with
  | nil => exact hx.elim
  | cons row rows ih =>
    obtain ⟨p, a⟩ := row
    rcases hx with ⟨hp, rfl⟩ | ⟨hp, hx⟩ <;> rcases hy with ⟨hp', rfl⟩ | ⟨hp', hy⟩
    · rfl
    · exact absurd hp hp'
    · exact absurd hp' hp
    · exact ih hx hy

/-- The class of a window request is the one whose row comes first (R11). -/
theorem State.classOf_of_firstRow {s : State} {q : HostRequest} {r : RegionIx} {cls : HostClass}
    (hwindow : s.inWindow q r) (h : FirstRow cls (windowRows (s.config r) (s.phase r) q)) :
    (s.config r).classOf (s.phase r) q = cls := by
  rw [RegionConfig.classOf_of_inBankA _ hwindow.inBankA]
  exact ((s.config r).windowClass_firstRow q hwindow.1).unique h

/-- A shadow area of a region is not its window (R4). -/
theorem RegionConfig.AreasSound.not_inBankA {c : RegionConfig} (h : c.AreasSound) {addr : Nat}
    (hshadow : c.inBank .bankB addr = true ∨ c.inBank .bankC addr = true) : c.inBank .bankA addr = false := by
  obtain ⟨-, hapart, -⟩ := h
  by_contra hA
  rw [Bool.not_eq_false] at hA
  rcases hshadow with hB | hC
  · exact Bool.false_ne_true ((hapart .bankA .bankB nofun).symm.trans (bankOverlap_of_inBank hA hB))
  · exact Bool.false_ne_true ((hapart .bankA .bankC nofun).symm.trans (bankOverlap_of_inBank hA hC))

/-- A refused head is charged to its region and answered, and no more. -/
theorem State.refuse_eq {s : State} (hw : s.link.waiting = none) (h : s.DrainSettled) (r : RegionIx)
    (q : HostRequest) (why : RefuseReason) :
    s.refuse r q why =
      (s.chargeRefusal r q.tag why).setHead
        (some ⟨.respond (.failed (.refused why)), some (s.matchedDecision r q (.refused why))⟩) := by
  have hcharge (d : Option Decision) : (s.setHead (some ⟨.decide, d⟩)).chargeRefusal r q.tag why =
      (s.chargeRefusal r q.tag why).setHead (some ⟨.decide, d⟩) := by
    rw [State.chargeRefusal_eq, State.chargeRefusal_eq]
    rfl
  have hsettled (x : Option Head) : ((s.chargeRefusal r q.tag why).setHead x).DrainSettled := by
    rw [State.chargeRefusal_eq]
    exact h.congr rfl rfl (by simp) (by simp)
  rw [State.refuse]
  simp only [hcharge]
  have hview : ((s.chargeRefusal r q.tag why).setHead
      (some ⟨.decide, some (s.matchedDecision r q (.refused why))⟩)).NoViewServes := by
    rintro d hd
    cases hd
    rfl
  rw [State.giveResponse_of_settled hview (by simpa using hw) (hsettled _)]
  rfl

/-- A burst that spans lines is counted and answered, and no more. -/
theorem State.refuseSpan_eq {s : State} (hview : s.NoViewServes) (hw : s.link.waiting = none) (h : s.DrainSettled) :
    s.refuseSpan =
      (s.setHost { s.host with burstSpan := satInc s.host.burstSpan }).setProgress
        (.respond (.failed .burstSpan)) :=
  State.giveResponse_of_settled (s := s.setHost { s.host with burstSpan := satInc s.host.burstSpan }) hview hw
    (h.congr rfl rfl (fun _ => rfl) fun _ => rfl) _

theorem RefuseReason.code_eq (why : RefuseReason) :
    why.code = match why with
      | .shadow => 1
      | .tag => 2
      | .stamp => 3
      | .phase => 4 := by
  cases why <;> rfl

/-- Settles O37: the directory finds the region and refuses; a burst over two lines is refused before it is asked. -/
theorem requestRefused : Obligations.RequestRefused := by
  refine ⟨fun c s q rest r why hdecides hrefused => ?_, fun c s q rest harrives hw hsettled hspan => ?_⟩
  · obtain ⟨harrives, hw, hline, hareas, hsettled⟩ := id hdecides
    obtain ⟨hregion, hclass⟩ : (s.withNewHead q rest).regionAt (byteAddr q) = some r ∧
        (s.config r).classOf (s.phase r) q = .refused why := by
      rcases hrefused with ⟨hactive, rfl, hshadow⟩ | ⟨hwindow, hrow⟩
      · refine ⟨State.regionAt_eq_some hareas hactive (((s.config r).inAreas_iff _).mpr ?_), ?_⟩
        · exact hshadow.elim (⟨_, ·⟩) (⟨_, ·⟩)
        · exact if_neg (Bool.not_eq_true _ ▸ (hareas.1 r hactive).not_inBankA hshadow)
      · exact ⟨State.regionAt_eq_some hareas hwindow.1 (((s.config r).inAreas_iff _).mpr ⟨_, hwindow.inBankA⟩),
          State.classOf_of_firstRow hwindow hrow⟩
    refine ⟨s.matchedDecision r q (.refused why), rfl, rfl, .of_exec ?_⟩
    have hclass' : ((s.withNewHead q rest).config r).classOf ((s.withNewHead q rest).phase r) q = .refused why :=
      hclass
    rw [hdecides.exec_eq, State.sendOn, hregion]
    simp only [hclass']
    rw [State.refuse_eq (s := s.withNewHead q rest) hw (hdecides.settled _ rfl rfl (fun _ => rfl) fun _ => rfl), State.chargeRefusal_eq,
      RefuseReason.code_eq]
    rfl
  · refine .of_exec ?_
    have hspans : spansLines q = true := by
      rw [spansLines, decide_eq_true_eq]
      exact not_le.mp hspan
    have hdecide : (s.withNewHead q rest).decideHead = (s.withNewHead q rest).refuseSpan := by
      simp [State.decideHead, State.headRequest, State.hostWith, State.decisionsHeld, hw, hspans]
    rw [exec_of_headArrives harrives, hdecide, State.refuseSpan_eq (State.noViewServes_withNewHead s q rest) hw
      (hsettled.congr rfl rfl (fun _ => rfl) fun _ => rfl)]
    rfl

end Sys2Proof.Machine


/-! SUPPORT. The service of reads: where a window request goes in a bank, and the view or the bank that serves it (R5,
R13, R14, R17, R47 to R49, R86). -/

namespace Sys2Proof.Machine

set_option Elab.async false

/-! ### A window request in a bank (R5, R6) -/

section
variable {c : RegionConfig} {q : HostRequest}

theorem RegionConfig.lineOf_eq_lineHit (c : RegionConfig) (q : HostRequest) : c.lineOf q = c.lineHit q := by
  rw [RegionConfig.lineOf, RegionConfig.lineHit, RegionConfig.firstWord, Nat.div_div_eq_div_mul]
  rfl

/-- A window starts at a multiple of 64, so that a request's offset in it is one of whole words. -/
theorem RegionConfig.offset_eq (h : c.AreasSound) : c.offset q = 4 * c.firstWord q := by
  have hbase : c.windowBase.toNat % 64 = 0 := (h.1 .bankA).1
  rw [RegionConfig.offset, RegionConfig.firstWord, byteAddr]
  omega

theorem RegionConfig.physical_eq_bankAddr (h : c.AreasSound) (b : Bank) : c.physical b q = c.bankAddr b q := by
  rw [RegionConfig.physical, RegionConfig.bankAddr, RegionConfig.offset_eq h]

theorem RegionConfig.includes_iff_hits (c : RegionConfig) (q : HostRequest) (w : Nat) :
    c.includes q w = true ↔ c.hits q (some w) := c.includesOpt_iff_hits q (some w)

end

section
variable {s : State} {q : HostRequest} {r : RegionIx}

/-- The record of a window read is the decision that R8, R17 and R140 give it. -/
theorem State.readDecided (hsound : (s.config r).AreasSound) (hwindow : s.inWindow q r) (cls : HostClass) (b : Bank)
    (frame : Word) (view : Option Slot) :
    s.ReadDecided q r cls b frame view (s.readDecision r q cls b frame view) := by
  refine ⟨rfl, rfl, rfl, rfl, rfl, RegionConfig.physical_eq_bankAddr hsound b, fun hmiss => ?_, fun w hw hhit => ?_, ?_,
    rfl⟩
  · show (s.config r).stampOf q frame = none
    unfold RegionConfig.stampOf
    split
    · rfl
    · rename_i w hw
      rw [if_neg]
      rwa [RegionConfig.includes_iff_hits, ← hw]
  · show (s.config r).stampOf q frame = _
    rw [RegionConfig.stampOf, hw]
    exact if_pos ((RegionConfig.includes_iff_hits ..).mpr hhit)
  · show ((s.config r).inBank .bankA (byteAddr q) && (s.config r).includes q (s.config r).close) = true ↔ _
    rw [hwindow.inBankA, Bool.true_and, RegionConfig.includes_iff_hits]

end

/-! ### A window request is sent on by its class (R11, R143) -/

section
variable {c : Instr} {s : State} {q : HostRequest} {rest : List HostRequest} {r : RegionIx}

theorem Decides.areasSound (h : Decides c s q rest) (hwindow : s.inWindow q r) : (s.config r).AreasSound :=
  h.2.2.2.1.1 r hwindow.1

/-- A head matched to a region, served by its class (R143). -/
def State.serve (s : State) (r : RegionIx) (q : HostRequest) : HostClass → State
  | .pass => s.passRequest q
  | .refused why => s.refuse r q why
  | .writerWrite => s.writerWrite r q
  | .writerRead => s.writerRead r q
  | .viewRead => s.viewRead r q

theorem State.sendOn_eq_serve {s : State} {r : RegionIx} (h : s.regionAt (byteAddr q) = some r) :
    s.sendOn q = s.serve r q ((s.config r).classOf (s.phase r) q) := by
  rw [State.sendOn, h]
  rfl

/-- A new head in a window goes where its class says. -/
theorem Decides.exec_window (h : Decides c s q rest) (hwindow : s.inWindow q r) {cls : HostClass}
    (hcls : (s.config r).windowClass (s.phase r) q = cls) :
    Machine.exec c s = .next ((s.withNewHead q rest).serve r q cls).grantNext := by
  have hregion : (s.withNewHead q rest).regionAt (byteAddr q) = some r :=
    State.regionAt_eq_some h.2.2.2.1 hwindow.1 (((s.config r).inAreas_iff _).mpr ⟨_, hwindow.inBankA⟩)
  have hclass : ((s.withNewHead q rest).config r).classOf ((s.withNewHead q rest).phase r) q = cls :=
    (RegionConfig.classOf_of_inBankA _ hwindow.inBankA).trans hcls
  rw [h.exec_eq, State.sendOn_eq_serve hregion, hclass]

theorem RegionConfig.windowClass_writerRead {c : RegionConfig} {p : Phase} (hview : p.Viewable)
    (hkind : q.kind = .read) (htag : q.tag = c.writerTag) : c.windowClass p q = .writerRead := by
  simp [RegionConfig.windowClass, hview.ne_retiring, hkind, htag]

theorem RegionConfig.windowClass_viewRead {c : RegionConfig} {p : Phase} (hview : p.Viewable)
    (hkind : q.kind = .read) (htag : q.tag ≠ c.writerTag) (hreader : c.readerMask.getLsbD q.tag.val = true) :
    c.windowClass p q = .viewRead := by
  simp [RegionConfig.windowClass, RegionConfig.isReader, hview.ne_retiring, hkind, htag, hreader]

theorem RegionConfig.windowClass_writerWrite {c : RegionConfig} {p : Phase} (hwork : p = .opened ∨ p = .pending)
    (hkind : q.kind = .write) (htag : q.tag = c.writerTag) (hstamp : ¬c.hits q c.stamp) :
    c.windowClass p q = .writerWrite := by
  rcases hwork with rfl | rfl <;>
    simp [RegionConfig.windowClass, hkind, htag, RegionConfig.includesOpt_iff_hits, hstamp]

end

/-! ### Writer reads (R13, R17, R86) -/

/-- Settles O40: the phase and the line's state in the DRAFT bank choose the bank, and the phase the stamp. -/
theorem writerReadServed : Obligations.WriterReadServed := by
  intro c s q rest r hdecides hwindow hview hkind htag t stale b hb
  have hsound := hdecides.areasSound hwindow
  refine ⟨s.readDecision r q .writerRead b (if s.phase r = .faulted then t.frame else t.frame + 1) none,
    State.readDecided hsound hwindow .., .of_exec ?_⟩
  rw [hdecides.exec_window hwindow (RegionConfig.windowClass_writerRead hview hkind htag)]
  congr 2
  have hstale : s.draftStale r ((s.config r).lineOf q) = true ↔ stale := by
    rw [RegionConfig.lineOf_eq_lineHit]
    rfl
  have haccess : accessOf q ((s.config r).physical b q) = accessAt q ((s.config r).bankAddr b q) := by
    rw [RegionConfig.physical_eq_bankAddr hsound]
    rfl
  rw [← haccess]
  show (s.withNewHead q rest).accessMemory q
    (if s.phase r == .faulted then s.readDecision r q .writerRead t.liveBank t.frame none
      else s.readDecision r q .writerRead
        (if s.draftStale r ((s.config r).lineOf q) then t.liveBank else t.draftBank) t.draftFrame none) .read = _
  rcases hb with ⟨hfault, rfl⟩ | ⟨hfault, hs, rfl⟩ | ⟨hfault, hs, rfl⟩
  · rw [if_pos (beq_iff_eq.mpr hfault), if_pos hfault]
    rfl
  · rw [if_neg (mt beq_iff_eq.mp hfault), if_neg hfault, if_pos (hstale.mpr hs)]
    rfl
  · rw [if_neg (mt beq_iff_eq.mp hfault), if_neg hfault, if_neg (mt hstale.mp hs)]
    rfl

/-! ### View reads (R14, R47 to R49) -/

section
variable {s : State} {r : RegionIx} {t : Tag} {k : Slot}

theorem mem_slotIxs (k : Slot) : k ∈ slotIxs := by
  rw [slotIxs_eq_finRange]
  exact List.mem_finRange k

/-- The only view of a tag on a region is the one found. -/
theorem State.viewOf_eq_some {v : View} (hk : s.view k = some v) (hv : v.region = r ∧ v.tag = t)
    (hunique : ∀ (j : Slot) (w : View), s.view j = some w → w.region = r ∧ w.tag = t → j = k) :
    s.viewOf r t = some k := by
  cases hfound : s.viewOf r t with
  | none =>
    exact absurd hv.2 (State.viewOf_eq_none_iff.mp hfound k v hk hv.1)
  | some j =>
    have hj := List.find?_some hfound
    cases hw : s.view j with
    | none => simp [hw] at hj
    | some w =>
      have hmine : w.region = r ∧ w.tag = t := by simpa [hw, View.on] using hj
      rw [hunique j w hw hmine]

/-- The lowest slot that holds no view is the one a view is opened in. -/
theorem State.emptySlot_eq_some (hk : s.view k = none) (hlow : ∀ j : Slot, j < k → s.view j ≠ none) :
    s.emptySlot = some k := by
  rw [State.emptySlot, slotIxs_eq_finRange, List.find?_eq_some_iff_getElem]
  refine ⟨by simp [hk], k.val, by simp, by simp, fun j hj => ?_⟩
  have hheld := Option.isSome_iff_ne_none.mpr (hlow ⟨j, by omega⟩ hj)
  simpa using hheld

theorem State.emptySlot_eq_none (h : ∀ k : Slot, s.view k ≠ none) : s.emptySlot = none :=
  List.find?_eq_none.mpr fun k _ hk => h k (Option.isNone_iff_eq_none.mp hk)

end

/-- Settles O39: the tag's view, the lowest empty slot or neither serves the read. -/
theorem viewReadServed : Obligations.ViewReadServed := by
  intro c s q rest r hdecides hwindow hview hkind htag hreader g t mine bus decided
  have hsound := hdecides.areasSound hwindow
  have haccess (b : Bank) : accessOf q ((s.config r).physical b q) = accessAt q (g.config.bankAddr b q) := by
    rw [RegionConfig.physical_eq_bankAddr hsound]
    rfl
  have hserved {u : State} (hu : (s.withNewHead q rest).viewRead r q = u) : CompletesGranting c s u :=
    .of_exec (hu ▸ hdecides.exec_window hwindow (RegionConfig.windowClass_viewRead hview hkind htag hreader))
  refine ⟨fun k v hk hmine hunique => ?_, fun hnone => ⟨fun k hk hlow => ?_, fun hfull => ?_⟩⟩
  · refine ⟨_, State.readDecided hsound hwindow .., hserved ?_⟩
    have hmine' : v.region = r := hmine.1
    have hview : (s.withNewHead q rest).viewOf r q.tag = some k := State.viewOf_eq_some hk hmine hunique
    have hslot : (s.withNewHead q rest).view k = some v := hk
    simp only [State.viewRead, hview, State.refreshView, hslot, hmine', bus, ← haccess]
    rfl
  · refine ⟨_, State.readDecided hsound hwindow .., hserved ?_⟩
    have hview : (s.withNewHead q rest).viewOf r q.tag = none :=
      State.viewOf_eq_none_iff.mpr fun k v hk hr ht => hnone k v hk ⟨hr, ht⟩
    have hempty : (s.withNewHead q rest).emptySlot = some k := State.emptySlot_eq_some hk hlow
    simp only [State.viewRead, hview, hempty, bus, ← haccess]
    rfl
  · refine ⟨_, State.readDecided hsound hwindow .., hserved ?_⟩
    have hview : (s.withNewHead q rest).viewOf r q.tag = none :=
      State.viewOf_eq_none_iff.mpr fun k v hk hr ht => hnone k v hk ⟨hr, ht⟩
    have hempty : (s.withNewHead q rest).emptySlot = none := State.emptySlot_eq_none hfull
    simp only [State.viewRead, hview, hempty, bus, ← haccess, State.chargeShortage_eq]
    rfl

end Sys2Proof.Machine


/-! SUPPORT. Triggers and evaluations as they stand in the state: what a trigger counts and sets, when HELD is noted
and when a region publishes (R29, R30, R32, R33, R107); then PUBLISH (R117). -/

namespace Sys2Proof.Machine

set_option Elab.async false

/-! ### What the conditions read -/

section
variable {s t : State} {r : RegionIx}

theorem State.draftComplete_congr (hroles : (t.run r).roles = (s.run r).roles)
    (hflight : (t.run r).inFlight = (s.run r).inFlight) (hframe : (t.run r).frame = (s.run r).frame)
    (hconfig : t.config r = s.config r) (hlines : t.catchup.lines = s.catchup.lines)
    (hentries : t.park.entries = s.park.entries) : t.DraftComplete r ↔ s.DraftComplete r := by
  have hdraft : (t.run r).draftBank = (s.run r).draftBank := by rw [Runtime.draftBank, hroles, Runtime.draftBank]
  simp only [State.DraftComplete, hflight, hframe, hconfig, hentries, hdraft, State.line_congr hlines]

theorem State.bankAvailable_congr (hroles : (t.run r).roles = (s.run r).roles) (hviews : t.views = s.views) :
    t.BankAvailable r ↔ s.BankAvailable r := by
  have hlive : (t.run r).liveBank = (s.run r).liveBank := by rw [Runtime.liveBank, hroles, Runtime.liveBank]
  have hthird : (t.run r).thirdBank = (s.run r).thirdBank := by rw [Runtime.thirdBank, hroles, Runtime.thirdBank]
  simp only [State.BankAvailable, State.ViewOn, State.view, hroles, hviews, hlive, hthird]

theorem State.draftEmpty_congr (hdirty : (t.run r).dirtyLines = (s.run r).dirtyLines)
    (hflight : (t.run r).inFlight = (s.run r).inFlight) (hframe : (t.run r).frame = (s.run r).frame)
    (hentries : t.park.entries = s.park.entries) : t.DraftEmpty r ↔ s.DraftEmpty r := by
  simp only [State.DraftEmpty, hdirty, hflight, hframe, hentries]

end

/-! ### Evaluations (R32, R33) -/

section
variable {s : State} {r : RegionIx}

theorem State.evaluate_of_ne_pending (h : s.phase r ≠ .pending) : s.evaluate r = s := by
  rw [State.evaluate, if_neg (mt beq_iff_eq.mp h)]

theorem State.waitNoted_of_incomplete (h : ¬s.DraftComplete r) : s.waitNoted r = s := by
  rw [State.waitNoted, if_neg (mt State.draftComplete_iff.mpr h)]

theorem State.evaluate_of_incomplete (h : s.phase r = .pending → ¬s.DraftComplete r) : s.evaluate r = s := by
  by_cases hp : s.phase r = .pending
  · rw [State.evaluate, if_pos (beq_iff_eq.mpr hp), if_neg (fun hc => h hp (State.canPublish_iff.mp hc).1),
      State.waitNoted_of_incomplete (h hp)]
  · exact State.evaluate_of_ne_pending hp

theorem Bank.code_setWidth (b : Bank) :
    b.code.setWidth 16 = match b with
      | .bankA => (0 : BitVec 16)
      | .bankB => 1
      | .bankC => 2 := by
  cases b <;> rfl

theorem State.noteHeld_eq (s : State) (r : RegionIx) : s.noteHeld r = s.heldNoted r := by
  unfold State.noteHeld
  by_cases h : (s.run r).heldNotice = true
  · rw [if_pos h, State.heldNoted]
    exact (if_pos h).symm
  · rw [if_neg h, State.chargeHeld, State.raiseNotice_modCounters, State.run_modRun_self, State.modCounters,
      State.modRun, State.modRegion_modRegion, State.heldNoted]
    refine Eq.trans ?_ (if_neg h).symm
    rw [show Runtime.thirdBank { s.run r with heldNotice := true } = (s.run r).thirdBank from rfl,
      Bank.code_setWidth]
    have hnotice (d : BitVec 16) :
        (s.modRegion r fun g => { g with run := { g.run with heldNotice := true } }).noticeOf r .held none d =
          s.noticeOf r .held none d := by
      simp [State.noticeOf, State.run]
    have hconfig : (s.modRegion r fun g => { g with run := { g.run with heldNotice := true } }).config r =
        s.config r := by
      simp [State.config]
    rw [hnotice, hconfig]
    rfl

/-- With the flag clear, HELD is counted and noticed. -/
theorem State.heldNoted_eq (h : (s.run r).heldNotice = false) :
    s.heldNoted r =
      (s.modRegion r fun g =>
        { g with
          run := { g.run with heldNotice := true }
          counters := { g.counters with held := satInc g.counters.held } }).setNotices
        (s.notices.raised (s.config r).noticeMask
          (s.noticeOf r .held none
            (match (s.run r).thirdBank with
              | .bankA => 0
              | .bankB => 1
              | .bankC => 2))) := by
  rw [State.heldNoted]
  exact if_neg (Bool.not_eq_true _ ▸ h)

theorem State.evaluate_held (hp : s.phase r = .pending) (hc : s.DraftComplete r) (hd : ¬s.BankAvailable r) :
    s.evaluate r = s.heldNoted r := by
  rw [State.evaluate, if_pos (beq_iff_eq.mpr hp), if_neg (fun h => hd (State.canPublish_iff.mp h).2), State.waitNoted,
    if_pos (State.draftComplete_iff.mp hc), State.noteHeld_eq]

theorem State.evaluate_publishes (hp : s.phase r = .pending) (hc : s.DraftComplete r) (hd : s.BankAvailable r) :
    s.evaluate r = s.publish r := by
  rw [State.evaluate, if_pos (beq_iff_eq.mpr hp), if_pos (State.canPublish_iff.mpr ⟨hc, hd⟩)]

/-! ### Triggers (R29, R30, R107) -/

/-- The trigger counted (R107). -/
def State.counted (s : State) (r : RegionIx) (src : Source) : State := s.modCounters r fun c => c.countTrigger src

theorem State.deliver_of_not_working {src : Source} (h : (s.phase r).working = false) : s.deliver r src = s := by
  rw [State.deliver, h]
  rfl

theorem State.phase_counted (src : Source) : (s.counted r src).phase r = s.phase r :=
  congrArg Runtime.phase (s.run_modCounters r r _)

theorem State.deliver_eq {src : Source} (h : (s.phase r).working = true) :
    s.deliver r src = (s.counted r src).takeTrigger r src := by
  rw [State.deliver, if_pos h]
  rfl

theorem Counters.countTrigger_empty (c : Counters) (src : Source) : (c.countTrigger src).empty = c.empty := by
  cases src <;> rfl

theorem Counters.countTrigger_merged (c : Counters) (src : Source) : (c.countTrigger src).merged = c.merged := by
  cases src <;> rfl

theorem Counters.countTrigger_held (c : Counters) (src : Source) : (c.countTrigger src).held = c.held := by
  cases src <;> rfl

theorem State.modCounters_modCounters (s : State) (r : RegionIx) (f g : Counters → Counters) :
    (s.modCounters r f).modCounters r g = s.modCounters r fun c => g (f c) :=
  s.modRegion_modRegion r _ _

theorem State.draftEmpty_counted (src : Source) : (s.counted r src).DraftEmpty r ↔ s.DraftEmpty r :=
  State.draftEmpty_congr (by simp [State.counted]) (by simp [State.counted]) (by simp [State.counted]) rfl

/-- In OPEN with an EMPTY draft the trigger is counted EMPTY and noticed. -/
theorem State.deliver_empty {src : Source} (hp : s.phase r = .opened) (he : s.DraftEmpty r) :
    s.deliver r src =
      (s.modCounters r fun c => { c.countTrigger src with empty := satInc c.empty }).setNotices
        (s.notices.raised (s.config r).noticeMask (s.noticeOf r .empty none src.code)) := by
  have he' : (s.counted r src).isEmptyDraft r = true :=
    State.draftEmpty_iff.mp ((State.draftEmpty_counted src).mpr he)
  rw [State.deliver_eq (by simp [hp, Phase.working]), State.takeTrigger, State.phase_counted, hp]
  simp only [he', if_true]
  rw [State.chargeEmpty, State.counted, State.modCounters_modCounters, State.raiseNotice_modCounters]
  simp only [Counters.countTrigger_empty]

/-- In PENDING the trigger sets the follow-on flag. -/
theorem State.deliver_follows {src : Source} (hp : s.phase r = .pending) (hf : (s.run r).followOn = false) :
    s.deliver r src =
      s.modRegion r fun g =>
        { g with counters := g.counters.countTrigger src, run := { g.run with followOn := true } } := by
  have hf' : ((s.counted r src).run r).followOn = false := by simp [State.counted, hf]
  rw [State.deliver_eq (by simp [hp, Phase.working]), State.takeTrigger, State.phase_counted, hp]
  simp only [hf', Bool.false_eq_true, if_false]
  rw [State.counted, State.modCounters, State.modRun, State.modRegion_modRegion]

/-- Where it is set, the trigger is MERGED and noticed. -/
theorem State.deliver_merged {src : Source} (hp : s.phase r = .pending) (hf : (s.run r).followOn = true) :
    s.deliver r src =
      (s.modCounters r fun c => { c.countTrigger src with merged := satInc c.merged }).setNotices
        (s.notices.raised (s.config r).noticeMask (s.noticeOf r .merged none src.code)) := by
  have hf' : ((s.counted r src).run r).followOn = true := by simp [State.counted, hf]
  rw [State.deliver_eq (by simp [hp, Phase.working]), State.takeTrigger, State.phase_counted, hp]
  simp only [hf', if_true]
  rw [State.chargeMerged, State.counted, State.modCounters_modCounters, State.raiseNotice_modCounters]
  simp only [Counters.countTrigger_merged]

/-- The region after a trigger that makes it PENDING (R29). -/
def Region.waiting (g : Region) (src : Source) : Region :=
  { g with
    counters := g.counters.countTrigger src
    run := { g.run with phase := .pending, followOn := false, heldNotice := false } }

/-- In OPEN with a draft that is not EMPTY the region becomes PENDING and is evaluated. -/
theorem State.deliver_waits {src : Source} (hp : s.phase r = .opened) (he : ¬s.DraftEmpty r) :
    s.deliver r src = (s.modRegion r fun g => g.waiting src).evaluate r := by
  have he' : (s.counted r src).isEmptyDraft r = false := by
    rw [← Bool.not_eq_true, ← State.draftEmpty_iff]
    exact mt (State.draftEmpty_counted src).mp he
  rw [State.deliver_eq (by simp [hp, Phase.working]), State.takeTrigger, State.phase_counted, hp]
  simp only [he', Bool.false_eq_true, if_false]
  rw [State.enterPending, State.counted, State.modRun, State.modCounters, State.modRegion_modRegion]
  rfl

section
variable (s r) (src : Source)

theorem State.run_waiting : (s.modRegion r fun g => g.waiting src).run r =
    { s.run r with phase := .pending, followOn := false, heldNotice := false } := by
  simp [State.run, Region.waiting]

theorem State.draftComplete_waiting :
    (s.modRegion r fun g => g.waiting src).DraftComplete r ↔ s.DraftComplete r :=
  State.draftComplete_congr (by rw [State.run_waiting]) (by rw [State.run_waiting]) (by rw [State.run_waiting])
    (by simp [State.config, Region.waiting]) rfl rfl

theorem State.bankAvailable_waiting :
    (s.modRegion r fun g => g.waiting src).BankAvailable r ↔ s.BankAvailable r :=
  State.bankAvailable_congr (by rw [State.run_waiting]) rfl

theorem State.config_waiting : (s.modRegion r fun g => g.waiting src).config r = s.config r := by
  simp [State.config, Region.waiting]

theorem State.noticeOf_waiting (k : NoticeKind) (tag : Option Tag) (d : BitVec 16) :
    (s.modRegion r fun g => g.waiting src).noticeOf r k tag d = s.noticeOf r k tag d := by
  simp only [State.noticeOf, State.run_waiting]
  rfl

theorem State.phase_waiting : (s.modRegion r fun g => g.waiting src).phase r = .pending :=
  congrArg Runtime.phase (s.run_waiting r src)

end

theorem State.deliver_waits_incomplete {src : Source} (hp : s.phase r = .opened) (he : ¬s.DraftEmpty r)
    (hc : ¬s.DraftComplete r) : s.deliver r src = s.modRegion r fun g => g.waiting src := by
  rw [State.deliver_waits hp he, State.evaluate_of_incomplete fun _ => mt (s.draftComplete_waiting r src).mp hc]

/-- Where (d) alone fails HELD is noted at once, the flag being clear. -/
theorem State.deliver_held {src : Source} (hp : s.phase r = .opened) (he : ¬s.DraftEmpty r) (hc : s.DraftComplete r)
    (hd : ¬s.BankAvailable r) :
    s.deliver r src =
      (s.modRegion r fun g =>
        { g with
          counters := { g.counters.countTrigger src with held := satInc g.counters.held }
          run := { g.run with phase := .pending, followOn := false, heldNotice := true } }).setNotices
        (s.notices.raised (s.config r).noticeMask
          (s.noticeOf r .held none
            (match (s.run r).thirdBank with
              | .bankA => 0
              | .bankB => 1
              | .bankC => 2))) := by
  rw [State.deliver_waits hp he, State.evaluate_held (s.phase_waiting r src)
    ((s.draftComplete_waiting r src).mpr hc) (mt (s.bankAvailable_waiting r src).mp hd),
    State.heldNoted_eq (by rw [State.run_waiting]), State.modRegion_modRegion, State.noticeOf_waiting,
    State.config_waiting, State.run_waiting]
  simp only [Region.waiting, Counters.countTrigger_held]
  rfl

theorem State.deliver_publishes {src : Source} (hp : s.phase r = .opened) (he : ¬s.DraftEmpty r)
    (hc : s.DraftComplete r) (hd : s.BankAvailable r) :
    s.deliver r src = (s.modRegion r fun g => g.waiting src).publish r := by
  rw [State.deliver_waits hp he, State.evaluate_publishes (s.phase_waiting r src)
    ((s.draftComplete_waiting r src).mpr hc) ((s.bankAvailable_waiting r src).mpr hd)]

end

end Sys2Proof.Machine


/-! SUPPORT. A publication and a grant read nothing of the link but the RESTART that may wait, and leave it as it
stands; then PUBLISH (R117). -/

namespace Sys2Proof.Machine

set_option Elab.async false

section
variable (s : State) (l : Link)

theorem State.modCounters_setLink (r : RegionIx) (f : Counters → Counters) :
    (s.setLink l).modCounters r f = (s.modCounters r f).setLink l := rfl

theorem State.modRun_setLink (r : RegionIx) (f : Runtime → Runtime) :
    (s.setLink l).modRun r f = (s.modRun r f).setLink l := rfl

theorem State.modRange_setLink (c : RegionConfig) (f : LineEntry → LineEntry) :
    (s.setLink l).modRange c f = (s.modRange c f).setLink l := rfl

theorem State.engineTake_setLink : (s.setLink l).engineTake = s.engineTake.setLink l := by
  have hregion (ix : Nat) : (s.setLink l).regionOfLine ix = s.regionOfLine ix := rfl
  unfold State.engineTake
  rw [State.setLink_catchup]
  split
  · rw [hregion]
    split <;> rfl
  · rfl

theorem State.appendLines_setLink (k : CopyKind) (ixs : List Nat) :
    (s.setLink l).appendLines k ixs = (s.appendLines k ixs).setLink l :=
  State.engineTake_setLink ((s.setQueue (s.catchup.queue ++ ixs.map fun i => (⟨i, k⟩ : CatchEntry))).modLines fun j e =>
    if ixs.contains j then { e with queued := true } else e) l

theorem State.promote_setLink (ix : Nat) : (s.setLink l).promote ix = (s.promote ix).setLink l :=
  State.engineTake_setLink (s.setQueue (promoteIn s.catchup.queue ix)) l

theorem State.raiseNotice_setLink (r : RegionIx) (k : NoticeKind) (t : Option Tag) (d : BitVec 16) :
    (s.setLink l).raiseNotice r k t d = (s.raiseNotice r k t d).setLink l := by
  rw [State.raiseNotice_eq, State.raiseNotice_eq]
  rfl

theorem State.chargeEmpty_setLink (r : RegionIx) (x : Source) :
    (s.setLink l).chargeEmpty r x = (s.chargeEmpty r x).setLink l := by
  rw [State.chargeEmpty, State.modCounters_setLink, State.raiseNotice_setLink, State.chargeEmpty]

theorem State.publishCore_setLink (r : RegionIx) : (s.setLink l).publishCore r = (s.publishCore r).setLink l := by
  dsimp only [State.publishCore]
  rw [show (s.setLink l).run r = s.run r from rfl, show (s.setLink l).viewed = s.viewed from rfl,
    show (s.setLink l).config r = s.config r from rfl, State.modRun_setLink, State.modRange_setLink,
    State.appendLines_setLink, State.raiseNotice_setLink]
  rfl

theorem State.noteHeld_setLink (r : RegionIx) : (s.setLink l).noteHeld r = (s.noteHeld r).setLink l := by
  unfold State.noteHeld
  rw [show (s.setLink l).run r = s.run r from rfl]
  split
  · rfl
  · rw [State.chargeHeld, State.modRun_setLink, State.modCounters_setLink, State.raiseNotice_setLink,
      State.chargeHeld]
    rfl

theorem State.waitNoted_setLink (r : RegionIx) : (s.setLink l).waitNoted r = (s.waitNoted r).setLink l := by
  unfold State.waitNoted
  rw [show (s.setLink l).condA r = s.condA r from rfl, show (s.setLink l).condB r = s.condB r from rfl,
    show (s.setLink l).condC r = s.condC r from rfl]
  split
  · exact State.noteHeld_setLink s l r
  · rfl

/-- The follow-on once its flag is cleared. -/
def State.followed (s : State) (r : RegionIx) : State :=
  if s.isEmptyDraft r then s.chargeEmpty r .followOn
  else
    if (s.enterPending r).canPublish r then (s.enterPending r).publishCore r else (s.enterPending r).waitNoted r

theorem State.followOn_eq (s : State) (r : RegionIx) :
    s.followOn r = if (s.run r).followOn then (s.modRun r fun t => { t with followOn := false }).followed r else s :=
  rfl

theorem State.followed_setLink (r : RegionIx) : (s.setLink l).followed r = (s.followed r).setLink l := by
  unfold State.followed
  rw [show (s.setLink l).isEmptyDraft r = s.isEmptyDraft r from rfl]
  split
  · exact State.chargeEmpty_setLink s l r _
  · rw [show ((s.setLink l).enterPending r).canPublish r = (s.enterPending r).canPublish r from rfl]
    split
    · exact State.publishCore_setLink (s.enterPending r) l r
    · exact State.waitNoted_setLink (s.enterPending r) l r

theorem State.followOn_setLink (r : RegionIx) : (s.setLink l).followOn r = (s.followOn r).setLink l := by
  rw [State.followOn_eq, State.followOn_eq, show (s.setLink l).run r = s.run r from rfl]
  split
  · exact State.followed_setLink (s.modRun r fun t => { t with followOn := false }) l r
  · rfl

theorem State.markDirty_setLink (r : RegionIx) (ix : Nat) :
    (s.setLink l).markDirty r ix = (s.markDirty r ix).setLink l := by
  unfold State.markDirty
  rw [show (s.setLink l).line ix = s.line ix from rfl]
  split <;> rfl

theorem State.countIssue_setLink (r : RegionIx) (ix : Nat) :
    (s.setLink l).countIssue r ix = (s.countIssue r ix).setLink l := by
  rw [State.countIssue, State.markDirty_setLink]
  rfl

theorem State.issueDrain_setLink (k : ParkKey) (x : Bool) :
    (s.setLink l).issueDrain k x = (s.issueDrain k x).setLink l := by
  unfold State.issueDrain
  rw [show (s.setLink l).parked k = s.parked k from rfl]
  split
  · rfl
  · next e _ =>
    exact congrArg (fun t : State => (t.modEntry k fun x => { x with changed := false }).setSlot (.writing k x))
      (State.countIssue_setLink (s.requestDrain (s.drainAccess e)) l k.region _)

theorem State.restartWaits_congr {s t : State} (h : t.link.waiting = s.link.waiting) :
    t.restartWaits = s.restartWaits := by
  rw [State.restartWaits, h, State.restartWaits]

variable {s l} (hw : l.waiting = s.link.waiting)
include hw

theorem State.drainReady_setLink (k : ParkKey) : (s.setLink l).drainReady k = s.drainReady k := by
  rw [State.drainReady, State.restartWaits_congr (s := s) hw]
  rfl

theorem State.drainTry_setLink (k : ParkKey) (x : Bool) :
    (s.setLink l).drainTry k x = (s.drainTry k x).setLink l := by
  have hready := State.drainReady_setLink (s := s.setSlot (.waiting k x)) hw k
  dsimp only [State.drainTry]
  rw [show (s.setLink l).config k.region = s.config k.region from rfl, show ((s.setLink l).setSlot (.waiting k x)).drainReady k = (s.setSlot (.waiting k x)).drainReady k from hready]
  split
  · exact State.issueDrain_setLink (s.setSlot (.waiting k x)) l k x
  · rw [show ((s.setLink l).setSlot (.waiting k x)).draftStale = (s.setSlot (.waiting k x)).draftStale from rfl,
      show ((s.setLink l).setSlot (.waiting k x)).line = (s.setSlot (.waiting k x)).line from rfl]
    split
    · exact State.promote_setLink (s.setSlot (.waiting k x)) l _
    · rfl

theorem State.drainNext_setLink : (s.setLink l).drainNext = s.drainNext.setLink l := by
  have hfind : (s.setLink l).park.entries.find? (s.setLink l).eligible = s.park.entries.find? s.eligible := rfl
  unfold State.drainNext
  rw [State.restartWaits_congr (s := s) hw, hfind]
  rw [State.setLink_park]
  split
  · split
    · rfl
    · split
      · rfl
      · exact State.drainTry_setLink hw _ false
  · rfl

theorem State.publish_setLink (r : RegionIx) : (s.setLink l).publish r = (s.publish r).setLink l := by
  rw [State.publish, State.publishCore_setLink, State.followOn_setLink]
  exact State.drainNext_setLink (by simpa using hw)

theorem State.grantNext_setLink : (s.setLink l).grantNext = s.grantNext.setLink l := by
  unfold State.grantNext State.grantable
  rw [State.restartWaits_congr (s := s) hw]
  rw [State.setLink_bus, State.setLink_clock, show (s.setLink l).headWaitsLine = s.headWaitsLine from rfl]
  split
  · split
    · rfl
    · split <;> rfl
  · rfl

end

/-! ### PUBLISH -/

/-- A link command that is refused or executed for its region, and ends with a grant. -/
theorem CompletesGranting.of_region {c : Instr} {s : State} {seq region : Byte} {run : State → RegionIx → State}
    (hc : exec c s = .next (s.endFrame fun t => t.withRegion seq region (run t)).grantNext) (hs : s.Receiving) :
    (16 ≤ region.toNat → CompletesGranting c s (s.replied (nakOf seq 4#8 0xFF#8))) ∧
      ∀ r : RegionIx, region.toNat = r.val → exec c s = .next (run s.executing r).grantNext := by
  rw [State.endFrame_executing hs] at hc
  refine ⟨fun h => CompletesGranting.of_exec ?_, fun r hr => ?_⟩
  · rw [hc, State.withRegion, regionOf_of_le h]
    rfl
  · rw [hc, State.withRegion, regionOf_of_toNat hr]


theorem exec_publish_of_working {seq region : Byte} {s : State} {r : RegionIx} (hs : s.Receiving)
    (hr : region.toNat = r.val) (hp : (s.phase r).working = true) :
    exec (.publish seq region) s = .next ((s.executing.deliver r .manual).ack seq []).grantNext := by
  rw [(CompletesGranting.of_region (run := fun t r => t.publishRegion seq r) rfl hs).2 r hr, State.publishRegion,
    if_pos (show (s.executing.phase r).working = true from hp)]

/-- The answer of a command that published, and the grant after it, in the order of the publication alone. -/
theorem State.grantNext_publish_ack {s : State} (hw : s.link.waiting = none) (r : RegionIx) (seq : Byte) :
    ((s.executing.publish r).ack seq []).grantNext = (s.publish r).grantNext.replied (ackOf seq []) := by
  have hlink : (s.publish r).grantNext.link = s.link := by simp
  rw [State.executing,
    State.publish_setLink (s := s) (l := { s.link.frameEnded with state := .executing }) rfl]
  refine (State.grantNext_setLink (s := s.publish r) ?_).trans ?_
  · simp [hw]
  · rw [State.replied, State.answered, State.frameOver, hlink]
    rfl

/-- A publication that the trigger brings about is that of the pending region. -/
theorem exec_publish_publishes {seq region : Byte} {s : State} {r : RegionIx} (hs : s.Receiving)
    (hr : region.toNat = r.val) (hp : s.phase r = .opened) (he : ¬s.DraftEmpty r) (hc : s.DraftComplete r)
    (hd : s.BankAvailable r) (hw : s.link.waiting = none) :
    ∃ v : State,
      exec (.publication r) (s.modRegion r fun g => g.waiting .manual) = .next v ∧
        exec (.publish seq region) s = .next (v.replied (ackOf seq [])) := by
  have hcan : (s.modRegion r fun g => g.waiting .manual).canPublish r = true :=
    State.canPublish_iff.mpr
      ⟨(s.draftComplete_waiting r .manual).mpr hc, (s.bankAvailable_waiting r .manual).mpr hd⟩
  refine ⟨((s.modRegion r fun g => g.waiting .manual).publish r).grantNext, ?_, ?_⟩
  · refine (if_pos ?_)
    rw [hcan, s.phase_waiting r .manual]
    rfl
  · rw [exec_publish_of_working hs hr (by simp [hp, Phase.working]),
      State.deliver_publishes (s := s.executing) hp he hc hd]
    have hsame : (s.executing.modRegion r fun g => g.waiting .manual) =
        (s.modRegion r fun g => g.waiting .manual).executing := rfl
    rw [hsame, State.grantNext_publish_ack (s := s.modRegion r fun g => g.waiting .manual) hw r seq]

/-- Settles O30: PUBLISH by the phase and the draft of its region. -/
theorem manualTrigger : Obligations.ManualTrigger := by
  intro seq region s hs c
  obtain ⟨hbad, hrun⟩ :=
    CompletesGranting.of_region (c := c) (run := fun t r => t.publishRegion seq r) rfl hs
  refine ⟨hbad, ?_⟩
  intro r hr g counted withRegion raised
  refine ⟨fun hopened hpending => ?_, fun hp he => ?_, fun hp hf => ?_, fun hp hf => ?_, fun hp he => ⟨fun hc => ?_,
    fun hc hd => ?_, fun hc hd hw => ?_⟩⟩
  · refine CompletesGranting.of_exec ((hrun r hr).trans ?_)
    have hnot : (s.executing.phase r).working ≠ true := by
      have hphase : s.executing.phase r = s.phase r := rfl
      rw [hphase]
      cases h : s.phase r <;> simp_all [Phase.working]
    rw [State.publishRegion, if_neg hnot]
    rfl
  · refine CompletesGranting.of_exec ((exec_publish_of_working hs hr (by simp [hp, Phase.working])).trans ?_)
    rw [State.deliver_empty (s := s.executing) hp he]
    rfl
  · refine CompletesGranting.of_exec ((exec_publish_of_working hs hr (by simp [hp, Phase.working])).trans ?_)
    rw [State.deliver_follows (s := s.executing) hp hf]
    rfl
  · refine CompletesGranting.of_exec ((exec_publish_of_working hs hr (by simp [hp, Phase.working])).trans ?_)
    rw [State.deliver_merged (s := s.executing) hp hf]
    rfl
  · refine CompletesGranting.of_exec ((exec_publish_of_working hs hr (by simp [hp, Phase.working])).trans ?_)
    rw [State.deliver_waits_incomplete (s := s.executing) hp he hc]
    rfl
  · refine CompletesGranting.of_exec ((exec_publish_of_working hs hr (by simp [hp, Phase.working])).trans ?_)
    rw [State.deliver_held (s := s.executing) hp he hc hd]
    rfl
  · exact exec_publish_publishes hs hr hp he hc hd hw

end Sys2Proof.Machine


/-! SUPPORT. The tick and the sample of a REFCLK period (R53, R93, R105, R106, R109, R110, R115, R159). -/

namespace Sys2Proof.Machine

set_option Elab.async false

/-! ### The tick -/

theorem PeriodTimer.tick_eq (t : PeriodTimer) :
    t.tick = if t.running then ⟨true, t.remaining - 1⟩ else t := by
  unfold PeriodTimer.tick
  split
  · next h => rw [← h]
  · rfl

theorem Head.tick_of_ne {h : Head} (hne : ∀ timer k, h.progress ≠ .waitPark timer k) : h.tick = h := by
  obtain ⟨p, d⟩ := h
  cases p <;> simp_all [Head.tick]

theorem Port.tick_of_ne {p : Port} (hne : ∀ txn timer, p ≠ .inFlight txn timer) : p.tick = p := by
  cases p <;> simp_all [Port.tick]

theorem State.tickAll_host_of_ne {s : State} (hne : ∀ timer k, s.progress ≠ some (.waitPark timer k)) :
    s.tickAll.host = s.host := by
  have hhead : s.host.head.map Head.tick = s.host.head := by
    cases h : s.host.head with
    | none => rfl
    | some x =>
      have hx (timer k) : x.progress ≠ .waitPark timer k := by
        have := hne timer k
        simpa [State.progress, h] using this
      simp [Head.tick_of_ne hx]
  exact congrArg (fun x => { s.host with head := x }) hhead

/-- Settles O56: every countdown of the state takes the tick. -/
theorem tickTaken : Obligations.TickTaken := by
  intro s
  refine ⟨fun h => if_neg (by simp [h]), fun h => ⟨s.tickAll, if_pos h, rfl, fun k => ?_, fun timer k d hh => ?_,
    State.tickAll_host_of_ne, fun txn timer hp => ?_, fun hp => ?_, fun r => ?_, rfl, rfl, rfl, rfl, rfl, rfl⟩⟩
  · exact vmap_get (fun _ v => v.map View.tick) s.views k
  · refine congrArg (fun x => { s.host with head := x }) ?_
    show s.host.head.map Head.tick = _
    rw [hh]
    rfl
  · simp [State.tickAll, State.modRegions, hp, Port.tick]
  · simp [State.tickAll, State.modRegions, Port.tick_of_ne hp]
  · rw [State.tickAll, State.region_modRegions, PeriodTimer.tick_eq]
    rfl

/-! ### The sample -/

theorem View.due_eq_false_iff (v : View) : v.due = false ↔ (v.inUse = false → v.idle ≠ 0 ∧ v.age ≠ 0) := by
  simp [View.due, View.spent]

theorem PeriodTimer.due_eq_false_iff (t : PeriodTimer) :
    t.due = false ↔ (t.running = true → t.remaining ≠ 0) := by
  simp [PeriodTimer.due]

theorem State.expiryDue_eq_false_iff (s : State) :
    s.expiryDue = false ↔
      (∀ (k : Slot) (v : View), s.view k = some v → v.inUse = false → v.idle ≠ 0 ∧ v.age ≠ 0) ∧
        (∀ r : RegionIx, (s.region r).timer.running = true → (s.region r).timer.remaining ≠ 0) ∧
        (∀ k : Nat, s.progress ≠ some (.waitPark 0 k)) ∧ ∀ txn : Txn, s.bus.port ≠ .inFlight txn 0 := by
  have hviews : (slotIxs.any fun k => (s.view k).any View.due) = false ↔
      ∀ (k : Slot) (v : View), s.view k = some v → v.inUse = false → v.idle ≠ 0 ∧ v.age ≠ 0 := by
    simp [List.any_eq_false, mem_slotIxs, Option.any_eq_true, ← View.due_eq_false_iff]
  have htimers : (regionIxs.any fun r => (s.region r).timer.due) = false ↔
      ∀ r : RegionIx, (s.region r).timer.running = true → (s.region r).timer.remaining ≠ 0 := by
    simp [List.any_eq_false, mem_regionIxs, ← PeriodTimer.due_eq_false_iff]
  rw [State.expiryDue, Bool.or_eq_false_iff, Bool.or_eq_false_iff, Bool.or_eq_false_iff, hviews, htimers, and_assoc,
    and_assoc]
  refine and_congr_right fun _ => and_congr_right fun _ => and_congr ?_ ?_
  · split
    · next h => simp [h]
    · next h => simpa using h
  · split
    · next h => simp [h]
    · next h => simpa using h

theorem State.instantDue_eq_false_iff (s : State) : s.instantDue = false ↔ s.Settled := by
  have hlines : s.strobes.lines.toList.any (·.due) = false ↔ ∀ i : Fin 4, (s.strobes.lines.get i).due = false := by
    simp [Vector.any_eq_false, Vector.get_eq_getElem, Fin.forall_iff]
  rw [State.instantDue, Bool.or_eq_false_iff, Bool.or_eq_false_iff, hlines, State.expiryDue_eq_false_iff, and_assoc]
  rfl

theorem TimeBase.period_eq (c : TimeBase) :
    c.period =
      if c.prescaler + 1 < c.timing.tickDiv then { c with prescaler := c.prescaler + 1 }
      else { c with prescaler := 0, tickDue := true } := by
  unfold TimeBase.period
  split
  · next h => rw [if_neg (by omega)]
  · next h => rw [if_pos (by omega)]

theorem Strobes.period_full {x : Strobes} {early late : Vector Bool 4} (h : x.sync = [early, late])
    (filters : Vector Filter 4) (pins : Vector Bool 4) :
    x.period filters pins = ⟨x.sampleLines filters early, [late, pins]⟩ := by
  rw [Strobes.period, h]

theorem Strobes.period_filling {x : Strobes} (h : x.sync.length < 2) (filters : Vector Filter 4)
    (pins : Vector Bool 4) : x.period filters pins = { x with sync := x.sync ++ [pins] } := by
  unfold Strobes.period
  split
  · next hsync => simp [hsync] at h
  · rfl

theorem Strobes.sampleLines_get (x : Strobes) (filters : Vector Filter 4) (pins : Vector Bool 4) (i : Fin 4) :
    (x.sampleLines filters pins).get i = (x.lines.get i).sample (filters.get i).count (pins.get i) := by
  simp [Strobes.sampleLines, Vector.get_eq_getElem]

theorem StrobeLine.sample_first {l : StrobeLine} (h : l.sampled = false) (n : Nat) (x : Bool) :
    l.sample n x = ⟨x, true, 0, false⟩ := by
  simp [StrobeLine.sample, h]

theorem StrobeLine.sample_same {l : StrobeLine} (hs : l.sampled = true) (hd : l.due = false) (n : Nat) {x : Bool}
    (h : x = l.level) : l.sample n x = ⟨l.level, true, 0, false⟩ := by
  simp [StrobeLine.sample, hs, h, hd]

theorem StrobeLine.sample_other {l : StrobeLine} (hs : l.sampled = true) (n : Nat) {x : Bool} (h : x ≠ l.level) :
    l.sample n x = ⟨l.level, true, l.run + 1, decide (n < l.run + 1)⟩ := by
  simp [StrobeLine.sample, hs, h]

/-- Settles O57: the prescaler, the synchroniser and the four lines take one REFCLK period. -/
theorem strobeSampled : Obligations.StrobeSampled := by
  intro s pins
  refine ⟨fun h => if_pos ?_, fun h => ⟨_, if_neg ?_, ?_, fun early late hsync => ?_, fun hlen => ?_⟩⟩
  · rwa [← State.instantDue_eq_false_iff, Bool.not_eq_false] at h
  · rwa [Bool.not_eq_true, State.instantDue_eq_false_iff]
  · rw [← TimeBase.period_eq]
    rfl
  · rw [State.setStrobes_strobes, Strobes.period_full hsync]
    refine ⟨rfl, fun i => ?_⟩
    show (_ → Vector.get (Strobes.sampleLines _ _ _) i = _) ∧ (_ → _ → Vector.get (Strobes.sampleLines _ _ _) i = _) ∧
      (_ → _ → Vector.get (Strobes.sampleLines _ _ _) i = _)
    rw [Strobes.sampleLines_get]
    exact ⟨fun hs => StrobeLine.sample_first hs _ _, fun hs => StrobeLine.sample_same hs (h.1 i) _,
      fun hs => StrobeLine.sample_other hs _⟩
  · exact Strobes.period_filling hlen _ _

end Sys2Proof.Machine


/-! SUPPORT. What a region's triggers, evaluations and publications leave of another region: all but the drain write
of an eligible entry, which the slot may take after a publication (R37). -/

namespace Sys2Proof.Machine

set_option Elab.async false

/-! ### Lines after an update of the catch-up unit -/

theorem State.line_modLines_eq (s : State) (f : Nat → LineEntry → LineEntry) (ix : Nat) :
    (s.modLines f).line ix = if ix < 2048 then f ix (s.line ix) else s.line ix := by
  by_cases h : ix < 2048
  · rw [State.line_modLines s f ix h, if_pos h]
  · rw [if_neg h]
    simp [State.line, h]

theorem State.stale_modLines {s : State} {f : Nat → LineEntry → LineEntry} (h : ∀ ix e, (f ix e).stale = e.stale)
    (ix : Nat) : ((s.modLines f).line ix).stale = (s.line ix).stale := by
  rw [State.line_modLines_eq]
  split
  · exact h ..
  · rfl

theorem State.stale_engineTake (s : State) (ix : Nat) : (s.engineTake.line ix).stale = (s.line ix).stale := by
  unfold State.engineTake
  split
  · split
    · rfl
    · next e rest _ _ _ _ _ =>
      refine Eq.trans ?_ (State.stale_modLines (s := s.setQueue rest)
        (f := fun j x => if j = e.line then { x with queued := false, busy := true } else x) ?_ ix)
      · rfl
      · intro j x
        split <;> rfl
  · rfl

theorem State.stale_promote (s : State) (i ix : Nat) : ((s.promote i).line ix).stale = (s.line ix).stale :=
  State.stale_engineTake (s.setQueue (promoteIn s.catchup.queue i)) ix

theorem State.stale_appendLines (s : State) (k : CopyKind) (l : List Nat) (ix : Nat) :
    ((s.appendLines k l).line ix).stale = (s.line ix).stale := by
  refine (State.stale_engineTake _ ix).trans (State.stale_modLines (s := s.setQueue _) (fun j e => ?_) ix)
  split <;> rfl

/-! ### What stands beside a region -/

/-- No parked entry of the region carries its draft frame (R29, R32). -/
def State.NoDraftEntry (s : State) (r : RegionIx) : Prop :=
  ∀ e ∈ s.park.entries, e.region = r → e.frameTag ≠ (s.run r).frame + 1

/-- `t` comes of `s` by what concerns other regions, and by drain writes of the region's eligible entries. -/
structure State.Beside (r : RegionIx) (s t : State) : Prop where
  entry : ∀ j, t.entry j = s.entry j
  active : ∀ j, (t.phase j).active = (s.phase j).active
  region : ∃ n d, t.region r = { s.region r with run := { s.run r with inFlight := n, dirtyLines := d } }
  counts : s.NoDraftEntry r → t.region r = s.region r
  keys : t.parkKeys = s.parkKeys
  views : t.views = s.views
  stale : s.AreasLaw → (s.phase r).active = true → ∀ ix, (s.config r).ownsLine ix = true →
    (t.line ix).stale = (s.line ix).stale

section
variable {r : RegionIx} {s t u : State}

theorem State.noDraftEntry_congr (hkeys : t.parkKeys = s.parkKeys) (hframe : (t.run r).frame = (s.run r).frame) :
    t.NoDraftEntry r ↔ s.NoDraftEntry r := by
  have hiff (x : State) : x.NoDraftEntry r ↔ ∀ k ∈ x.parkKeys, k.region = r → k.frameTag ≠ (x.run r).frame + 1 := by
    simp [State.NoDraftEntry, State.parkKeys, ParkEntry.key]
  rw [hiff t, hiff s, hkeys, hframe]

namespace State.Beside

theorem refl (s : State) : s.Beside r s :=
  ⟨fun _ => rfl, fun _ => rfl, ⟨_, _, rfl⟩, fun _ => rfl, rfl, rfl, fun _ _ _ _ => rfl⟩

section
variable (h : s.Beside r t)
include h

theorem config (j : RegionIx) : t.config j = s.config j := State.config_of_entry (h.entry j)

theorem run_eq : ∃ n d, t.run r = { s.run r with inFlight := n, dirtyLines := d } := by
  obtain ⟨n, d, heq⟩ := h.region
  exact ⟨n, d, congrArg Region.run heq⟩

theorem frame : (t.run r).frame = (s.run r).frame := by
  obtain ⟨n, d, heq⟩ := h.run_eq
  rw [heq]

theorem roles : (t.run r).roles = (s.run r).roles := by
  obtain ⟨n, d, heq⟩ := h.run_eq
  rw [heq]

theorem phase : t.phase r = s.phase r := by
  obtain ⟨n, d, heq⟩ := h.run_eq
  exact (congrArg Runtime.phase heq :)

theorem followOn : (t.run r).followOn = (s.run r).followOn := by
  obtain ⟨n, d, heq⟩ := h.run_eq
  rw [heq]

theorem heldNotice : (t.run r).heldNotice = (s.run r).heldNotice := by
  obtain ⟨n, d, heq⟩ := h.run_eq
  rw [heq]

theorem counters : (t.region r).counters = (s.region r).counters := by
  obtain ⟨n, d, heq⟩ := h.region
  rw [heq]

theorem noDraftEntry : t.NoDraftEntry r ↔ s.NoDraftEntry r := State.noDraftEntry_congr h.keys h.frame

theorem areasLaw (hareas : s.AreasLaw) : t.AreasLaw := by
  obtain ⟨hsound, hdisjoint⟩ := hareas
  simp only [State.AreasLaw, h.active, h.config]
  exact ⟨hsound, hdisjoint⟩

theorem draftEmpty : t.DraftEmpty r ↔ s.DraftEmpty r := by
  by_cases hnone : s.NoDraftEntry r
  · have hrun : t.run r = s.run r := congrArg Region.run (h.counts hnone)
    have hnone' := h.noDraftEntry.mpr hnone
    rw [State.NoDraftEntry, hrun] at hnone'
    simp only [State.DraftEmpty, hrun]
    exact ⟨fun ⟨hd, hf, _⟩ => ⟨hd, hf, hnone⟩, fun ⟨hd, hf, _⟩ => ⟨hd, hf, hnone'⟩⟩
  · exact ⟨fun ⟨_, _, he⟩ => absurd (h.noDraftEntry.mp he) hnone, fun ⟨_, _, he⟩ => absurd he hnone⟩

theorem draftComplete (hareas : s.AreasLaw) (hactive : (s.phase r).active = true) :
    t.DraftComplete r ↔ s.DraftComplete r := by
  by_cases hnone : s.NoDraftEntry r
  · have hrun : t.run r = s.run r := congrArg Region.run (h.counts hnone)
    have hnone' := h.noDraftEntry.mpr hnone
    have hstale (n : Nat) (hn : n < (s.config r).lines) :
        (t.line ((s.config r).lineBase + n)).stale = (s.line ((s.config r).lineBase + n)).stale :=
      h.stale hareas hactive _ (by simp [RegionConfig.ownsLine, hn])
    rw [State.NoDraftEntry, hrun] at hnone'
    simp only [State.DraftComplete, hrun, h.config]
    refine ⟨fun ⟨hs, hf, _⟩ => ⟨fun n hn => ?_, hf, hnone⟩, fun ⟨hs, hf, _⟩ => ⟨fun n hn => ?_, hf, hnone'⟩⟩
    · rw [← hstale n hn]
      exact hs n hn
    · rw [hstale n hn]
      exact hs n hn
  · exact ⟨fun ⟨_, _, he⟩ => absurd (h.noDraftEntry.mp he) hnone, fun ⟨_, _, he⟩ => absurd he hnone⟩

theorem bankAvailable : t.BankAvailable r ↔ s.BankAvailable r := State.bankAvailable_congr h.roles h.views

theorem trans (h' : t.Beside r u) : s.Beside r u := by
  refine ⟨fun j => (h'.entry j).trans (h.entry j), fun j => (h'.active j).trans (h.active j), ?_, fun hnone => ?_,
    h'.keys.trans h.keys, h'.views.trans h.views, fun hareas hactive ix hix => ?_⟩
  · obtain ⟨n, d, heq⟩ := h.region
    obtain ⟨n', d', heq'⟩ := h'.region
    exact ⟨n', d', by rw [heq', State.run, heq]⟩
  · exact (h'.counts (h.noDraftEntry.mpr hnone)).trans (h.counts hnone)
  · refine (h'.stale (h.areasLaw hareas) ?_ ix ?_).trans (h.stale hareas hactive ix hix)
    · rw [h.active]
      exact hactive
    · rw [h.config]
      exact hix

end

/-- Updates that keep regions, keys, views and stale sets keep all. -/
theorem of_regions (hregions : t.regions = s.regions) (hkeys : t.parkKeys = s.parkKeys) (hviews : t.views = s.views)
    (hstale : ∀ ix, (t.line ix).stale = (s.line ix).stale) : s.Beside r t :=
  ⟨fun j => State.entry_congr hregions j, fun j => by rw [State.phase_congr hregions],
    ⟨_, _, by rw [State.region_congr hregions]; rfl⟩, fun _ => State.region_congr hregions r, hkeys, hviews,
    fun _ _ ix _ => hstale ix⟩

theorem raiseNotice (s : State) (j : RegionIx) (k : NoticeKind) (tag : Option Tag) (d : BitVec 16) :
    s.Beside r (s.raiseNotice j k tag d) :=
  of_regions (by simp) (by simp [State.parkKeys]) (by simp) fun ix => by
    rw [State.line_congr (s := s) (by simp)]

theorem appendLines (s : State) (k : CopyKind) (l : List Nat) : s.Beside r (s.appendLines k l) :=
  of_regions (by simp) (by simp [State.parkKeys]) (by simp) (s.stale_appendLines k l)

theorem promote (s : State) (ix : Nat) : s.Beside r (s.promote ix) :=
  of_regions (by simp) (by simp [State.parkKeys]) (by simp) (s.stale_promote ix)

theorem setSlot (s : State) (d : DrainSlot) : s.Beside r (s.setSlot d) :=
  of_regions rfl rfl rfl fun _ => rfl

theorem modRegion_ne (s : State) {j : RegionIx} (hj : r ≠ j) {f : Region → Region}
    (hentry : ((f (s.region j)).config, (f (s.region j)).written) = s.entry j)
    (hactive : (f (s.region j)).run.phase.active = (s.phase j).active) : s.Beside r (s.modRegion j f) := by
  have hregion : (s.modRegion j f).region r = s.region r := State.region_modRegion_ne s hj f
  refine ⟨fun i => ?_, fun i => ?_, ⟨_, _, hregion⟩, fun _ => hregion, rfl, rfl, fun _ _ _ _ => rfl⟩
  · by_cases hi : i = j
    · subst hi
      rw [State.entry, State.region_modRegion_self]
      exact hentry
    · rw [State.entry, State.region_modRegion_ne s hi]
      rfl
  · by_cases hi : i = j
    · subst hi
      rw [State.phase, State.region_modRegion_self]
      exact hactive
    · rw [State.phase, State.region_modRegion_ne s hi]
      rfl

theorem modCounters_ne (s : State) {j : RegionIx} (hj : r ≠ j) (f : Counters → Counters) :
    s.Beside r (s.modCounters j f) := modRegion_ne s hj rfl rfl

theorem modRun_ne (s : State) {j : RegionIx} (hj : r ≠ j) {f : Runtime → Runtime}
    (hactive : (f (s.run j)).phase.active = (s.phase j).active) : s.Beside r (s.modRun j f) :=
  modRegion_ne s hj rfl hactive


theorem modRange_ne (s : State) {j : RegionIx} (hj : r ≠ j) (hactive : (s.phase j).active = true)
    (f : LineEntry → LineEntry) : s.Beside r (s.modRange (s.config j) f) := by
  refine ⟨fun _ => rfl, fun _ => rfl, ⟨_, _, rfl⟩, fun _ => rfl, rfl, rfl, fun hareas hr ix hix => ?_⟩
  have hlines := (configsOverlap_eq_false_iff.mp (hareas.2 r j hj hr hactive)).2
  have hnot : (s.config j).ownsLine ix = false := by
    simp only [overlaps, RegionConfig.ownsLine, Bool.and_eq_true, Bool.and_eq_false_iff, decide_eq_true_eq,
      decide_eq_false_iff_not] at *
    omega
  rw [State.modRange, State.line_modLines_eq, hnot]
  split <;> rfl

theorem chargeEmpty_ne (s : State) {j : RegionIx} (hj : r ≠ j) (x : Source) : s.Beside r (s.chargeEmpty j x) :=
  (modCounters_ne s hj _).trans (raiseNotice ..)

theorem chargeMerged_ne (s : State) {j : RegionIx} (hj : r ≠ j) (x : Source) : s.Beside r (s.chargeMerged j x) :=
  (modCounters_ne s hj _).trans (raiseNotice ..)

theorem chargeHeld_ne (s : State) {j : RegionIx} (hj : r ≠ j) : s.Beside r (s.chargeHeld j) :=
  (modCounters_ne s hj _).trans (raiseNotice ..)

theorem enterPending_ne (s : State) {j : RegionIx} (hj : r ≠ j) (hactive : (s.phase j).active = true) :
    s.Beside r (s.enterPending j) :=
  modRun_ne s hj hactive.symm

theorem noteHeld_ne (s : State) {j : RegionIx} (hj : r ≠ j) : s.Beside r (s.noteHeld j) := by
  unfold State.noteHeld
  split
  · exact refl s
  · exact (modRun_ne s hj rfl).trans (chargeHeld_ne _ hj)

theorem waitNoted_ne (s : State) {j : RegionIx} (hj : r ≠ j) : s.Beside r (s.waitNoted j) := by
  unfold State.waitNoted
  split
  · exact noteHeld_ne s hj
  · exact refl s

theorem publishCore_ne (s : State) {j : RegionIx} (hj : r ≠ j) (hactive : (s.phase j).active = true) :
    s.Beside r (s.publishCore j) := by
  have hrun : s.Beside r (s.modRun j fun t => t.published (s.viewed j (s.run j).liveBank)) :=
    modRun_ne s hj hactive.symm
  have hrange := modRange_ne (s.modRun j fun t => t.published (s.viewed j (s.run j).liveBank)) hj
    ((hrun.active j).trans hactive) (LineEntry.published (s.run j).draftBank)
  rw [hrun.config] at hrange
  exact ((hrun.trans hrange).trans (appendLines _ .fill _)).trans (raiseNotice ..)

theorem followed_ne (s : State) {j : RegionIx} (hj : r ≠ j) (hactive : (s.phase j).active = true) :
    s.Beside r (s.followed j) := by
  have hpending := enterPending_ne s hj hactive
  unfold State.followed
  split
  · exact chargeEmpty_ne s hj _
  · split
    · exact hpending.trans (publishCore_ne _ hj ((hpending.active j).trans hactive))
    · exact hpending.trans (waitNoted_ne _ hj)

theorem followOn_ne (s : State) {j : RegionIx} (hj : r ≠ j) (hactive : (s.phase j).active = true) :
    s.Beside r (s.followOn j) := by
  have hclear : s.Beside r (s.modRun j fun t => { t with followOn := false }) := modRun_ne s hj rfl
  rw [State.followOn_eq]
  split
  · exact hclear.trans (followed_ne _ hj ((hclear.active j).trans hactive))
  · exact refl s

/-! The drain slot may take an entry of any region: where it takes one of `r`, that one is of its draft frame. -/

/-- A tally of the region's writes and dirty lines. -/
theorem tally (s : State) {j : RegionIx} {f : Runtime → Runtime}
    (hf : ∃ n d, f (s.run j) = { s.run j with inFlight := n, dirtyLines := d })
    (hentry : j = r → ¬s.NoDraftEntry r) : s.Beside r (s.modRun j f) := by
  obtain ⟨n, d, hfrun⟩ := hf
  by_cases hj : r = j
  · subst hj
    have hother (i : RegionIx) (hi : i ≠ r) : (s.modRun r f).region i = s.region i := State.region_modRegion_ne s hi _
    have hself : (s.modRun r f).region r =
        { s.region r with run := { s.run r with inFlight := n, dirtyLines := d } } := by
      rw [State.modRun, State.region_modRegion_self, ← hfrun]
      rfl
    refine ⟨fun i => by simp, fun i => ?_, ⟨n, d, hself⟩, fun hnone => absurd hnone (hentry rfl), rfl, rfl,
      fun _ _ _ _ => rfl⟩
    by_cases hi : i = r
    · rw [hi, State.phase, hself]
      rfl
    · rw [State.phase, hother i hi]
      rfl
  · refine modRun_ne s hj ?_
    rw [hfrun]
    rfl

theorem dirtied (s : State) (ix : Nat) : s.Beside r (s.modLine ix fun e => { e with dirty := true }) :=
  of_regions rfl rfl rfl (State.stale_modLines fun j e => by split <;> rfl)

theorem countIssue (s : State) {j : RegionIx} (ix : Nat) (hentry : j = r → ¬s.NoDraftEntry r) :
    s.Beside r (s.countIssue j ix) := by
  have hdirty : s.Beside r (s.markDirty j ix) := by
    unfold State.markDirty
    split
    · exact refl s
    · exact (dirtied s ix).trans (tally _ ⟨_, _, rfl⟩ fun h => mt (dirtied s ix).noDraftEntry.mp (hentry h))
  exact hdirty.trans (tally _ ⟨_, _, rfl⟩ fun h => mt hdirty.noDraftEntry.mp (hentry h))

theorem modEntry (s : State) (k : ParkKey) {f : ParkEntry → ParkEntry} (hf : ∀ e, (f e).key = e.key) :
    s.Beside r (s.modEntry k f) :=
  of_regions rfl (State.keys_modEntry hf) rfl fun _ => rfl

theorem requestDrain (s : State) (a : Access) : s.Beside r (s.requestDrain a) :=
  of_regions rfl rfl rfl fun _ => rfl

theorem issueDrain (s : State) (k : ParkKey) (x : Bool) (hentry : k.region = r → ¬s.NoDraftEntry r) :
    s.Beside r (s.issueDrain k x) := by
  unfold State.issueDrain
  split
  · exact setSlot s _
  · exact (((requestDrain s _).trans (countIssue _ _ hentry)).trans
      (modEntry _ k (f := fun e => { e with changed := false }) fun _ => rfl)).trans (setSlot ..)

theorem drainTry (s : State) (k : ParkKey) (x : Bool) (hentry : k.region = r → ¬s.NoDraftEntry r) :
    s.Beside r (s.drainTry k x) := by
  have hslot : s.Beside r (s.setSlot (.waiting k x)) := setSlot s _
  unfold State.drainTry
  dsimp only
  split
  · exact hslot.trans (issueDrain _ k x hentry)
  · split
    · exact hslot.trans (promote ..)
    · exact hslot

theorem drainNext (s : State) : s.Beside r s.drainNext := by
  unfold State.drainNext
  split
  · split
    · exact refl s
    · split
      · exact refl s
      · next e hfind =>
        refine drainTry s e.key false fun hr hnone => ?_
        have helig := List.find?_some hfind
        rw [State.eligible, Bool.and_eq_true, beq_iff_eq] at helig
        obtain ⟨-, htag⟩ := helig
        refine hnone e (List.mem_of_find?_eq_some hfind) hr ?_
        rw [htag, show e.region = r from hr, Runtime.draftFrame]
  · exact refl s

theorem publish_ne (s : State) {j : RegionIx} (hj : r ≠ j) (hactive : (s.phase j).active = true) :
    s.Beside r (s.publish j) := by
  have hcore := publishCore_ne s hj hactive
  exact (hcore.trans (followOn_ne _ hj ((hcore.active j).trans hactive))).trans (drainNext _)

theorem evaluate_ne (s : State) {j : RegionIx} (hj : r ≠ j) : s.Beside r (s.evaluate j) := by
  unfold State.evaluate
  split
  · next hp =>
    split
    · exact publish_ne s hj (by rw [beq_iff_eq.mp hp]; rfl)
    · exact waitNoted_ne s hj
  · exact refl s

theorem takeTrigger_ne (s : State) {j : RegionIx} (hj : r ≠ j) (x : Source) : s.Beside r (s.takeTrigger j x) := by
  unfold State.takeTrigger
  split
  · next hp =>
    split
    · exact chargeEmpty_ne s hj x
    · exact (enterPending_ne s hj (by rw [hp]; rfl)).trans (evaluate_ne _ hj)
  · split
    · exact chargeMerged_ne s hj x
    · exact modRun_ne s hj rfl
  · exact refl s

theorem deliver_ne (s : State) {j : RegionIx} (hj : r ≠ j) (x : Source) : s.Beside r (s.deliver j x) := by
  unfold State.deliver
  split
  · exact (modCounters_ne s hj _).trans (takeTrigger_ne _ hj x)
  · exact refl s

theorem lastViewEnded_ne (s : State) {j : RegionIx} (hj : r ≠ j) (b : Bank) : s.Beside r (s.lastViewEnded j b) := by
  unfold State.lastViewEnded
  split
  · exact (modRun_ne s hj rfl).trans (evaluate_ne _ hj)
  · exact evaluate_ne s hj

end State.Beside

end

end Sys2Proof.Machine


/-! SUPPORT. The publication event of a region whose conditions hold (R34 to R38): what it does to the region's own
record and lines, and the place of the engine's take in it. -/

namespace Sys2Proof.Machine

set_option Elab.async false

/-! ### The engine's take among updates of regions and notices -/

theorem State.engineTake_setNotices (s : State) (n : NoticeUnit) :
    (s.setNotices n).engineTake = s.engineTake.setNotices n := by
  have hregion (ix : Nat) : (s.setNotices n).regionOfLine ix = s.regionOfLine ix := rfl
  unfold State.engineTake
  rw [State.setNotices_catchup]
  split
  · rw [hregion]
    split <;> rfl
  · rfl

theorem State.raiseNotice_engineTake (s : State) (r : RegionIx) (k : NoticeKind) (t : Option Tag) (d : BitVec 16) :
    s.engineTake.raiseNotice r k t d = (s.raiseNotice r k t d).engineTake := by
  have hregions : s.engineTake.regions = s.regions := by simp
  have hnotice : s.engineTake.noticeOf r k t d = s.noticeOf r k t d := by
    rw [State.noticeOf, State.run_congr hregions]
    simp [State.noticeOf]
  rw [State.raiseNotice_eq, State.raiseNotice_eq, State.engineTake_setNotices, hnotice,
    State.config_congr hregions]
  simp

/-- An update of a region that keeps its configuration and roles and that it is active does not reach the take. -/
theorem State.modRegion_engineTake (s : State) (r : RegionIx) {f : Region → Region}
    (hconfig : (f (s.region r)).config = s.config r) (hroles : (f (s.region r)).run.roles = (s.run r).roles)
    (hactive : (f (s.region r)).run.phase.active = (s.phase r).active) :
    s.engineTake.modRegion r f = (s.modRegion r f).engineTake := by
  have hread (j : RegionIx) : (s.modRegion r f).config j = s.config j ∧
      ((s.modRegion r f).run j).roles = (s.run j).roles ∧ ((s.modRegion r f).phase j).active = (s.phase j).active := by
    by_cases hj : j = r
    · subst hj
      simp only [State.config, State.run, State.phase, State.region_modRegion_self]
      exact ⟨hconfig, hroles, hactive⟩
    · simp only [State.config, State.run, State.phase, State.region_modRegion_ne s hj]
      trivial
  have hof (ix : Nat) : (s.modRegion r f).regionOfLine ix = s.regionOfLine ix := by
    simp only [State.regionOfLine, hread]
  have hcopy (e : CatchEntry) (j : RegionIx) : (s.modRegion r f).resolveCopy e j = s.resolveCopy e j := by
    have hbanks := (hread j).2.1
    simp only [State.resolveCopy, Runtime.liveBank, Runtime.draftBank, hbanks]
  unfold State.engineTake
  rw [State.modRegion_catchup]
  split
  · rw [hof]
    split
    · rfl
    · next e rest _ _ _ j _ =>
      rw [hcopy, State.startReading, State.startReading, State.copyRead, State.copyRead,
        show State.config (State.modLine (State.setQueue (s.modRegion r f) rest) e.line _) _ = _ from (hread _).1]
      rfl
  · rfl

/-! ### The follow-on (R38) -/

section
variable {s : State} {r : RegionIx}

theorem State.followOn_of_clear (h : (s.run r).followOn = false) : s.followOn r = s := by
  rw [State.followOn_eq, h]
  exact if_neg Bool.false_ne_true

theorem State.followOn_of_empty (h : (s.run r).followOn = true) (he : s.DraftEmpty r) :
    s.followOn r = (s.modRun r fun t => { t with followOn := false }).chargeEmpty r .followOn := by
  have hempty : (s.modRun r fun t => { t with followOn := false }).isEmptyDraft r = true := by
    refine State.draftEmpty_iff.mp ((State.draftEmpty_congr ?_ ?_ ?_ ?_).mpr he) <;> simp
  rw [State.followOn_eq, if_pos h, State.followed, if_pos hempty]

/-- With a word parked for the draft the follow-on makes the region PENDING, and condition (c) fails. -/
theorem State.followOn_of_entry (h : (s.run r).followOn = true) (he : ¬s.NoDraftEntry r) :
    s.followOn r =
      s.modRun r fun t => { t with phase := .pending, followOn := false, heldNotice := false } := by
  have hnot (f : Runtime → Runtime) (hf : (f (s.run r)).frame = (s.run r).frame) :
      ¬(s.modRun r f).NoDraftEntry r :=
    fun hx => he ((State.noDraftEntry_congr (s := s) (t := s.modRun r f) rfl (by rw [State.run_modRun_self, hf])).mp hx)
  have hempty : (s.modRun r fun t => { t with followOn := false }).isEmptyDraft r ≠ true := fun hx =>
    hnot _ rfl (State.draftEmpty_iff.mpr hx).2.2
  have hwaits : (s.modRun r fun t => { t with followOn := false }).enterPending r =
      s.modRun r fun t => { t with phase := .pending, followOn := false, heldNotice := false } :=
    s.modRun_modRun r _ _
  have hincomplete : ¬(s.modRun r fun t =>
      { t with phase := .pending, followOn := false, heldNotice := false }).DraftComplete r := fun hc =>
    hnot _ rfl hc.2.2
  rw [State.followOn_eq, if_pos h, State.followed, if_neg hempty, hwaits,
    if_neg fun hc => hincomplete (State.canPublish_iff.mp hc).1, State.waitNoted_of_incomplete hincomplete]

/-! ### The region's own record (R34, R35, R36, R38) -/

/-- Roles, frame and lines after a publication (R34 to R36). -/
def State.rotated (s : State) (r : RegionIx) : State :=
  (s.modRun r fun t => t.published (s.viewed r (s.run r).liveBank)).modRange (s.config r)
    (LineEntry.published (s.run r).draftBank)

/-- Lines appended to the catch-up queue, before the engine's take (R68). -/
def State.appended (s : State) (k : CopyKind) (ixs : List Nat) : State :=
  (s.setQueue (s.catchup.queue ++ ixs.map (⟨·, k⟩))).modLines fun j e =>
    if ixs.contains j then { e with queued := true } else e

/-- A publication up to the engine's take and the follow-on (R34 to R37). -/
def State.announced (s : State) (r : RegionIx) : State :=
  ((s.rotated r).appended .fill ((s.rotated r).linesToFill r)).raiseNotice r .published none
    (BitVec.ofNat 16 ((s.rotated r).linesToFill r).length)

theorem State.publishCore_eq_take (s : State) (r : RegionIx) : s.publishCore r = (s.announced r).engineTake :=
  State.raiseNotice_engineTake ((s.rotated r).appended .fill ((s.rotated r).linesToFill r)) r .published none _

theorem State.regions_announced (s : State) (r : RegionIx) :
    (s.announced r).regions = (s.modRun r fun t => t.published (s.viewed r (s.run r).liveBank)).regions :=
  (State.raiseNotice_frame _ r .published none _).1

theorem State.regions_publishCore (s : State) (r : RegionIx) :
    (s.publishCore r).regions = (s.modRun r fun t => t.published (s.viewed r (s.run r).liveBank)).regions := by
  rw [State.publishCore_eq_take, (State.engineTake_frame _).1, State.regions_announced]

theorem State.run_publishCore_self (s : State) (r : RegionIx) :
    (s.publishCore r).run r = (s.run r).published (s.viewed r (s.run r).liveBank) := by
  rw [s.run_publishCore r r, if_pos rfl]

theorem State.entries_publishCore (s : State) (r : RegionIx) :
    (s.publishCore r).park.entries = s.park.entries := by
  simp

/-- A word is parked for the frame after the draft (R90). -/
def State.ParkedAfter (s : State) (r : RegionIx) : Prop :=
  ∃ e ∈ s.park.entries, e.region = r ∧ e.frameTag = (s.run r).frame + 2

theorem State.frame_succ_succ (w : Word) : w + 1 + 1 = w + 2 := by
  rw [BitVec.add_assoc]
  rfl

theorem State.noDraftEntry_publishCore : (s.publishCore r).NoDraftEntry r ↔ ¬s.ParkedAfter r := by
  have hframe : ((s.publishCore r).run r).frame = (s.run r).frame + 1 := by
    rw [State.run_publishCore_self]
    rfl
  simp only [State.NoDraftEntry, State.ParkedAfter, State.entries_publishCore, hframe, State.frame_succ_succ]
  push Not
  rfl

theorem State.draftEmpty_publishCore (hflight : (s.run r).inFlight = 0) (hnone : ¬s.ParkedAfter r) :
    (s.publishCore r).DraftEmpty r := by
  refine ⟨?_, ?_, State.noDraftEntry_publishCore.mpr hnone⟩
  · rw [State.run_publishCore_self]
    rfl
  · rw [State.run_publishCore_self]
    exact hflight

theorem State.followOn_publishCore_flag : ((s.publishCore r).run r).followOn = (s.run r).followOn := by
  rw [State.run_publishCore_self]
  rfl

/-- The record after a publication and its follow-on, before the slot's next take. -/
theorem State.run_followOn_publishCore (hflight : (s.run r).inFlight = 0) :
    ∃ p, ((s.publishCore r).followOn r).run r =
        { (s.run r).published (s.viewed r (s.run r).liveBank) with followOn := false, phase := p } ∧
      ((s.run r).followOn = true → s.ParkedAfter r → p = .pending) ∧
      ((s.run r).followOn = false ∨ ¬s.ParkedAfter r → p = .opened) := by
  have hflag := s.followOn_publishCore_flag (r := r)
  have hrun := s.run_publishCore_self r
  by_cases hf : (s.run r).followOn = true
  · by_cases hparked : s.ParkedAfter r
    · refine ⟨.pending, ?_, fun _ _ => rfl, fun h => ?_⟩
      · rw [State.followOn_of_entry (hflag.trans hf) (by rwa [State.noDraftEntry_publishCore, not_not]),
          State.run_modRun_self, hrun]
        rfl
      · exact absurd h (by simp [hf, hparked])
    · refine ⟨.opened, ?_, fun _ h => absurd h hparked, fun _ => rfl⟩
      rw [State.followOn_of_empty (hflag.trans hf) (State.draftEmpty_publishCore hflight hparked), State.chargeEmpty,
        State.run_congr (State.raiseNotice_frame ..).1, State.run_modCounters, State.run_modRun_self, hrun]
      rfl
  · rw [Bool.not_eq_true] at hf
    refine ⟨.opened, ?_, fun h => absurd h (by simp [hf]), fun _ => rfl⟩
    rw [State.followOn_of_clear (hflag.trans hf), hrun, ← hf]
    rfl

/-- The record after the whole publication: the slot's next take may count a drain write. -/
theorem State.run_publish (hflight : (s.run r).inFlight = 0) :
    ∃ p n d, (s.publish r).run r =
        { (s.run r).published (s.viewed r (s.run r).liveBank) with
          followOn := false, phase := p, inFlight := n, dirtyLines := d } ∧
      ((s.run r).followOn = true → s.ParkedAfter r → p = .pending) ∧
      ((s.run r).followOn = false ∨ ¬s.ParkedAfter r → p = .opened) := by
  obtain ⟨p, hrun, hpending, hopened⟩ := s.run_followOn_publishCore (r := r) hflight
  obtain ⟨n, d, hnext⟩ := (State.Beside.drainNext (r := r) ((s.publishCore r).followOn r)).run_eq
  exact ⟨p, n, d, by rw [State.publish, hnext, hrun], hpending, hopened⟩

theorem State.frame_publish (hflight : (s.run r).inFlight = 0) :
    ((s.publish r).run r).frame = (s.run r).frame + 1 := by
  obtain ⟨p, n, d, hrun, -, -⟩ := s.run_publish (r := r) hflight
  rw [hrun]
  rfl

theorem State.counters_publish (hf : (s.run r).followOn = false) :
    ((s.publish r).region r).counters = (s.region r).counters := by
  rw [State.publish, State.followOn_of_clear (s.followOn_publishCore_flag.trans hf),
    (State.Beside.drainNext (r := r) (s.publishCore r)).counters, State.region_congr (s.regions_publishCore r),
    State.modRun, State.region_modRegion_self]

end

end Sys2Proof.Machine


/-! SUPPORT. The edge of a strobe line and the period timer that fires (R107, R110, R113, R115). -/

namespace Sys2Proof.Machine

set_option Elab.async false

/-! ### A command that reaches every region in turn -/

theorem State.Beside.foldl {r : RegionIx} {f : State → RegionIx → State} (hf : ∀ (s : State) j, r ≠ j → s.Beside r (f s j))
    {l : List RegionIx} (hr : r ∉ l) (s : State) : s.Beside r (l.foldl f s) := by
  induction l generalizing s with
  | nil => exact .refl s
  | cons j l ih =>
    obtain ⟨hj, hl⟩ := not_or.mp (mt List.mem_cons.mpr hr)
    exact (hf s j hj).trans (ih hl _)

/-- One region's turn, with what the other turns leave of it. -/
theorem State.Beside.foldl_around {f : State → RegionIx → State} (r : RegionIx)
    (hf : ∀ (s : State) j, r ≠ j → s.Beside r (f s j)) (s : State) :
    ∃ t, s.Beside r t ∧ (f t r).Beside r (regionIxs.foldl f s) := by
  obtain ⟨l, l', hsplit⟩ := List.append_of_mem (mem_regionIxs r)
  have hnodup : regionIxs.Nodup := by decide
  rw [hsplit, List.nodup_middle, List.nodup_cons, List.mem_append, not_or] at hnodup
  obtain ⟨⟨hl, hl'⟩, -⟩ := hnodup
  rw [hsplit, List.foldl_append, List.foldl_cons]
  exact ⟨l.foldl f s, foldl hf hl s, foldl hf hl' _⟩

/-! ### The strobe edge (R110, R113) -/

theorem RegionConfig.selects_iff (c : RegionConfig) (line : Fin 4) (rising : Bool) :
    c.selects line rising = true ↔ c.Selects line rising := by
  unfold RegionConfig.selects RegionConfig.Selects
  cases c.trigStrobe with
  | none => simp
  | some x =>
    obtain ⟨l, e⟩ := x
    cases e <;> cases rising <;> simp [EdgeSelect.matches, Prod.ext_iff]

/-- One region's turn at an edge (R113). -/
def State.strobed (line : Fin 4) (rising : Bool) (s : State) (r : RegionIx) : State :=
  if (s.config r).selects line rising then s.deliver r .strobe else s

theorem State.strobed_ne {r : RegionIx} (line : Fin 4) (rising : Bool) (s : State) (j : RegionIx) (hj : r ≠ j) :
    s.Beside r (s.strobed line rising j) := by
  unfold State.strobed
  split
  · exact State.Beside.deliver_ne s hj _
  · exact .refl s

section
variable {s : State} {r : RegionIx}

theorem State.counters_waiting (src : Source) :
    ((s.modRegion r fun g => g.waiting src).region r).counters = (s.region r).counters.countTrigger src := by
  rw [State.region_modRegion_self, Region.waiting]

theorem State.run_waiting_inFlight (src : Source) (hc : s.DraftComplete r) :
    ((s.modRegion r fun g => g.waiting src).run r).inFlight = 0 := by
  rw [State.run_waiting]
  exact hc.2.1

theorem State.frame_deliver_publishes {src : Source} (hp : s.phase r = .opened) (he : ¬s.DraftEmpty r)
    (hc : s.DraftComplete r) (hd : s.BankAvailable r) :
    ((s.deliver r src).run r).frame = (s.run r).frame + 1 ∧ (s.deliver r src).phase r = .opened ∧
      ((s.deliver r src).region r).counters = (s.region r).counters.countTrigger src := by
  have hflag : ((s.modRegion r fun g => g.waiting src).run r).followOn = false := by rw [State.run_waiting]
  obtain ⟨p, n, d, hrun, -, hopened⟩ := State.run_publish (State.run_waiting_inFlight src hc)
  rw [State.deliver_publishes hp he hc hd, State.counters_publish hflag, State.counters_waiting]
  refine ⟨?_, ?_, rfl⟩
  · rw [hrun, State.run_waiting]
    rfl
  · refine (congrArg Runtime.phase hrun).trans (hopened (.inl hflag))

/-- A trigger that reaches a region in OPEN or PENDING is counted once, whatever it brings about. -/
theorem State.triggersStrobe_deliver (h : (s.phase r).working = true) :
    ((s.deliver r .strobe).region r).counters.triggersStrobe = satInc (s.region r).counters.triggersStrobe := by
  obtain hp | hp := Phase.working_iff.mp h
  · by_cases he : s.DraftEmpty r
    · rw [State.deliver_empty hp he, State.region_setNotices, State.modCounters, State.region_modRegion_self]
      rfl
    · by_cases hc : s.DraftComplete r
      · by_cases hd : s.BankAvailable r
        · rw [(State.frame_deliver_publishes hp he hc hd).2.2]
          rfl
        · rw [State.deliver_held hp he hc hd, State.region_setNotices, State.region_modRegion_self]
          rfl
      · rw [State.deliver_waits_incomplete hp he hc, State.counters_waiting]
        rfl
  · cases hf : (s.run r).followOn
    · rw [State.deliver_follows hp hf, State.region_modRegion_self]
      rfl
    · rw [State.deliver_merged hp hf, State.region_setNotices, State.modCounters, State.region_modRegion_self]
      rfl

end

/-- What an edge leaves of a region, in terms of the region's own turn. -/
theorem State.deliverStrobe_own (s : State) (line : Fin 4) (rising : Bool) (r : RegionIx) :
    ∃ t, s.Beside r t ∧ (t.strobed line rising r).Beside r (s.deliverStrobe line rising) :=
  State.Beside.foldl_around r (fun s j hj => s.strobed_ne line rising j hj) s

theorem State.strobed_of_reached {s : State} {line : Fin 4} {rising : Bool} {r : RegionIx}
    (h : (s.config r).Selects line rising) : s.strobed line rising r = s.deliver r .strobe :=
  if_pos ((RegionConfig.selects_iff ..).mpr h)

theorem State.strobed_of_not_reached {s : State} {line : Fin 4} {rising : Bool} {r : RegionIx}
    (h : ¬((s.config r).Selects line rising ∧ (s.phase r = .opened ∨ s.phase r = .pending))) :
    s.strobed line rising r = s := by
  unfold State.strobed
  split
  · next hsel =>
    rw [not_and, ← Phase.working_iff, Bool.not_eq_true] at h
    exact State.deliver_of_not_working (h ((RegionConfig.selects_iff ..).mp hsel))
  · rfl

/-! ### The period timer (R115) -/

section
variable (s : State) (r : RegionIx)

/-- The timer of a region loaded again (R115). -/
def State.reloaded (s : State) (r : RegionIx) : State := s.setTimer r ⟨true, (s.config r).periodTicks⟩

theorem State.run_reloaded : (s.reloaded r).run r = s.run r := by
  simp [State.reloaded, State.setTimer, State.run]

theorem State.config_reloaded : (s.reloaded r).config r = s.config r := by
  simp [State.reloaded, State.setTimer, State.config]

theorem State.phase_reloaded : (s.reloaded r).phase r = s.phase r := congrArg Runtime.phase (s.run_reloaded r)

theorem State.noticeOf_reloaded (k : NoticeKind) (t : Option Tag) (d : BitVec 16) :
    (s.reloaded r).noticeOf r k t d = s.noticeOf r k t d := by
  rw [State.noticeOf, State.run_reloaded]
  rfl

theorem State.draftEmpty_reloaded : (s.reloaded r).DraftEmpty r ↔ s.DraftEmpty r :=
  State.draftEmpty_congr (by rw [State.run_reloaded]) (by rw [State.run_reloaded]) (by rw [State.run_reloaded]) rfl

theorem State.draftComplete_reloaded : (s.reloaded r).DraftComplete r ↔ s.DraftComplete r :=
  State.draftComplete_congr (by rw [State.run_reloaded]) (by rw [State.run_reloaded]) (by rw [State.run_reloaded])
    (s.config_reloaded r) rfl rfl

theorem State.bankAvailable_reloaded : (s.reloaded r).BankAvailable r ↔ s.BankAvailable r :=
  State.bankAvailable_congr (by rw [State.run_reloaded]) rfl

theorem State.modRegion_reloaded (f : Region → Region) :
    (s.reloaded r).modRegion r f =
      s.modRegion r fun g => f { g with timer := ⟨true, (s.config r).periodTicks⟩ } :=
  s.modRegion_modRegion r _ _

theorem PeriodTimer.due_iff (t : PeriodTimer) : t.due = true ↔ t.running = true ∧ t.remaining = 0 := by
  simp [PeriodTimer.due]

variable {s r}

theorem exec_periodTimerFire_of_due (h : (s.region r).timer.due = true) :
    exec (.periodTimerFire r) s = .next ((s.reloaded r).deliver r .period).grantNext :=
  if_pos h

theorem exec_publication {t : State} (hp : t.phase r = .pending) (hc : t.DraftComplete r) (hd : t.BankAvailable r) :
    exec (.publication r) t = .next (t.publish r).grantNext := by
  refine if_pos ?_
  rw [State.canPublish_iff.mpr ⟨hc, hd⟩, hp]
  rfl

end

/-- Settles O55: the edge reaches each region in its turn, and the timer its own region. -/
theorem triggersTaken : Obligations.TriggersTaken := by
  refine ⟨fun s line => ?_, fun s r => ?_⟩
  · intro l
    refine ⟨fun h => if_neg (by simp [l, h]), fun h => ?_⟩
    let x : State := s.setStrobes { s.strobes with lines := s.strobes.lines.set line.val l.take line.isLt }
    refine ⟨(x.deliverStrobe line (!l.level)).grantNext, if_pos h, by simp [x]; rfl, fun r => ?_⟩
    intro g reached
    obtain ⟨t, hbefore, hafter⟩ := x.deliverStrobe_own line (!l.level) r
    have hregions := (State.grantNext_frame (x.deliverStrobe line (!l.level))).1
    have hcounters := (congrArg Region.counters (State.region_congr hregions r)).trans hafter.counters
    have hphase := (State.phase_congr hregions r).trans hafter.phase
    have hframe := (congrArg Runtime.frame (State.run_congr hregions r)).trans hafter.frame
    have hfollow := (congrArg Runtime.followOn (State.run_congr hregions r)).trans hafter.followOn
    have hheld := (congrArg Runtime.heldNotice (State.run_congr hregions r)).trans hafter.heldNotice
    have hreached : reached ↔
        (t.config r).Selects line (!l.level) ∧ (t.phase r = .opened ∨ t.phase r = .pending) := by
      rw [hbefore.config, hbefore.phase]
      rfl
    have hempty := hbefore.draftEmpty
    have havailable := hbefore.bankAvailable
    rw [hcounters, hphase, hframe, hfollow, hheld]
    refine ⟨fun hnot => ?_, fun hyes => ?_⟩
    · rw [State.strobed_of_not_reached (mt hreached.mpr hnot)]
      exact ⟨hbefore.counters, hbefore.phase, hbefore.frame⟩
    · obtain ⟨hsel, hworking⟩ := hreached.mp hyes
      rw [State.strobed_of_reached hsel]
      refine ⟨?_, fun hp he => ?_, fun hareas hp he => ?_, fun hp hf => ?_, fun hp hf => ?_⟩
      · rw [State.triggersStrobe_deliver (Phase.working_iff.mpr hworking), hbefore.counters]
        rfl
      · have hp' := hbefore.phase.trans hp
        rw [State.deliver_empty hp' (hempty.mpr he)]
        simp only [State.region_setNotices, State.modCounters, State.region_modRegion_self, State.run, State.phase]
        exact ⟨congrArg (fun c => satInc (Counters.empty c)) hbefore.counters, hp', hbefore.frame⟩
      · have hp' := hbefore.phase.trans hp
        have he' := mt hempty.mp he
        have hcomplete := hbefore.draftComplete hareas (by rw [show x.phase r = .opened from hp]; rfl)
        refine ⟨fun hc => ?_, fun hc hd => ?_, fun hc hd => ?_⟩
        · rw [State.deliver_waits_incomplete hp' he' (mt hcomplete.mp hc), State.phase_waiting, State.run_waiting]
          exact ⟨rfl, rfl, hbefore.frame⟩
        · rw [State.deliver_held hp' he' (hcomplete.mpr hc) (mt havailable.mp hd)]
          simp only [State.region_setNotices, State.region_modRegion_self, State.run, State.phase]
          exact ⟨trivial, trivial, hbefore.frame, congrArg (fun c => satInc (Counters.held c)) hbefore.counters⟩
        · obtain ⟨hf, ho, hcount⟩ :=
            State.frame_deliver_publishes (src := .strobe) hp' he' (hcomplete.mpr hc) (havailable.mpr hd)
          rw [hf, ho, hcount, hbefore.frame, Counters.countTrigger_held, hbefore.counters]
          exact ⟨rfl, rfl, rfl⟩
      · have hp' := hbefore.phase.trans hp
        rw [State.deliver_follows hp' (hbefore.followOn.trans hf)]
        simp only [State.run, State.region_modRegion_self]
        exact ⟨trivial, hbefore.frame⟩
      · have hp' := hbefore.phase.trans hp
        rw [State.deliver_merged hp' (hbefore.followOn.trans hf)]
        simp only [State.region_setNotices, State.modCounters, State.region_modRegion_self, State.run]
        exact ⟨congrArg (fun c => satInc (Counters.merged c)) hbefore.counters, hbefore.frame⟩
  · intro g counted fired raised
    have hphase := s.phase_reloaded r
    have hempty := s.draftEmpty_reloaded r
    have hcomplete := s.draftComplete_reloaded r
    have havailable := s.bankAvailable_reloaded r
    refine ⟨fun h => if_neg ?_, fun hrun hzero => ?_⟩
    · rw [PeriodTimer.due_iff]
      rintro ⟨hrun, hzero⟩
      exact h.elim (fun h => Bool.false_ne_true (h ▸ hrun)) fun h => h hzero
    · have hexec := exec_periodTimerFire_of_due ((PeriodTimer.due_iff _).mpr ⟨hrun, hzero⟩)
      refine ⟨fun hp he => ?_, fun hp he => ⟨fun hc => ?_, fun hc hd => ?_, fun hc hd => ?_⟩, fun hp hf => ?_,
        fun hp hf => ?_⟩
      · refine CompletesGranting.of_exec (hexec.trans ?_)
        rw [State.deliver_empty (hphase.trans hp) (hempty.mpr he), State.modCounters, State.modRegion_reloaded,
          State.noticeOf_reloaded, State.config_reloaded]
        rfl
      · refine CompletesGranting.of_exec (hexec.trans ?_)
        rw [State.deliver_waits_incomplete (hphase.trans hp) (mt hempty.mp he) (mt hcomplete.mp hc),
          State.modRegion_reloaded]
        rfl
      · refine CompletesGranting.of_exec (hexec.trans ?_)
        rw [State.deliver_held (hphase.trans hp) (mt hempty.mp he) (hcomplete.mpr hc) (mt havailable.mp hd),
          State.modRegion_reloaded, State.noticeOf_reloaded, State.config_reloaded, State.run_reloaded]
        rfl
      · refine ⟨(((s.reloaded r).modRegion r fun g => g.waiting .period).publish r).grantNext, ?_, ?_⟩
        · have hfired : fired { g with counters := counted, run := (g.waiting .period).run } s.notices =
              (s.reloaded r).modRegion r fun g => g.waiting .period := by
            rw [State.modRegion_reloaded]
            rfl
          refine (congrArg (Machine.exec (.publication r)) hfired).trans (exec_publication ?_ ?_ ?_)
          · exact State.phase_waiting _ r .period
          · exact (State.draftComplete_waiting _ r .period).mpr (hcomplete.mpr hc)
          · exact (State.bankAvailable_waiting _ r .period).mpr (havailable.mpr hd)
        · rw [hexec, State.deliver_publishes (hphase.trans hp) (mt hempty.mp he) (hcomplete.mpr hc) (havailable.mpr hd)]
      · refine CompletesGranting.of_exec (hexec.trans ?_)
        rw [State.deliver_follows (hphase.trans hp) (by rw [State.run_reloaded]; exact hf), State.modRegion_reloaded]
        rfl
      · refine CompletesGranting.of_exec (hexec.trans ?_)
        rw [State.deliver_merged (hphase.trans hp) (by rw [State.run_reloaded]; exact hf), State.modCounters,
          State.modRegion_reloaded, State.noticeOf_reloaded, State.config_reloaded]
        rfl

end Sys2Proof.Machine


/-! SUPPORT. The publication event: roles, lines and the engine's take (R34 to R38). -/

namespace Sys2Proof.Machine

set_option Elab.async false

/-! ### Lines the drain slot's take leaves stale as they were -/

theorem State.stale_markDirty (s : State) (r : RegionIx) (i ix : Nat) :
    ((s.markDirty r i).line ix).stale = (s.line ix).stale := by
  unfold State.markDirty
  split
  · rfl
  · exact State.stale_modLines (s := s) (f := fun j e => if j = i then { e with dirty := true } else e)
      (fun j e => by split <;> rfl) ix

theorem State.stale_issueDrain (s : State) (k : ParkKey) (x : Bool) (ix : Nat) :
    ((s.issueDrain k x).line ix).stale = (s.line ix).stale := by
  unfold State.issueDrain
  split
  · rfl
  · next e _ => exact State.stale_markDirty (s.requestDrain (s.drainAccess e)) k.region _ ix

theorem State.stale_drainNext (s : State) (ix : Nat) : (s.drainNext.line ix).stale = (s.line ix).stale := by
  unfold State.drainNext
  split
  · split
    · rfl
    · split
      · rfl
      · next e _ =>
        unfold State.drainTry
        dsimp only
        split
        · exact State.stale_issueDrain (s.setSlot (.waiting e.key false)) e.key false ix
        · split
          · exact State.stale_promote (s.setSlot (.waiting e.key false)) _ ix
          · rfl
  · rfl

/-! ### The roles and lines of a publication -/

theorem staleExcept_get (live b : Bank) : (staleExcept live).get b = decide (b ≠ live) := by
  cases live <;> cases b <;> rfl

section
variable {s : State} {r : RegionIx}

theorem State.line_rotated (ix : Nat) (h : ix < 2048) :
    (s.rotated r).line ix =
      if (s.config r).ownsLine ix then (s.line ix).published (s.run r).draftBank else s.line ix :=
  State.line_modRange _ _ _ ix h

theorem LineEntry.published_stale (live b : Bank) (e : LineEntry) :
    (e.published live).stale.get b = if e.dirty then decide (b ≠ live) else e.stale.get b := by
  unfold LineEntry.published
  split
  · exact staleExcept_get live b
  · rfl

theorem State.line_appended (k : CopyKind) (ixs : List Nat) (ix : Nat) (h : ix < 2048) :
    (s.appended k ixs).line ix = if ixs.contains ix then { s.line ix with queued := true } else s.line ix :=
  State.line_modLines _ _ ix h

theorem State.stale_appended (k : CopyKind) (ixs : List Nat) (ix : Nat) :
    ((s.appended k ixs).line ix).stale = (s.line ix).stale := by
  refine State.stale_modLines (s := s.setQueue (s.catchup.queue ++ ixs.map fun i => (⟨i, k⟩ : CatchEntry)))
    (fun j e => ?_) ix
  split <;> rfl

theorem State.catchup_followOn_publishCore (hflight : (s.run r).inFlight = 0) :
    ((s.publishCore r).followOn r).catchup = (s.publishCore r).catchup := by
  have hflag := s.followOn_publishCore_flag (r := r)
  by_cases hf : (s.run r).followOn = true
  · by_cases hparked : s.ParkedAfter r
    · rw [State.followOn_of_entry (hflag.trans hf) (by rwa [State.noDraftEntry_publishCore, not_not])]
      rfl
    · rw [State.followOn_of_empty (hflag.trans hf) (State.draftEmpty_publishCore hflight hparked)]
      simp
  · rw [Bool.not_eq_true] at hf
    rw [State.followOn_of_clear (hflag.trans hf)]

theorem State.stale_publish (hflight : (s.run r).inFlight = 0) (ix : Nat) :
    ((s.publish r).line ix).stale = ((s.rotated r).line ix).stale := by
  rw [State.publish, State.stale_drainNext,
    State.line_congr (congrArg Catchup.lines (State.catchup_followOn_publishCore hflight)),
    State.publishCore_eq_take, State.stale_engineTake, State.announced,
    State.line_congr (s := (s.rotated r).appended .fill ((s.rotated r).linesToFill r)) (by simp),
    State.stale_appended]

end

/-- The roles after a publication, bank by bank (R34, R35). -/
theorem Runtime.RolesAre.rolesPublished {t : Runtime} {l d x : Bank} (h : t.RolesAre l d x) (viewed : Bool) :
    (t.rolesPublished viewed).get d = .live ∧
      (t.rolesPublished viewed).get l = (if viewed then .held else .draft) ∧
      (t.rolesPublished viewed).get x = if viewed then .draft else t.roles.get x := by
  cases viewed <;>
    simp [Runtime.rolesPublished, PerBank.get_set, h.liveBank_eq, h.draftBank_eq, h.thirdBank_eq,
      h.live_ne_draft.symm, h.live_ne_third, h.live_ne_third.symm, h.draft_ne_third,
      h.draft_ne_third.symm]

/-- What a publication leaves of its region's record and lines. -/
theorem publication_record {s : State} {r : RegionIx} (hc : s.DraftComplete r) (hroles : (s.run r).RolesSound) (hlines : (s.config r).lineBase + (s.config r).lines ≤ 2048) :
    let t := s.run r
    let u := (s.publish r).grantNext
    (u.run r).frame = t.frame + 1 ∧ (u.run r).roles.get t.draftBank = .live ∧
      (s.ViewOn r t.liveBank →
        (u.run r).roles.get t.liveBank = .held ∧ (u.run r).roles.get t.thirdBank = .draft) ∧
      (¬s.ViewOn r t.liveBank →
        (u.run r).roles.get t.liveBank = .draft ∧
          (u.run r).roles.get t.thirdBank = t.roles.get t.thirdBank) ∧
      (u.run r).bankFrames = t.bankFrames.set (t.frame + 1) t.draftBank ∧
      (u.run r).followOn = false ∧ (u.run r).heldNotice = false ∧
      (t.followOn = true → s.ParkedAfter r → u.phase r = .pending) ∧
      (t.followOn = false ∨ ¬s.ParkedAfter r → u.phase r = .opened) ∧
      ∀ ix : Nat, (s.config r).ownsLine ix = true →
        ∀ b : Bank,
          (u.line ix).stale.get b =
            if (s.line ix).dirty then decide (b ≠ t.draftBank) else (s.line ix).stale.get b := by
  intro t u
  obtain ⟨p, n, d, hrun, hpending, hopened⟩ := State.run_publish hc.2.1
  have hu : u.run r = _ := (State.run_congr (State.grantNext_frame (s.publish r)).1 r).trans hrun
  have hphase : u.phase r = p := congrArg Runtime.phase hu
  obtain ⟨hlive, hold, hthird⟩ := hroles.are.rolesPublished (s.viewed r t.liveBank)
  rw [hu, hphase]
  refine ⟨rfl, hlive, fun hv => ?_, fun hv => ?_, rfl, rfl, rfl, hpending, hopened, fun ix hix b => ?_⟩
  · rw [State.viewed_iff.mpr hv] at hold hthird
    rw [show s.viewed r (s.run r).liveBank = true from State.viewed_iff.mpr hv]
    exact ⟨hold, hthird⟩
  · have hnot : s.viewed r t.liveBank = false := Bool.eq_false_iff.mpr (mt State.viewed_iff.mp hv)
    rw [hnot] at hold hthird
    rw [show s.viewed r (s.run r).liveBank = false from hnot]
    exact ⟨hold, hthird⟩
  · have hlt : ix < 2048 := by
      simp only [RegionConfig.ownsLine, Bool.and_eq_true, decide_eq_true_eq] at hix
      omega
    have hline : (u.line ix).stale = ((s.rotated r).line ix).stale :=
      (congrArg LineEntry.stale (State.line_congr (by simp [u]) ix)).trans (State.stale_publish hc.2.1 ix)
    rw [hline, State.line_rotated ix hlt, if_pos hix, LineEntry.published_stale]

/-! ### The whole publication with nothing parked -/

theorem State.drainNext_of_none {s : State}
    (h : s.park.slot = .idle → ∀ e ∈ s.park.entries, s.eligible e = false) : s.drainNext = s := by
  unfold State.drainNext
  split
  · next hslot =>
    have hnone : s.park.entries.find? s.eligible = none := List.find?_eq_none.mpr (by simpa using h hslot)
    rw [hnone]
    exact ite_self s
  · rfl

section
variable {s : State} {r : RegionIx}

/-- A publication and the follow-on of an empty draft, up to the engine's take. -/
def State.concluded (s : State) (r : RegionIx) : State :=
  if (s.run r).followOn then ((s.announced r).modRun r fun t => { t with followOn := false }).chargeEmpty r .followOn
  else s.announced r

theorem State.chargeEmpty_engineTake (x : Source) :
    s.engineTake.chargeEmpty r x = (s.chargeEmpty r x).engineTake := by
  rw [State.chargeEmpty, State.modCounters, State.modRegion_engineTake s r rfl rfl rfl,
    State.raiseNotice_engineTake]
  rfl

theorem State.publish_of_unparked (hp : s.phase r = .pending) (hflight : (s.run r).inFlight = 0) (hparked : ¬s.ParkedAfter r)
    (hsettled : s.DrainSettled) : s.publish r = (s.concluded r).engineTake := by
  have hflag := s.followOn_publishCore_flag (r := r)
  have htake : (s.publishCore r).followOn r = (s.concluded r).engineTake := by
    by_cases hf : (s.run r).followOn = true
    · rw [State.followOn_of_empty (hflag.trans hf) (State.draftEmpty_publishCore hflight hparked),
        State.publishCore_eq_take, State.modRun, State.modRegion_engineTake _ r rfl rfl rfl,
        State.chargeEmpty_engineTake, State.concluded, if_pos hf]
      rfl
    · rw [State.followOn_of_clear (hflag.trans (Bool.eq_false_iff.mpr hf)), State.publishCore_eq_take,
        State.concluded, if_neg hf]
  rw [State.publish, htake]
  refine State.drainNext_of_none fun hslot e he => ?_
  rw [← htake] at hslot he ⊢
  have hpark : ((s.publishCore r).followOn r).park = s.park := by simp
  rw [hpark] at hslot he
  by_cases hr : e.region = r
  · obtain ⟨p, hrun, -⟩ := s.run_followOn_publishCore (r := r) hflight
    have hframe : (((s.publishCore r).followOn r).run e.region).frame = (s.run r).frame + 1 := by
      rw [hr, hrun]
      rfl
    rw [State.eligible, Runtime.draftFrame, hframe, State.frame_succ_succ, Bool.and_eq_false_iff]
    exact .inr (beq_eq_false_iff_ne.mpr fun htag => hparked ⟨e, he, hr, htag⟩)
  · have hcore := State.Beside.publishCore_ne s hr (by rw [hp]; rfl)
    have hbeside := hcore.trans (State.Beside.followOn_ne _ hr ((hcore.active r).trans (by rw [hp]; rfl)))
    have := hsettled.1 hslot e he
    rwa [State.eligible, Runtime.draftFrame, hbeside.phase, hbeside.frame]

theorem State.run_rotated_self : (s.rotated r).run r = (s.run r).published (s.viewed r (s.run r).liveBank) :=
  s.run_modRun_self r fun t => t.published (s.viewed r (s.run r).liveBank)

theorem State.config_rotated : (s.rotated r).config r = s.config r :=
  State.config_of_entry (by simp [State.rotated])

/-- The PUBLISHED notice of a publication with `n` lines to fill (R37). -/
def State.publishedNotice (s : State) (r : RegionIx) (n : Nat) : Notice :=
  ⟨.published, r, (s.run r).frame + 1, none, BitVec.ofNat 16 n, s.clock.tickCount⟩

theorem State.announced_eq :
    s.announced r =
      ((s.rotated r).appended .fill ((s.rotated r).linesToFill r)).setNotices
        (s.notices.raised (s.config r).noticeMask (s.publishedNotice r ((s.rotated r).linesToFill r).length)) := by
  have hnotice (n : Nat) : ((s.rotated r).appended .fill ((s.rotated r).linesToFill r)).noticeOf r .published none
      (BitVec.ofNat 16 n) = s.publishedNotice r n := by
    have hframe : ((s.rotated r).run r).frame = (s.run r).frame + 1 := by
      rw [State.run_rotated_self]
      rfl
    exact congrArg (fun f => (⟨.published, r, f, none, BitVec.ofNat 16 n, s.clock.tickCount⟩ : Notice)) hframe
  rw [State.announced, State.raiseNotice_eq, hnotice,
    show ((s.rotated r).appended .fill ((s.rotated r).linesToFill r)).config r = s.config r from State.config_rotated]
  rfl

/-- The bank that becomes DRAFT at a publication (R34, R35). -/
def State.nextDraft (s : State) (r : RegionIx) : Bank :=
  if decide ((s.run r).roles.get (s.run r).thirdBank = .free) && s.viewed r (s.run r).liveBank then
    (s.run r).thirdBank
  else (s.run r).liveBank

theorem State.draftBank_published (hroles : (s.run r).RolesSound) (hd : s.BankAvailable r) :
    ((s.run r).published (s.viewed r (s.run r).liveBank)).draftBank = s.nextDraft r := by
  rw [State.bankAvailable_iff, State.condD, Bool.or_eq_true, Bool.not_eq_true', beq_iff_eq] at hd
  cases hv : s.viewed r (s.run r).liveBank
  · rw [State.nextDraft, hv, Bool.and_false, hroles.are.published_swap.draftBank_eq]
    rfl
  · have hfree := hd.resolve_left (by simp [hv])
    rw [State.nextDraft, hv, hfree, hroles.are.published_hold.draftBank_eq]
    rfl

/-- The lines to fill after a publication: those stale in the new DRAFT bank (R37). -/
theorem State.linesToFill_rotated (hroles : (s.run r).RolesSound) (hd : s.BankAvailable r)
    (hlines : (s.config r).lineBase + (s.config r).lines ≤ 2048) :
    (s.rotated r).linesToFill r =
      ((List.range (s.config r).lines).map ((s.config r).lineBase + ·)).filter fun ix =>
        if (s.line ix).dirty then decide (s.nextDraft r ≠ (s.run r).draftBank)
        else (s.line ix).stale.get (s.nextDraft r) := by
  rw [State.linesToFill, State.config_rotated]
  refine List.filter_congr fun ix hix => ?_
  obtain ⟨n, hn, rfl⟩ := List.mem_map.mp hix
  have hn' := List.mem_range.mp hn
  have howns : (s.config r).ownsLine ((s.config r).lineBase + n) = true := by simp [RegionConfig.ownsLine, hn']
  rw [State.draftStale, State.line_rotated _ (by omega), if_pos howns, LineEntry.published_stale,
    State.run_rotated_self, State.draftBank_published hroles hd]

theorem State.modRegion_of_regions {t : State} {f g : Region → Region} (h : t.regions = (s.modRegion r f).regions) :
    t.modRegion r g = { t with regions := s.regions.set r.val (g (f (s.region r))) r.isLt } := by
  have hmod := congrArg State.regions (s.modRegion_modRegion r f g)
  rw [State.modRegion, State.region_congr h, h]
  exact congrArg (fun x => { t with regions := x }) hmod

/-- The notices after a publication and the follow-on of an empty draft (R37, R38). -/
def State.concludedNotices (s : State) (r : RegionIx) (n : Nat) : NoticeUnit :=
  let published := s.notices.raised (s.config r).noticeMask (s.publishedNotice r n)
  if (s.run r).followOn then
    published.raised (s.config r).noticeMask ⟨.empty, r, (s.run r).frame + 1, none, 4, s.clock.tickCount⟩
  else published

/-- The region after a publication and the follow-on of an empty draft (R34 to R38). -/
def State.concludedRegion (s : State) (r : RegionIx) : Region :=
  { s.region r with
    run :=
      ⟨.opened, (s.run r).rolesPublished (s.viewed r (s.run r).liveBank), (s.run r).frame + 1,
        (s.run r).bankFrames.set ((s.run r).frame + 1) (s.run r).draftBank, false, false, (s.run r).inFlight, 0⟩
    counters :=
      if (s.run r).followOn then { (s.region r).counters with empty := satInc (s.region r).counters.empty }
      else (s.region r).counters }

theorem State.concluded_eq :
    s.concluded r =
      { s with
        catchup := ((s.rotated r).appended .fill ((s.rotated r).linesToFill r)).catchup
        regions := s.regions.set r.val (s.concludedRegion r) r.isLt
        notices := s.concludedNotices r ((s.rotated r).linesToFill r).length } := by
  unfold State.concluded State.concludedNotices State.concludedRegion
  generalize hl : (s.rotated r).linesToFill r = l
  cases hf : (s.run r).followOn
  · have hrun : (s.run r).published (s.viewed r (s.run r).liveBank) =
        ⟨.opened, (s.run r).rolesPublished (s.viewed r (s.run r).liveBank), (s.run r).frame + 1,
        (s.run r).bankFrames.set ((s.run r).frame + 1) (s.run r).draftBank, false, false, (s.run r).inFlight, 0⟩ := by
      rw [Runtime.published, hf]
    rw [State.announced_eq, hl]
    simp only [Bool.false_eq_true, if_false]
    rw [← hrun]
    rfl
  · have hrun : { (s.run r).published (s.viewed r (s.run r).liveBank) with followOn := false } =
        (⟨.opened, (s.run r).rolesPublished (s.viewed r (s.run r).liveBank), (s.run r).frame + 1,
        (s.run r).bankFrames.set ((s.run r).frame + 1) (s.run r).draftBank, false, false, (s.run r).inFlight, 0⟩ :
          Runtime) := rfl
    have hself : (((s.rotated r).appended .fill l).setNotices
        (s.notices.raised (s.config r).noticeMask (s.publishedNotice r l.length))).run r =
        (s.run r).published (s.viewed r (s.run r).liveBank) := State.run_rotated_self
    rw [State.announced_eq, hl]
    simp only [if_true]
    rw [State.chargeEmpty, State.raiseNotice_modCounters, State.noticeOf, State.run_modRun_self, hself,
      State.config_modRun, State.modCounters, State.modRun, State.modRegion_modRegion]
    have hconfig : (((s.rotated r).appended .fill l).setNotices
        (s.notices.raised (s.config r).noticeMask (s.publishedNotice r l.length))).config r = s.config r :=
      State.config_rotated
    rw [hconfig, State.modRegion_of_regions (s := s) (t := ((s.rotated r).appended .fill l).setNotices _)
      (f := fun g => { g with run := g.run.published (s.viewed r (s.run r).liveBank) }) rfl]
    rfl

end

theorem LineEntry.published_eq (live : Bank) (e : LineEntry) :
    e.published live =
      { e with
        stale := if e.dirty then ⟨live ≠ .bankA, live ≠ .bankB, live ≠ .bankC⟩ else e.stale
        dirty := false } := by
  obtain ⟨stale, dirty, queued, busy⟩ := e
  cases dirty <;> cases live <;> rfl

theorem State.line_of_ge (s : State) {ix : Nat} (h : 2048 ≤ ix) : s.line ix = .clear := dif_neg h.not_gt

/-- The lines of the region after a publication, with those to fill queued (R36, R37). -/
theorem State.line_published {s : State} {r : RegionIx} {fills : List Nat}
    (hfills : ∀ ix ∈ fills, (s.config r).ownsLine ix = true)
    (hlines : (s.config r).lineBase + (s.config r).lines ≤ 2048) (ix : Nat) :
    ((s.rotated r).appended .fill fills).line ix =
      if (s.config r).ownsLine ix then
        { s.line ix with
          stale := if (s.line ix).dirty then
              ⟨(s.run r).draftBank ≠ .bankA, (s.run r).draftBank ≠ .bankB, (s.run r).draftBank ≠ .bankC⟩
            else (s.line ix).stale
          dirty := false
          queued := (s.line ix).queued || fills.contains ix }
      else s.line ix := by
  by_cases hix : ix < 2048
  · rw [State.line_appended _ _ _ hix, State.line_rotated _ hix, LineEntry.published_eq]
    by_cases howns : (s.config r).ownsLine ix = true
    · simp only [howns, if_true]
      cases fills.contains ix <;> simp
    · have hnot : ix ∉ fills := mt (hfills ix) howns
      simp [howns, hnot]
  · rw [State.line_of_ge _ (not_lt.mp hix), State.line_of_ge _ (not_lt.mp hix), if_neg]
    simp only [RegionConfig.ownsLine, Bool.and_eq_true, decide_eq_true_eq]
    omega

/-- Settles O54: the publication of a region whose conditions hold, and nothing at any other moment. -/
theorem publicationEvent : Obligations.PublicationEvent := by
  refine ⟨?_, fun s r h => if_neg fun hcan => ?_⟩
  · intro s r hp hc hd hroles hlines g t c old live third parked
    refine ⟨⟨_, exec_publication hp hc hd, publication_record hc hroles hlines⟩, ?_⟩
    intro hparked hsettled next fills published
    have hfills : (s.rotated r).linesToFill r = fills := State.linesToFill_rotated hroles hd hlines
    refine ⟨((s.rotated r).appended .fill fills).catchup, (s.run r).rolesPublished (s.viewed r (s.run r).liveBank),
      fun ix => ?_, (s.publish r).grantNext, exec_publication hp hc hd, ?_⟩
    · refine State.line_published (fun j hj => ?_) hlines ix
      obtain ⟨n, hn, rfl⟩ := List.mem_map.mp (List.mem_of_mem_filter hj)
      simpa [RegionConfig.ownsLine, c, g, State.config] using List.mem_range.mp hn
    · rw [State.publish_of_unparked hp hc.2.1 hparked hsettled, State.concluded_eq, hfills]
      rfl
  · rw [Bool.and_eq_true, beq_iff_eq, State.canPublish_iff] at hcan
    obtain ⟨hp, hc, hd⟩ := hcan
    rcases h with h | h | h
    · exact h hp
    · exact h hc
    · exact h hd

end Sys2Proof.Machine


/-! SUPPORT. The reports of banks that lost their last view: a HELD bank becomes FREE, and a PENDING region whose
draft is complete publishes (R39, R57). -/

namespace Sys2Proof.Machine

set_option Elab.async false

section
variable {s : State} {r : RegionIx}

/-! ### A bank freed (R39) -/

/-- A HELD bank becomes FREE; a bank of another role keeps it. -/
def State.freed (s : State) (r : RegionIx) (b : Bank) : State :=
  if (s.run r).roles.get b == .held then s.modRun r fun t => { t with roles := t.roles.set .free b } else s

theorem State.lastViewEnded_eq (b : Bank) : s.lastViewEnded r b = (s.freed r b).evaluate r := rfl

theorem PerBank.find_set_free {p : PerBank Role} {b : Bank} {test : Role → Bool} (hb : p.get b = .held)
    (htest : test .held = test .free) : (p.set .free b).find test = p.find test := by
  cases b <;> simp only [PerBank.find, PerBank.set, PerBank.get] at hb ⊢ <;> rw [hb, htest] <;> rfl

/-- What a freed bank leaves of its region's record. -/
theorem State.run_freed (b : Bank) :
    ∃ roles, (s.freed r b).run r = { s.run r with roles := roles } ∧
      (∀ e, roles.get e = if e = b ∧ (s.run r).roles.get e = .held then .free else (s.run r).roles.get e) ∧
      ∀ test : Role → Bool, test .held = test .free → roles.find test = (s.run r).roles.find test := by
  unfold State.freed
  split
  · next h =>
    have hb := beq_iff_eq.mp h
    refine ⟨(s.run r).roles.set .free b, by rw [State.run_modRun_self], fun e => ?_, fun test ht =>
      PerBank.find_set_free hb ht⟩
    rw [PerBank.get_set]
    by_cases he : e = b
    · subst he
      rw [if_pos rfl, if_pos ⟨rfl, hb⟩]
    · rw [if_neg he, if_neg fun h => he h.1]
  · next h =>
    refine ⟨(s.run r).roles, rfl, fun e => ?_, fun _ _ => rfl⟩
    rw [if_neg]
    rintro ⟨rfl, he⟩
    exact h (beq_iff_eq.mpr he)

theorem State.freed_frame (b : Bank) :
    (s.freed r b).views = s.views ∧ (s.freed r b).catchup = s.catchup ∧ (s.freed r b).park = s.park ∧
      (s.freed r b).notices = s.notices ∧ (s.freed r b).bus = s.bus ∧ (s.freed r b).config r = s.config r := by
  unfold State.freed
  split <;> simp

theorem State.phase_freed (b : Bank) : (s.freed r b).phase r = s.phase r := by
  obtain ⟨roles, hrun, -⟩ := s.run_freed (r := r) b
  exact (congrArg Runtime.phase hrun :)

theorem State.draftComplete_freed (b : Bank) : (s.freed r b).DraftComplete r ↔ s.DraftComplete r := by
  obtain ⟨roles, hrun, -, hfind⟩ := s.run_freed (r := r) b
  obtain ⟨-, hcatchup, hpark, -, -, hconfig⟩ := s.freed_frame (r := r) b
  have hdraft : ((s.freed r b).run r).draftBank = (s.run r).draftBank := by
    rw [hrun, Runtime.draftBank, hfind _ rfl, Runtime.draftBank]
  simp only [State.DraftComplete, hdraft, hconfig, hpark, State.line_congr (congrArg Catchup.lines hcatchup)]
  simp only [hrun]

/-! ### Reports of a region that does not publish -/

/-- No evaluation of the region finds its draft complete. -/
def State.Rested (s : State) (r : RegionIx) : Prop := s.phase r = .pending → ¬s.DraftComplete r

theorem State.rested_freed (b : Bank) : (s.freed r b).Rested r ↔ s.Rested r := by
  rw [State.Rested, State.phase_freed, State.draftComplete_freed, State.Rested]

theorem State.lastViewEnded_of_rested (h : s.Rested r) (b : Bank) : s.lastViewEnded r b = s.freed r b := by
  rw [State.lastViewEnded_eq, State.evaluate_of_incomplete (State.rested_freed b |>.mpr h)]

/-- The reports of a region that does not publish free the HELD banks reported. -/
theorem State.foldl_rested (h : s.Rested r) (l : List Bank) :
    let u := l.foldl (fun s b => s.lastViewEnded r b) s
    u.Rested r ∧ u.phase r = s.phase r ∧ u.notices = s.notices ∧ (u.run r).frame = (s.run r).frame ∧
      ∀ e, (u.run r).roles.get e =
        if e ∈ l ∧ (s.run r).roles.get e = .held then .free else (s.run r).roles.get e := by
  induction l generalizing s with
  | nil => exact ⟨h, rfl, rfl, rfl, fun e => by simp⟩
  | cons b l ih =>
    obtain ⟨roles, hrun, hroles, -⟩ := s.run_freed (r := r) b
    obtain ⟨-, -, -, hnotices, -, -⟩ := s.freed_frame (r := r) b
    rw [List.foldl_cons, State.lastViewEnded_of_rested h]
    obtain ⟨hrest, hphase, hn, hf, hr⟩ := ih (State.rested_freed b |>.mpr h)
    refine ⟨hrest, hphase.trans (State.phase_freed b), hn.trans hnotices, ?_, fun e => ?_⟩
    · rw [hf, hrun]
    · rw [hr, hrun, hroles]
      by_cases he : e = b
      · subst he
        by_cases hheld : (s.run r).roles.get e = .held <;> simp [hheld]
      · simp [he]

/-! ### Reports of a region that publishes -/

theorem State.rested_publish (hflight : (s.run r).inFlight = 0) : (s.publish r).Rested r := by
  obtain ⟨p, n, d, hrun, -, hopened⟩ := State.run_publish (s := s) (r := r) hflight
  intro hp hc
  by_cases h : (s.run r).followOn = true ∧ s.ParkedAfter r
  · obtain ⟨e, he, hreg, htag⟩ := h.2
    have hframe : ((s.publish r).run r).frame = (s.run r).frame + 1 := State.frame_publish hflight
    have hkeys : (s.publish r).parkKeys = s.parkKeys := by
      rw [State.publish, (State.Beside.drainNext (r := r) _).keys]
      simp [State.parkKeys]
    have hnone : (s.publish r).NoDraftEntry r := hc.2.2
    have hiff : (s.publish r).NoDraftEntry r ↔
        ∀ k ∈ s.parkKeys, k.region = r → k.frameTag ≠ (s.run r).frame + 1 + 1 := by
      rw [← hkeys, ← hframe]
      simp [State.NoDraftEntry, State.parkKeys, ParkEntry.key]
    exact hiff.mp hnone e.key (List.mem_map_of_mem he) hreg (by rw [State.frame_succ_succ]; exact htag)
  · have hopen := hopened (by
      rw [not_and] at h
      exact or_iff_not_imp_left.mpr fun hf => h (by simpa using hf))
    have : (s.publish r).phase r = p := congrArg Runtime.phase hrun
    rw [this, hopen] at hp
    cases hp

theorem State.bankAvailable_freed {b : Bank} (hb : b = (s.run r).thirdBank) (hheld : (s.run r).roles.get b = .held) :
    (s.freed r b).BankAvailable r := by
  obtain ⟨roles, hrun, hroles, hfind⟩ := s.run_freed (r := r) b
  refine .inr ?_
  have hthird : ((s.freed r b).run r).thirdBank = b := by
    rw [hrun, Runtime.thirdBank, hfind _ rfl, hb]
    rfl
  rw [hthird, hrun, hroles, if_pos ⟨rfl, hheld⟩]

theorem State.viewOn_freed (b e : Bank) : (s.freed r b).ViewOn r e ↔ s.ViewOn r e := by
  simp only [State.ViewOn, State.view, (s.freed_frame (r := r) b).1]

theorem State.run_heldNoted : ∃ x, (s.heldNoted r).run r = { s.run r with heldNotice := x } := by
  unfold State.heldNoted
  dsimp only
  split
  · exact ⟨_, rfl⟩
  · refine ⟨true, ?_⟩
    exact congrArg Region.run (State.region_modRegion_self s r fun g =>
      { g with
        run := { g.run with heldNotice := true }
        counters := { g.counters with held := satInc g.counters.held } })

theorem State.heldNoted_frame :
    (s.heldNoted r).views = s.views ∧ (s.heldNoted r).catchup = s.catchup ∧ (s.heldNoted r).park = s.park ∧
      (s.heldNoted r).config r = s.config r := by
  unfold State.heldNoted
  dsimp only
  split
  · exact ⟨rfl, rfl, rfl, rfl⟩
  · refine ⟨rfl, rfl, rfl, ?_⟩
    exact (congrArg Region.config (State.region_modRegion_self s r fun g =>
      { g with
        run := { g.run with heldNotice := true }
        counters := { g.counters with held := satInc g.counters.held } }) :)

/-- A region whose draft is complete publishes once the reports leave its LIVE bank unviewed, or free the bank it
waits for; it publishes once (R32, R39). -/
theorem State.foldl_publishes (hp : s.phase r = .pending) (hc : s.DraftComplete r) {l : List Bank}
    (h : l ≠ [] ∧ ¬s.ViewOn r (s.run r).liveBank ∨
      (s.run r).thirdBank ∈ l ∧ (s.run r).roles.get (s.run r).thirdBank = .held) :
    ((l.foldl (fun s b => s.lastViewEnded r b) s).run r).frame = (s.run r).frame + 1 := by
  induction l generalizing s with
  | nil => simp at h
  | cons b l ih =>
    obtain ⟨roles, hrun, hroles, hfind⟩ := s.run_freed (r := r) b
    have hcomplete := (State.draftComplete_freed b).mpr hc
    have hpending := (State.phase_freed b).trans hp
    have hframe : ((s.freed r b).run r).frame = (s.run r).frame := by rw [hrun]
    rw [List.foldl_cons, State.lastViewEnded_eq]
    by_cases hd : (s.freed r b).BankAvailable r
    · rw [State.evaluate_publishes hpending hcomplete hd]
      obtain ⟨-, -, -, hf, -⟩ := State.foldl_rested (State.rested_publish hcomplete.2.1) l
      rw [hf, State.frame_publish hcomplete.2.1, hframe]
    · rw [State.evaluate_held hpending hcomplete hd]
      obtain ⟨x, hheldrun⟩ := (s.freed r b).run_heldNoted (r := r)
      obtain ⟨-, hcatchup, hpark, hconfig⟩ := (s.freed r b).heldNoted_frame (r := r)
      have hlive : ((s.freed r b).run r).liveBank = (s.run r).liveBank := by
        rw [hrun, Runtime.liveBank, hfind _ rfl, Runtime.liveBank]
      have hthird : ((s.freed r b).run r).thirdBank = (s.run r).thirdBank := by
        rw [hrun, Runtime.thirdBank, hfind _ rfl, Runtime.thirdBank]
      obtain ⟨hmem, hheld⟩ := h.resolve_left fun ⟨_, hview⟩ => hd (.inl (by rwa [State.viewOn_freed, hlive]))
      have hne : (s.run r).thirdBank ≠ b := fun he =>
        hd (State.bankAvailable_freed he.symm (he ▸ hheld))
      have hthird' : (((s.freed r b).heldNoted r).run r).thirdBank = (s.run r).thirdBank := by
        rw [hheldrun]
        exact hthird
      rw [ih, hheldrun, hframe]
      · exact (congrArg Runtime.phase hheldrun).trans hpending
      · refine (State.draftComplete_congr ?_ ?_ ?_ hconfig (congrArg Catchup.lines hcatchup)
          (congrArg ParkQueue.entries hpark)).mpr hcomplete <;> rw [hheldrun]
      · refine .inr ⟨?_, ?_⟩
        · rw [hthird']
          exact (List.mem_cons.mp hmem).resolve_left hne
        · rw [hthird', hheldrun]
          show ((s.freed r b).run r).roles.get _ = _
          rw [hrun, hroles, if_neg fun h => hne h.1, hheld]

end

end Sys2Proof.Machine


/-! SUPPORT. The bank reports of one happening, region by region, and views that leave the table (R39, R54, R57). -/

namespace Sys2Proof.Machine

set_option Elab.async false

/-! ### The reports of one region -/

section
variable {s : State} {r : RegionIx} {gone : List View}

/-- The banks of a region that lost their last view, HELD ones first (R57). -/
def State.lostBanks (s : State) (gone : List View) (r : RegionIx) : List Bank :=
  let lost := banks.filter fun b => (gone.any fun v => v.on r && v.bank == b) && !s.viewed r b
  let isHeld (b : Bank) : Bool := (s.run r).roles.get b == .held
  lost.filter isHeld ++ lost.filter fun b => !isHeld b

theorem State.reportRegion_eq :
    s.reportRegion gone r = (s.lostBanks gone r).foldl (fun s b => s.lastViewEnded r b) s := rfl

theorem State.mem_lostBanks {b : Bank} : b ∈ s.lostBanks gone r ↔ lostOf gone r b ∧ ¬s.ViewOn r b := by
  have hlost : b ∈ banks.filter (fun b => (gone.any fun v => v.on r && v.bank == b) && !s.viewed r b) ↔
      lostOf gone r b ∧ ¬s.ViewOn r b := by
    simp [mem_banks, lostOf, View.on, ← State.viewed_iff]
  rw [State.lostBanks, ← hlost, List.mem_append, List.mem_filter (p := fun b => (s.run r).roles.get b == .held),
    List.mem_filter (p := fun b => !(s.run r).roles.get b == .held), ← and_or_left]
  exact and_iff_left (by cases (s.run r).roles.get b == .held <;> simp)

theorem State.reportRegion_of_none (h : ∀ v ∈ gone, v.region ≠ r) : s.reportRegion gone r = s := by
  have hempty : s.lostBanks gone r = [] := by
    refine List.eq_nil_iff_forall_not_mem.mpr fun b hb => ?_
    obtain ⟨⟨v, hv, hr, -⟩, -⟩ := State.mem_lostBanks.mp hb
    exact h v hv hr
  rw [State.reportRegion_eq, hempty]
  rfl

theorem State.Beside.reportRegion_ne (s : State) {j : RegionIx} (hj : r ≠ j) :
    s.Beside r (s.reportRegion gone j) := by
  rw [State.reportRegion_eq]
  generalize s.lostBanks gone j = l
  induction l generalizing s with
  | nil => exact .refl s
  | cons b l ih => exact (lastViewEnded_ne s hj b).trans (ih _)

/-- What the reports leave of a region, in terms of its own. -/
theorem State.reportBanks_own (s : State) (gone : List View) (r : RegionIx) :
    ∃ t, s.Beside r t ∧ (t.reportRegion gone r).Beside r (s.reportBanks gone) :=
  State.Beside.foldl_around r (fun s _ hj => State.Beside.reportRegion_ne s hj) s

theorem State.Beside.viewOn {t : State} (h : s.Beside r t) (b : Bank) : t.ViewOn r b ↔ s.ViewOn r b := by
  simp only [State.ViewOn, State.view, h.views]

/-- In a region that does not publish, a HELD bank that lost its last view becomes FREE, and F stays (R39). -/
theorem State.reportBanks_rested (h : s.phase r ≠ .pending ∨ s.AreasLaw ∧ ¬s.DraftComplete r) (gone : List View) :
    ((s.reportBanks gone).run r).frame = (s.run r).frame ∧
      ∀ b, ((s.run r).roles.get b = .held → lostOf gone r b → ¬s.ViewOn r b →
          ((s.reportBanks gone).run r).roles.get b = .free) ∧
        ((s.run r).roles.get b ≠ .held ∨ s.ViewOn r b → ((s.reportBanks gone).run r).roles.get b =
          (s.run r).roles.get b) := by
  obtain ⟨t, hbefore, hafter⟩ := s.reportBanks_own gone r
  have hrest : t.Rested r := by
    intro hp hc
    rw [hbefore.phase] at hp
    obtain hnot | ⟨hareas, hnot⟩ := h
    · exact hnot hp
    · exact hnot ((hbefore.draftComplete hareas (by rw [hp]; rfl)).mp hc)
  obtain ⟨-, -, -, hframe, hroles⟩ := State.foldl_rested hrest (t.lostBanks gone r)
  rw [← State.reportRegion_eq] at hframe hroles
  refine ⟨hafter.frame.trans (hframe.trans hbefore.frame), fun b => ⟨fun hheld hlost hview => ?_, fun hkeep => ?_⟩⟩
  · rw [hafter.roles, hroles, hbefore.roles,
      if_pos ⟨State.mem_lostBanks.mpr ⟨hlost, mt (hbefore.viewOn b).mp hview⟩, hheld⟩]
  · rw [hafter.roles, hroles, hbefore.roles, if_neg]
    rintro ⟨hmem, hheld⟩
    exact hkeep.elim (fun h => h hheld) fun h => (State.mem_lostBanks.mp hmem).2 ((hbefore.viewOn b).mpr h)

/-- A PENDING region whose draft is complete publishes, once, when the last view on its LIVE bank or on the HELD bank
it waits for is gone (R32, R39). -/
theorem State.reportBanks_publishes (hareas : s.AreasLaw) (hp : s.phase r = .pending) (hc : s.DraftComplete r) {b : Bank}
    (hlost : lostOf gone r b) (hview : ¬s.ViewOn r b)
    (hb : b = (s.run r).liveBank ∨ b = (s.run r).thirdBank ∧ (s.run r).roles.get b = .held) :
    ((s.reportBanks gone).run r).frame = (s.run r).frame + 1 := by
  obtain ⟨t, hbefore, hafter⟩ := s.reportBanks_own gone r
  have hcomplete := (hbefore.draftComplete hareas (by rw [hp]; rfl)).mpr hc
  have hmem : b ∈ t.lostBanks gone r := State.mem_lostBanks.mpr ⟨hlost, mt (hbefore.viewOn b).mp hview⟩
  have hlive : (t.run r).liveBank = (s.run r).liveBank := by rw [Runtime.liveBank, hbefore.roles, Runtime.liveBank]
  have hthird : (t.run r).thirdBank = (s.run r).thirdBank := by rw [Runtime.thirdBank, hbefore.roles, Runtime.thirdBank]
  rw [hafter.frame, State.reportRegion_eq, State.foldl_publishes (hbefore.phase.trans hp) hcomplete, hbefore.frame]
  rw [hlive, hthird, hbefore.roles, hbefore.viewOn]
  obtain rfl | ⟨rfl, hheld⟩ := hb
  · exact .inl ⟨List.ne_nil_of_mem hmem, hview⟩
  · exact .inr ⟨hmem, hheld⟩

/-! ### What the reports count -/

/-- The counters of a region that views move (R173). -/
def Counters.ofViews (c : Counters) : BitVec 32 × BitVec 32 × BitVec 32 × Bool :=
  (c.viewsOpened, c.expired, c.viewShortage, c.shortageFlag)

/-- `t` has counted no view that `s` has not. -/
structure State.ViewsCounted (s t : State) : Prop where
  counts : ∀ r : RegionIx, (t.region r).counters.ofViews = (s.region r).counters.ofViews

namespace State.ViewsCounted

theorem refl (s : State) : s.ViewsCounted s := ⟨fun _ => rfl⟩

theorem trans {s t u : State} (h : s.ViewsCounted t) (h' : t.ViewsCounted u) : s.ViewsCounted u :=
  ⟨fun r => (h'.counts r).trans (h.counts r)⟩

theorem of_regions {s t : State} (h : t.regions = s.regions) : s.ViewsCounted t :=
  ⟨fun r => by rw [State.region_congr h]⟩

theorem modRegion (s : State) (j : RegionIx) {f : Region → Region}
    (hf : (f (s.region j)).counters.ofViews = (s.region j).counters.ofViews) : s.ViewsCounted (s.modRegion j f) := by
  refine ⟨fun r => ?_⟩
  by_cases hr : r = j
  · subst hr
    rw [State.region_modRegion_self, hf]
  · rw [State.region_modRegion_ne s hr]

theorem modRun (s : State) (j : RegionIx) (f : Runtime → Runtime) : s.ViewsCounted (s.modRun j f) :=
  modRegion s j rfl

theorem modCounters (s : State) (j : RegionIx) {f : Counters → Counters} (hf : ∀ c, (f c).ofViews = c.ofViews) :
    s.ViewsCounted (s.modCounters j f) := modRegion s j (hf _)

theorem raiseNotice (s : State) (j : RegionIx) (k : NoticeKind) (t : Option Tag) (d : BitVec 16) :
    s.ViewsCounted (s.raiseNotice j k t d) := of_regions (State.raiseNotice_frame ..).1

theorem chargeEmpty (s : State) (j : RegionIx) (x : Source) : s.ViewsCounted (s.chargeEmpty j x) := by
  unfold State.chargeEmpty
  exact (modCounters s j (f := fun c => { c with empty := satInc c.empty }) fun _ => rfl).trans
    (ViewsCounted.raiseNotice ..)

theorem noteHeld (s : State) (j : RegionIx) : s.ViewsCounted (s.noteHeld j) := by
  unfold State.noteHeld
  split
  · exact refl s
  · unfold State.chargeHeld
    exact ((modRun s j _).trans (modCounters _ j (f := fun c => { c with held := satInc c.held }) fun _ => rfl)).trans
      (ViewsCounted.raiseNotice ..)

theorem waitNoted (s : State) (j : RegionIx) : s.ViewsCounted (s.waitNoted j) := by
  unfold State.waitNoted
  split
  · exact noteHeld s j
  · exact refl s

theorem publishCore (s : State) (j : RegionIx) : s.ViewsCounted (s.publishCore j) :=
  (modRun s j _).trans (of_regions (s.regions_publishCore j))

theorem drainNext (s : State) : s.ViewsCounted s.drainNext :=
  ⟨fun r => by rw [(State.Beside.drainNext (r := r) s).counters]⟩

theorem followOn (s : State) (j : RegionIx) : s.ViewsCounted (s.followOn j) := by
  rw [State.followOn_eq]
  split
  · refine (modRun s j fun t => { t with followOn := false }).trans ?_
    unfold State.followed
    split
    · exact ViewsCounted.chargeEmpty ..
    · split
      · exact (modRun _ j _).trans (publishCore ..)
      · exact (modRun _ j _).trans (waitNoted ..)
  · exact refl s

theorem evaluate (s : State) (j : RegionIx) : s.ViewsCounted (s.evaluate j) := by
  unfold State.evaluate
  split
  · split
    · exact ((publishCore s j).trans (followOn ..)).trans (drainNext _)
    · exact waitNoted s j
  · exact refl s

theorem lastViewEnded (s : State) (j : RegionIx) (b : Bank) : s.ViewsCounted (s.lastViewEnded j b) := by
  unfold State.lastViewEnded
  split
  · exact (modRun s j _).trans (evaluate ..)
  · exact evaluate s j

theorem foldl {α : Type} {f : State → α → State} (hf : ∀ s a, State.ViewsCounted s (f s a)) (l : List α) (s : State) :
    s.ViewsCounted (l.foldl f s) := by
  induction l generalizing s with
  | nil => exact refl s
  | cons a l ih => exact (hf s a).trans (ih _)

theorem reportBanks (s : State) (gone : List View) : s.ViewsCounted (s.reportBanks gone) :=
  foldl (fun s j => foldl (fun s b => lastViewEnded s j b) (s.lostBanks gone j) s) regionIxs s

end State.ViewsCounted

end

end Sys2Proof.Machine


/-! SUPPORT. Views dropped and views that expire (R39, R51, R54, R57, R58). -/

namespace Sys2Proof.Machine

set_option Elab.async false

/-! ### What a change of views and counters leaves -/

/-- `t` differs from `s` in views, counters, notices and the like, not in what a publication is made of. -/
structure State.SameDrafts (s t : State) : Prop where
  run : ∀ r, t.run r = s.run r
  config : ∀ r, t.config r = s.config r
  lines : t.catchup.lines = s.catchup.lines
  entries : t.park.entries = s.park.entries

namespace State.SameDrafts

variable {s t u : State}

theorem refl (s : State) : s.SameDrafts s := ⟨fun _ => rfl, fun _ => rfl, rfl, rfl⟩

theorem trans (h : s.SameDrafts t) (h' : t.SameDrafts u) : s.SameDrafts u :=
  ⟨fun r => (h'.run r).trans (h.run r), fun r => (h'.config r).trans (h.config r), h'.lines.trans h.lines,
    h'.entries.trans h.entries⟩

section
variable (h : s.SameDrafts t)
include h

theorem phase (r : RegionIx) : t.phase r = s.phase r := congrArg Runtime.phase (h.run r)

theorem areasLaw : t.AreasLaw ↔ s.AreasLaw := by
  simp only [State.AreasLaw, h.phase, h.config]

theorem draftComplete (r : RegionIx) : t.DraftComplete r ↔ s.DraftComplete r :=
  State.draftComplete_congr (by rw [h.run]) (by rw [h.run]) (by rw [h.run]) (h.config r) h.lines h.entries

end

theorem chargeExpiry (s : State) (v : View) : s.SameDrafts (s.chargeExpiry v) := by
  have hregions : (s.chargeExpiry v).regions =
      (s.modCounters v.region fun c => { c with expired := satInc c.expired }).regions :=
    (State.raiseNotice_frame ..).1
  refine ⟨fun r => ?_, fun r => ?_, by simp, by simp⟩
  · rw [State.run_congr hregions, State.run_modCounters]
  · rw [State.config_congr hregions, State.config_modCounters]

theorem chargeAll (s : State) (l : List View) : s.SameDrafts (l.foldl (fun s v => s.chargeExpiry v) s) := by
  induction l generalizing s with
  | nil => exact refl s
  | cons v l ih => exact (chargeExpiry s v).trans (ih _)

theorem setViews (s : State) (x : Vector (Option View) 32) : s.SameDrafts (s.setViews x) :=
  ⟨fun _ => rfl, fun _ => rfl, rfl, rfl⟩

end State.SameDrafts

/-! ### Views taken out of the table -/

section
variable (s : State) (test : Nat → View → Bool)

theorem State.viewOn_dropWhere (r : RegionIx) (b : Bank) :
    (s.dropWhere test).ViewOn r b ↔
      ∃ (k : Slot) (v : View), s.view k = some v ∧ test k.val v = false ∧ v.region = r ∧ v.bank = b := by
  simp only [State.ViewOn, State.view_dropWhere, Option.filter_eq_some_iff, Bool.not_eq_true', and_assoc]

theorem State.lostOf_viewsWhere (r : RegionIx) (b : Bank) :
    lostOf (s.viewsWhere test) r b ↔
      ∃ (k : Slot) (v : View), s.view k = some v ∧ test k.val v = true ∧ v.region = r ∧ v.bank = b := by
  simp only [lostOf, State.mem_viewsWhere]
  exact ⟨fun ⟨v, ⟨k, hk, ht⟩, hr, hb⟩ => ⟨k, v, hk, ht, hr, hb⟩, fun ⟨k, v, hk, ht, hr, hb⟩ => ⟨v, ⟨k, hk, ht⟩, hr, hb⟩⟩

/-- A bank that had a view and has none left was lost. -/
theorem State.lostOf_of_viewOn {r : RegionIx} {b : Bank} (h : s.ViewOn r b) (hnot : ¬(s.dropWhere test).ViewOn r b) :
    lostOf (s.viewsWhere test) r b := by
  obtain ⟨k, v, hk, hr, hb⟩ := h
  refine (s.lostOf_viewsWhere test r b).mpr ⟨k, v, hk, ?_, hr, hb⟩
  by_contra ht
  exact hnot ((s.viewOn_dropWhere test r b).mpr ⟨k, v, hk, Bool.eq_false_iff.mpr ht, hr, hb⟩)

theorem State.viewsWhere_eq_nil (h : ∀ k v, s.view k = some v → test k.val v = false) : s.viewsWhere test = [] := by
  refine List.eq_nil_iff_forall_not_mem.mpr fun v hv => ?_
  obtain ⟨k, hk, ht⟩ := State.mem_viewsWhere.mp hv
  exact Bool.false_ne_true ((h k v hk).symm.trans ht)

theorem State.views_ext {s t : State} (h : ∀ k, t.view k = s.view k) : t.views = s.views := by
  refine Vector.ext fun i hi => ?_
  have := h ⟨i, hi⟩
  simpa [State.view, Vector.get_eq_getElem] using this

theorem State.dropWhere_of_none (h : ∀ k v, s.view k = some v → test k.val v = false) : s.dropWhere test = s := by
  have hviews : (s.dropWhere test).views = s.views := State.views_ext fun k => by
    rw [State.view_dropWhere]
    cases hk : s.view k with
    | none => rfl
    | some v => simp [h k v hk]
  exact congrArg s.setViews hviews

theorem State.reportBanks_nil : s.reportBanks [] = s := by
  have hall (l : List RegionIx) (t : State) : l.foldl (fun s r => s.reportRegion [] r) t = t := by
    induction l generalizing t with
    | nil => rfl
    | cons r l ih => rw [List.foldl_cons, State.reportRegion_of_none (by simp), ih]
  exact hall regionIxs s

/-- The one view that passes a test. -/
theorem State.viewsWhere_eq_single {k : Slot} {v : View} (hk : s.view k = some v) (ht : test k.val v = true)
    (hall : ∀ j w, s.view j = some w → test j.val w = true → j = k) : s.viewsWhere test = [v] := by
  have hnone (j : Slot) (hj : j ≠ k) : (s.view j).filter (test j.val) = none := by
    rw [Option.filter_eq_none_iff]
    exact fun w hw htest => hj (hall j w hw htest)
  have hnil (l : List Slot) (hl : k ∉ l) : l.filterMap (fun j => (s.view j).filter (test j.val)) = [] :=
    List.filterMap_eq_nil_iff.mpr fun j hj => hnone j fun h => hl (h ▸ hj)
  obtain ⟨l, l', hsplit⟩ := List.append_of_mem (mem_slotIxs k)
  have hnodup : slotIxs.Nodup := by rw [slotIxs_eq_finRange]; exact List.nodup_finRange 32
  rw [hsplit, List.nodup_middle, List.nodup_cons, List.mem_append, not_or] at hnodup
  rw [State.viewsWhere, hsplit, List.filterMap_append, List.filterMap_cons, hnil l hnodup.1.1, hnil l' hnodup.1.2, hk,
    Option.filter_some, if_pos ht]
  rfl

/-- The slots of the views that pass a test on a region are as many as the views. -/
theorem State.countP_viewsWhere {r : RegionIx} {gone : List Slot} (hnodup : gone.Nodup)
    (hgone : ∀ k : Slot, k ∈ gone ↔ ∃ v, s.view k = some v ∧ v.region = r ∧ test k.val v = true) :
    (s.viewsWhere test).countP (fun v => v.region = r) = gone.length := by
  have hfilter : gone.length = (slotIxs.filter fun k =>
      ((s.view k).filter (test k.val)).any fun v => v.region = r).length := by
    refine List.Perm.length_eq ((List.perm_ext_iff_of_nodup hnodup ?_).mpr fun k => ?_)
    · rw [slotIxs_eq_finRange]
      exact (List.nodup_finRange 32).filter _
    · simp only [hgone, List.mem_filter, mem_slotIxs, Option.any_eq_true, Option.filter_eq_some_iff,
        decide_eq_true_eq, true_and]
      exact ⟨fun ⟨v, hv, hr, ht⟩ => ⟨v, ⟨hv, ht⟩, hr⟩, fun ⟨v, ⟨hv, ht⟩, hr⟩ => ⟨v, hv, hr, ht⟩⟩
  rw [hfilter, State.viewsWhere, List.countP_filterMap, ← List.countP_eq_length_filter]
  refine List.countP_congr fun k _ => ?_
  cases (s.view k).filter (test k.val) <;> simp

end

/-! ### The bank reports of a region that is not PENDING -/

/-- Reports for regions that are not PENDING raise no notice. -/
theorem State.notices_reportBanks {s : State} {gone : List View} (h : ∀ v ∈ gone, s.phase v.region ≠ .pending) :
    (s.reportBanks gone).notices = s.notices := by
  have hall (l : List RegionIx) (t : State) (ht : ∀ v ∈ gone, t.phase v.region ≠ .pending) :
      (l.foldl (fun s r => s.reportRegion gone r) t).notices = t.notices := by
    induction l generalizing t with
    | nil => rfl
    | cons r l ih =>
      rw [List.foldl_cons]
      by_cases hr : ∃ v ∈ gone, v.region = r
      · obtain ⟨v, hv, rfl⟩ := hr
        obtain ⟨-, hphase, hnotices, -, -⟩ :=
          State.foldl_rested (fun hp => absurd hp (ht v hv)) (t.lostBanks gone v.region)
        rw [← State.reportRegion_eq] at hphase hnotices
        refine (ih _ fun w hw => ?_).trans hnotices
        by_cases hw' : w.region = v.region
        · rw [hw', hphase]
          exact ht v hv
        · rw [(State.Beside.reportRegion_ne t hw').phase]
          exact ht w hw
      · rw [not_exists] at hr
        rw [State.reportRegion_of_none fun v hv hreg => hr v ⟨hv, hreg⟩]
        exact ih t ht
  exact hall regionIxs s h

/-! ### Expiries (R54) -/

theorem State.expired_chargeExpiry (s : State) (v : View) (r : RegionIx) :
    ((s.chargeExpiry v).region r).counters.expired =
      if v.region = r then satInc (s.region r).counters.expired else (s.region r).counters.expired := by
  have hregions : (s.chargeExpiry v).regions =
      (s.modCounters v.region fun c => { c with expired := satInc c.expired }).regions :=
    (State.raiseNotice_frame ..).1
  rw [State.region_congr hregions, State.modCounters]
  by_cases h : v.region = r
  · subst h
    rw [State.region_modRegion_self, if_pos rfl]
  · rw [State.region_modRegion_ne s (Ne.symm h), if_neg h]

theorem State.expired_chargeAll (s : State) (l : List View) (r : RegionIx) :
    ((l.foldl (fun s v => s.chargeExpiry v) s).region r).counters.expired =
      satInc^[l.countP fun v => v.region = r] (s.region r).counters.expired := by
  induction l generalizing s with
  | nil => rfl
  | cons v l ih =>
    rw [List.foldl_cons, ih, State.expired_chargeExpiry, List.countP_cons]
    by_cases h : v.region = r <;> simp [h]

theorem State.notices_chargeExpiry (s : State) (v : View) :
    (s.chargeExpiry v).notices =
      s.notices.raised (s.config v.region).noticeMask
        (s.noticeOf v.region .viewExpired (some v.tag) (if v.age = 0 then 1 else 0)) := by
  rw [State.chargeExpiry, State.raiseNotice_modCounters]
  rfl

/-- The state once the views that pass a test have left and been counted, before the bank reports (R54). -/
def State.expiredOnly (s : State) (test : Nat → View → Bool) : State :=
  (s.viewsWhere test).foldl (fun s v => s.chargeExpiry v) (s.dropWhere test)

theorem State.expireViews_eq (s : State) (test : Nat → View → Bool) :
    s.expireViews test = (s.expiredOnly test).reportBanks (s.viewsWhere test) := rfl

section
variable (s : State) (test : Nat → View → Bool)

theorem State.sameDrafts_dropWhere : s.SameDrafts (s.dropWhere test) := State.SameDrafts.setViews s _

theorem State.sameDrafts_expiredOnly : s.SameDrafts (s.expiredOnly test) :=
  (s.sameDrafts_dropWhere test).trans (.chargeAll ..)

theorem State.view_expiredOnly (k : Slot) :
    (s.expiredOnly test).view k = (s.view k).filter fun v => !test k.val v := by
  rw [← State.view_dropWhere, State.view, State.expiredOnly, (State.chargeAll_frame _ _).1]
  rfl

theorem State.viewOn_expiredOnly (r : RegionIx) (b : Bank) :
    (s.expiredOnly test).ViewOn r b ↔ (s.dropWhere test).ViewOn r b := by
  simp only [State.ViewOn, State.view_expiredOnly, State.view_dropWhere]

theorem State.view_expireViews (k : Slot) :
    (s.expireViews test).view k = (s.view k).filter fun v => !test k.val v := by
  rw [← s.view_expiredOnly test k, State.view, State.expireViews_eq, (State.reportBanks_frame _ _).1]
  rfl

end

theorem View.due_iff (v : View) : v.due = true ↔ v.inUse = false ∧ (v.idle = 0 ∨ v.age = 0) := by
  simp [View.due, View.spent]

/-- The banks after views have left, in a state `t` that reports them. -/
theorem State.banks_of_reports {s t : State} (h : s.SameDrafts t) {gone : List View}
    (hlost : ∀ r b, s.ViewOn r b → ¬t.ViewOn r b → lostOf gone r b) {r : RegionIx} {b : Bank}
    (hquiet : s.phase r ≠ .pending ∨ s.AreasLaw ∧ ¬s.DraftComplete r) :
    ((t.reportBanks gone).run r).frame = (s.run r).frame ∧
      ((s.run r).roles.get b = .held → s.ViewOn r b → ¬(t.reportBanks gone).ViewOn r b →
        ((t.reportBanks gone).run r).roles.get b = .free) ∧
      ((s.run r).roles.get b ≠ .held ∨ (t.reportBanks gone).ViewOn r b →
        ((t.reportBanks gone).run r).roles.get b = (s.run r).roles.get b) := by
  have hview : (t.reportBanks gone).ViewOn r b ↔ t.ViewOn r b := by
    simp only [State.ViewOn, State.view, (State.reportBanks_frame t gone).1]
  rw [← h.phase, ← h.areasLaw, ← h.draftComplete] at hquiet
  obtain ⟨hframe, hroles⟩ := State.reportBanks_rested hquiet gone
  obtain ⟨hfree, hkeep⟩ := hroles b
  rw [h.run] at hframe hfree hkeep
  rw [hview]
  exact ⟨hframe, fun hheld hv hnot => hfree hheld (hlost r b hv hnot) hnot, hkeep⟩

theorem State.publishes_of_reports {s t : State} (h : s.SameDrafts t) {gone : List View}
    (hlost : ∀ r b, s.ViewOn r b → ¬t.ViewOn r b → lostOf gone r b) {r : RegionIx} {b : Bank} (hareas : s.AreasLaw)
    (hp : s.phase r = .pending) (hc : s.DraftComplete r) (hv : s.ViewOn r b) (hnot : ¬t.ViewOn r b)
    (hb : b = (s.run r).liveBank ∨ b = (s.run r).thirdBank ∧ (s.run r).roles.get b = .held) :
    ((t.reportBanks gone).run r).frame = (s.run r).frame + 1 := by
  rw [State.reportBanks_publishes (h.areasLaw.mpr hareas) ((h.phase r).trans hp) ((h.draftComplete r).mpr hc)
    (hlost r b hv hnot) hnot (by rwa [h.run]), h.run]

/-- Settles O58: the views that are due leave together, are counted, and their banks are reported. -/
theorem viewsExpired : Obligations.ViewsExpired := by
  intro s due
  let test : Nat → View → Bool := fun _ v => v.due
  have hdue (v : View) : due v ↔ v.due = true := (View.due_iff v).symm
  have hexec : exec .viewExpiry s = .next (s.expireViews test).grantNext := rfl
  refine ⟨fun hnone => CompletesGranting.of_exec ?_, s.expireViews test, CompletesGranting.of_exec hexec,
    fun k v hk => ?_, fun k hk => ?_, fun r gone hnodup hgone => ?_, fun r b hquiet => ?_,
    fun r b hareas hp hc hv hall hb => ?_, fun k v hk hv hp honly => ?_, by simp⟩
  · have htest (k : Slot) (v : View) (hk : s.view k = some v) : test k.val v = false :=
      Bool.eq_false_iff.mpr (mt (hdue v).mpr (hnone k v hk))
    rw [hexec, State.expireViews_eq, State.expiredOnly, State.viewsWhere_eq_nil s test htest, List.foldl_nil,
      State.dropWhere_of_none s test htest, State.reportBanks_nil]
  · rw [State.view_expireViews, hk, hdue]
    cases h : v.due <;> simp [test, h]
  · rw [State.view_expireViews, hk]
    rfl
  · have hcounts := (State.ViewsCounted.reportBanks (s.expiredOnly test) (s.viewsWhere test)).counts r
    have hexpired : ((s.expireViews test).region r).counters.expired =
        ((s.expiredOnly test).region r).counters.expired := congrArg (fun x => x.2.1) hcounts
    rw [hexpired, State.expiredOnly, State.expired_chargeAll, State.countP_viewsWhere s test hnodup]
    · rfl
    · simpa only [hdue] using hgone
  · rw [State.expireViews_eq]
    refine State.banks_of_reports (s.sameDrafts_expiredOnly test) (fun r b hv hnot => ?_) hquiet
    exact s.lostOf_of_viewOn test hv (mt (s.viewOn_expiredOnly test r b).mpr hnot)
  · rw [State.expireViews_eq]
    refine State.publishes_of_reports (s.sameDrafts_expiredOnly test) (fun r b hv hnot => ?_) hareas hp hc hv ?_ hb
    · exact s.lostOf_of_viewOn test hv (mt (s.viewOn_expiredOnly test r b).mpr hnot)
    · rw [s.viewOn_expiredOnly test, State.viewOn_dropWhere]
      rintro ⟨k, v, hk, ht, hr, hbank⟩
      exact Bool.false_ne_true (ht.symm.trans ((hdue v).mp (hall k v hk hr hbank)))
  · have hone := s.viewsWhere_eq_single test hk ((hdue v).mp hv) fun j w hj hw => honly j w hj ((hdue w).mpr hw)
    rw [State.expireViews_eq, State.notices_reportBanks, State.expiredOnly, hone, List.foldl_cons, List.foldl_nil,
      State.notices_chargeExpiry]
    · rfl
    · intro w hw
      rw [hone, List.mem_singleton] at hw
      rw [(s.sameDrafts_expiredOnly test).phase, hw]
      exact hp

end Sys2Proof.Machine


/-! SUPPORT. DROP_VIEWS (R51, R57, R58, R193). -/

namespace Sys2Proof.Machine

set_option Elab.async false

/-! ### What DROP_VIEWS names -/

theorem dropTarget_of_none {which : Byte} (h : 16 ≤ which.toNat) (hall : which ≠ 0xFF#8) : dropTarget which = none := by
  rw [dropTarget, if_neg hall, regionOf_of_le h]
  rfl

theorem dropTarget_of_some {which : Byte} (h : which.toNat < 16 ∨ which = 0xFF#8) :
    ∃ test : View → Bool, dropTarget which = some test ∧
      ∀ v, test v = true ↔ which = 0xFF#8 ∨ which.toNat = v.region.val := by
  by_cases hall : which = 0xFF#8
  · exact ⟨fun _ => true, if_pos hall, fun v => by simp [hall]⟩
  · obtain hlt := h.resolve_right hall
    refine ⟨fun v => v.on ⟨which.toNat, hlt⟩, ?_, fun v => ?_⟩
    · rw [dropTarget, if_neg hall, regionOf_of_toNat (r := ⟨which.toNat, hlt⟩) rfl]
      rfl
    · show (v.region == ⟨which.toNat, hlt⟩) = true ↔ _
      rw [beq_iff_eq, Fin.ext_iff, or_iff_right hall]
      exact eq_comm

theorem State.region_ack (s : State) (seq : Byte) (p : List Byte) (r : RegionIx) :
    (s.ack seq p).region r = s.region r := rfl

theorem State.run_ack (s : State) (seq : Byte) (p : List Byte) (r : RegionIx) : (s.ack seq p).run r = s.run r := rfl

theorem State.viewOn_ack (s : State) (seq : Byte) (p : List Byte) (r : RegionIx) (b : Bank) :
    (s.ack seq p).ViewOn r b ↔ s.ViewOn r b := Iff.rfl

/-! ### The views marked and removed (R51, R58) -/

/-- The views named that are in use marked drop due. -/
def State.markDrops (s : State) (test : View → Bool) : State :=
  s.setViews (vmap (fun _ v => v.map (View.markDrop test)) s.views)

section
variable (s : State) (test : View → Bool)

theorem State.dropViews_eq : s.dropViews test =
    ((s.markDrops test).dropWhere fun _ v => test v && !v.inUse).reportBanks
      ((s.markDrops test).viewsWhere fun _ v => test v && !v.inUse) := rfl

theorem State.view_markDrops (k : Slot) : (s.markDrops test).view k = (s.view k).map (View.markDrop test) :=
  vmap_get (fun _ (v : Option View) => v.map (View.markDrop test)) s.views k

theorem View.markDrop_region (v : View) : (v.markDrop test).region = v.region := by
  unfold View.markDrop
  split <;> rfl

theorem View.markDrop_bank (v : View) : (v.markDrop test).bank = v.bank := by
  unfold View.markDrop
  split <;> rfl

theorem State.viewOn_markDrops (r : RegionIx) (b : Bank) : (s.markDrops test).ViewOn r b ↔ s.ViewOn r b := by
  simp only [State.ViewOn, State.view_markDrops, Option.map_eq_some_iff]
  constructor
  · rintro ⟨k, v, ⟨w, hk, rfl⟩, hr, hb⟩
    exact ⟨k, w, hk, (View.markDrop_region test w).symm.trans hr, (View.markDrop_bank test w).symm.trans hb⟩
  · rintro ⟨k, w, hk, hr, hb⟩
    exact ⟨k, _, ⟨w, hk, rfl⟩, (View.markDrop_region test w).trans hr, (View.markDrop_bank test w).trans hb⟩

/-- Views named that are not in use leave, those in use are marked, and the others stay. -/
theorem State.view_dropViews (k : Slot) :
    (s.dropViews test).view k =
      (s.view k).bind fun v =>
        if test v = true then if v.inUse then some { v with dropDue := true } else none else some v := by
  have hreports : (s.dropViews test).view k = ((s.markDrops test).dropWhere fun _ v => test v && !v.inUse).view k := by
    rw [State.dropViews_eq, State.view, (State.reportBanks_frame _ _).1]
    rfl
  rw [hreports, State.view_dropWhere, State.view_markDrops]
  cases hk : s.view k with
  | none => rfl
  | some v =>
    obtain ⟨tag, region, bank, frame, idle, age, inUse, dropDue⟩ := v
    cases inUse
    · cases ht : test ⟨tag, region, bank, frame, idle, age, false, dropDue⟩ <;> simp [View.markDrop, ht]
    · cases ht : test ⟨tag, region, bank, frame, idle, age, true, dropDue⟩ <;> simp [View.markDrop, ht]

theorem State.viewOn_dropViews (r : RegionIx) (b : Bank) :
    ((s.markDrops test).dropWhere fun _ v => test v && !v.inUse).ViewOn r b ↔ (s.dropViews test).ViewOn r b := by
  simp only [State.ViewOn, State.view, State.dropViews_eq, (State.reportBanks_frame _ _).1]

theorem State.sameDrafts_dropped :
    s.SameDrafts ((s.markDrops test).dropWhere fun _ v => test v && !v.inUse) :=
  (State.SameDrafts.setViews s _).trans (State.sameDrafts_dropWhere _ _)

theorem State.lostOf_dropped (r : RegionIx) (b : Bank) (hv : s.ViewOn r b)
    (hnot : ¬((s.markDrops test).dropWhere fun _ v => test v && !v.inUse).ViewOn r b) :
    lostOf ((s.markDrops test).viewsWhere fun _ v => test v && !v.inUse) r b :=
  (s.markDrops test).lostOf_of_viewOn _ ((s.viewOn_markDrops test r b).mpr hv) hnot

theorem State.viewsCounted_dropViews (r : RegionIx) :
    ((s.dropViews test).region r).counters.ofViews = (s.region r).counters.ofViews := by
  rw [State.dropViews_eq, (State.ViewsCounted.reportBanks _ _).counts]
  rfl

/-- The slots of the views named, as many as the response counts. -/
def State.namedSlots : List Slot := slotIxs.filter fun k => (s.view k).any test

theorem State.nodup_namedSlots : (s.namedSlots test).Nodup := by
  rw [State.namedSlots, slotIxs_eq_finRange]
  exact (List.nodup_finRange 32).filter _

theorem State.mem_namedSlots (k : Slot) : k ∈ s.namedSlots test ↔ ∃ v, s.view k = some v ∧ test v = true := by
  simp [State.namedSlots, mem_slotIxs, Option.any_eq_true]

theorem State.length_namedSlots : (s.viewsWhere fun _ v => test v).length = (s.namedSlots test).length := by
  rw [State.viewsWhere, State.namedSlots, List.length_filterMap_eq_countP, ← List.countP_eq_length_filter]
  refine List.countP_congr fun k _ => ?_
  cases s.view k with
  | none => simp
  | some v => cases h : test v <;> simp [h]

end

/-- Settles O31: the views named leave or are marked, and their banks are reported. -/
theorem viewsDropped : Obligations.ViewsDropped := by
  intro seq which s hs c named
  have hexec : exec c s = .next (s.executing.dropViewsCommand seq which).grantNext := by
    have : exec c s = .next (s.endFrame fun t => t.dropViewsCommand seq which).grantNext := rfl
    rw [this, State.endFrame_executing hs]
  refine ⟨fun h hall => CompletesGranting.of_exec ?_, fun h => ?_⟩
  · rw [hexec, State.dropViewsCommand, dropTarget_of_none h hall]
    rfl
  · obtain ⟨test, htarget, htest⟩ := dropTarget_of_some h
    have hnamed (v : View) : named v ↔ test v = true := (htest v).symm
    have hview (k : Slot) := s.executing.view_dropViews test k
    refine ⟨(s.executing.dropViews test).ack seq [BitVec.ofNat 8 (s.namedSlots test).length], s.namedSlots test,
      CompletesGranting.of_exec ?_, s.nodup_namedSlots test, fun k => ?_, ?_, fun k v hk => ⟨fun hn hu => ?_,
        fun hn hu => ?_, fun hn => ?_⟩, fun k hk => ?_, fun r => ?_, fun r b hquiet => ?_,
      fun r b hareas hp hc hv hall hb => ?_, ?_, ?_, ?_⟩
    · rw [hexec, State.dropViewsCommand, htarget, ← State.length_namedSlots]
      rfl
    · rw [State.mem_namedSlots]
      simp only [hnamed]
    · have hlink : (s.executing.dropViews test).link = s.executing.link := by simp
      rw [State.ack, State.placeResponse, State.setLink_link, hlink]
      rfl
    · exact (hview k).trans (by rw [show s.executing.view k = some v from hk]; simp [(hnamed v).mp hn, hu])
    · exact (hview k).trans (by rw [show s.executing.view k = some v from hk]; simp [(hnamed v).mp hn, hu])
    · exact (hview k).trans (by
        rw [show s.executing.view k = some v from hk]
        simp [mt (hnamed v).mpr hn])
    · exact (hview k).trans (by rw [show s.executing.view k = none from hk]; rfl)
    · have hcounts := s.executing.viewsCounted_dropViews test r
      simp only [Counters.ofViews, Prod.mk.injEq] at hcounts
      rw [State.region_ack]
      exact hcounts
    · rw [State.run_ack, State.viewOn_ack, State.dropViews_eq]
      exact State.banks_of_reports (s.executing.sameDrafts_dropped test) (s.executing.lostOf_dropped test) hquiet
    · rw [State.run_ack, State.dropViews_eq]
      refine State.publishes_of_reports (s.executing.sameDrafts_dropped test) (s.executing.lostOf_dropped test) hareas hp
        hc hv ?_ hb
      rw [State.viewOn_dropViews]
      rintro ⟨k, w, hk, hr, hbank⟩
      rw [hview k] at hk
      obtain ⟨v, hv, hw⟩ := Option.bind_eq_some_iff.mp hk
      by_cases ht : test v = true
      · rw [if_pos ht] at hw
        split at hw
        · next hu =>
          obtain rfl := Option.some.inj hw
          exact Bool.false_ne_true ((hall k v hv hr hbank).2.symm.trans hu)
        · cases hw
      · rw [if_neg ht] at hw
        obtain rfl := Option.some.inj hw
        exact ht ((hnamed v).mp (hall k v hv hr hbank).1)
    · simp [State.executing]
    · simp [State.executing]
    · simp [State.executing]

end Sys2Proof.Machine


/-! SUPPORT. A draft write issued, and the WORD trigger of a write that takes effect (R28, R66, R83, R108). -/

namespace Sys2Proof.Machine

set_option Elab.async false

/-! ### A draft write counted (R83) -/

/-- The record of a region with one more draft write in flight, its line dirty (R28, R83). -/
def Runtime.issued (t : Runtime) (wasDirty : Bool) : Runtime :=
  { t with inFlight := t.inFlight + 1, dirtyLines := if wasDirty then t.dirtyLines else t.dirtyLines + 1 }

section
variable (s : State) (r : RegionIx) (ix : Nat)

theorem State.regions_countIssue :
    (s.countIssue r ix).regions = (s.modRun r fun t => t.issued (s.line ix).dirty).regions := by
  unfold State.countIssue State.markDirty
  cases h : (s.line ix).dirty
  · exact (congrArg State.regions (s.modRun_modRun r (fun t => { t with dirtyLines := t.dirtyLines + 1 })
      fun t => { t with inFlight := t.inFlight + 1 }) :)
  · rfl

theorem State.run_countIssue_self : (s.countIssue r ix).run r = (s.run r).issued (s.line ix).dirty := by
  rw [State.run_congr (s.regions_countIssue r ix), State.run_modRun_self]

theorem State.line_countIssue (h : ix < 2048) (j : Nat) :
    (s.countIssue r ix).line j = if j = ix then { s.line ix with dirty := true } else s.line j := by
  have hmark : (s.markDirty r ix).line j = if j = ix then { s.line ix with dirty := true } else s.line j := by
    unfold State.markDirty
    split
    · next hd =>
      split
      · next hj => rw [hj, ← hd]
      · rfl
    · refine (State.line_modLines_eq s (fun j e => if j = ix then { e with dirty := true } else e) j).trans ?_
      by_cases hj : j = ix
      · subst hj
        simp [h]
      · simp [hj]
  exact hmark

theorem State.catchup_countIssue :
    (s.countIssue r ix).catchup.queue = s.catchup.queue ∧ (s.countIssue r ix).catchup.engine = s.catchup.engine := by
  unfold State.countIssue State.markDirty
  split <;> exact ⟨rfl, rfl⟩

/-- What a count leaves as it stands. -/
theorem State.countIssue_rest :
    (s.countIssue r ix).views = s.views ∧ (s.countIssue r ix).park = s.park ∧ (s.countIssue r ix).host = s.host ∧
      (s.countIssue r ix).bus = s.bus ∧ (s.countIssue r ix).clock = s.clock ∧
      (s.countIssue r ix).strobes = s.strobes ∧ (s.countIssue r ix).notices = s.notices ∧
      (s.countIssue r ix).link = s.link ∧ (s.countIssue r ix).pending = s.pending := by
  unfold State.countIssue State.markDirty
  split <;> exact ⟨rfl, rfl, rfl, rfl, rfl, rfl, rfl, rfl, rfl⟩

end

/-! ### The WORD trigger where a draft in OPEN is neither EMPTY nor complete (R29, R30, R108) -/

section
variable {s u : State} {r : RegionIx} {commit : Bool}

/-- Such a trigger changes regions and notices alone. -/
theorem State.wordTrigger_eq (he : s.phase r = .opened → ¬s.DraftEmpty r)
    (hc : s.phase r = .opened → ¬s.DraftComplete r) :
    ∃ x n, s.wordTrigger r commit = { s with regions := x, notices := n } := by
  unfold State.wordTrigger
  split
  · cases hw : (s.phase r).working
    · rw [State.deliver_of_not_working hw]
      exact ⟨_, _, rfl⟩
    · obtain hp | hp := Phase.working_iff.mp hw
      · rw [State.deliver_waits_incomplete hp (he hp) (hc hp)]
        exact ⟨_, _, rfl⟩
      · cases hf : (s.run r).followOn
        · rw [State.deliver_follows hp hf]
          exact ⟨_, _, rfl⟩
        · rw [State.deliver_merged hp hf]
          exact ⟨_, _, rfl⟩
  · exact ⟨_, _, rfl⟩

/-- The trigger taken on a state that differs from `s` in the region's record. -/
theorem State.triggerTaken {base : Runtime} {trig : Prop} (hregions : u.regions = (s.modRun r fun _ => base).regions)
    (hnotices : u.notices = s.notices) (hclock : u.clock = s.clock) (hphase : base.phase = s.phase r)
    (hframe : base.frame = (s.run r).frame) (hfollow : base.followOn = (s.run r).followOn)
    (hwork : s.phase r = .opened ∨ s.phase r = .pending)
    (he : s.phase r = .opened → ¬u.DraftEmpty r) (hc : s.phase r = .opened → ¬u.DraftComplete r)
    (htrig : trig ↔ commit = true ∧ (s.config r).trigWord = true) :
    s.TriggerTaken (u.wordTrigger r commit) r base trig := by
  have hregion : u.region r = { s.region r with run := base } := by
    rw [State.region_congr hregions, State.modRun, State.region_modRegion_self]
  have hrun : u.run r = base := congrArg Region.run hregion
  have hconfig : u.config r = s.config r := (congrArg Region.config hregion :)
  have hother (j : RegionIx) (hj : j ≠ r) : u.region j = s.region j := by
    rw [State.region_congr hregions, State.modRun, State.region_modRegion_ne s hj]
  have hotherMod (f : Region → Region) (j : RegionIx) (hj : j ≠ r) : (u.modRegion r f).region j = s.region j := by
    rw [State.region_modRegion_ne u hj, hother j hj]
  have hphase' : u.phase r = s.phase r := (congrArg Runtime.phase hrun).trans hphase
  have hfollow' : (u.run r).followOn = (s.run r).followOn := by rw [hrun, hfollow]
  by_cases ht : trig
  · have hcond : (commit && (u.config r).trigWord) = true := by rw [hconfig, Bool.and_eq_true]; exact htrig.mp ht
    rw [State.wordTrigger, if_pos hcond]
    refine ⟨?_, fun h => absurd ht h, fun _ hp => ?_, fun _ hp hf => ?_, fun _ hp hf => ?_⟩
    · intro j hj
      rcases hwork with hp | hp
      · rw [State.deliver_waits_incomplete (hphase'.trans hp) (he hp) (hc hp)]
        exact hotherMod _ j hj
      · cases hf : (s.run r).followOn
        · rw [State.deliver_follows (hphase'.trans hp) (hfollow'.trans hf)]
          exact hotherMod _ j hj
        · rw [State.deliver_merged (hphase'.trans hp) (hfollow'.trans hf)]
          exact (State.region_setNotices ..).trans (hotherMod _ j hj)
    · rw [State.deliver_waits_incomplete (hphase'.trans hp) (he hp) (hc hp), State.region_modRegion_self, hregion]
      exact ⟨rfl, hnotices⟩
    · rw [State.deliver_follows (hphase'.trans hp) (hfollow'.trans hf), State.region_modRegion_self, hregion]
      exact ⟨rfl, hnotices⟩
    · have hnotice : u.noticeOf r .merged none Source.word.code = s.noticeOf r .merged none 0 := by
        rw [State.noticeOf, hrun, hframe, hclock]
        rfl
      rw [State.deliver_merged (hphase'.trans hp) (hfollow'.trans hf), State.region_setNotices, State.modCounters,
        State.region_modRegion_self, hregion, hnotice, hnotices, hconfig]
      exact ⟨rfl, rfl⟩
  · have hcond : ¬(commit && (u.config r).trigWord) = true := by
      rw [hconfig, Bool.and_eq_true]
      exact mt htrig.mpr ht
    rw [State.wordTrigger, if_neg hcond]
    exact ⟨hother, fun _ => ⟨hregion, hnotices⟩, fun h => absurd h ht, fun h => absurd h ht, fun h => absurd h ht⟩

end

/-! ### The head's write issued (R83) -/

theorem RegionConfig.commits_iff {c : RegionConfig} {q : HostRequest} {commit : Bool}
    (h : commit = true ↔ c.hits q c.commit) : c.commits q ↔ commit = true ∧ c.trigWord = true := by
  rw [RegionConfig.commits, h]
  exact and_comm

/-- The head's write issued is as R83 has it. -/
theorem State.issuedIn_issueHost {s : State} {q : HostRequest} {rest : List HostRequest} {d : Decision} {p : Progress}
    {r : RegionIx} (hqueue : s.host.queue = q :: rest) (hhead : s.host.head = some ⟨p, some d⟩)
    (hcls : d.cls = .writerWrite) (hreg : d.region = some r) (hview : d.view = none)
    (hcommit : d.commit = true ↔ (s.config r).hits q (s.config r).commit) (hsound : (s.config r).AreasSound)
    (hline : (s.config r).lineHit q < 2048) (hwork : s.phase r = .opened ∨ s.phase r = .pending) :
    s.IssuedIn (s.issueHost r) r q rest := by
  have hreq : s.headRequest = some q := by rw [State.headRequest, hqueue]; rfl
  have hdec : s.decision = some d := by rw [State.decision, hhead]; rfl
  let b := (s.run r).draftBank
  let addr := (s.config r).physical b q
  have haddr : addr = (s.config r).bankAddr b q := RegionConfig.physical_eq_bankAddr hsound b
  let s₁ : State := (s.setHead (some ⟨.waitMemory, some (d.issued b addr)⟩)).requestHost ⟨accessOf q addr, .draftWrite r⟩
  let ix := (s.config r).lineHit q
  have hissue : s.issueHost r = (s₁.countIssue r ix).wordTrigger r d.commit := by
    rw [State.issueHost, hreq, hdec]
    simp only [RegionConfig.lineOf_eq_lineHit]
    rfl
  have hflight : ((s₁.countIssue r ix).run r).inFlight ≠ 0 := by
    rw [State.run_countIssue_self]
    exact Nat.succ_ne_zero _
  have he : ¬(s₁.countIssue r ix).DraftEmpty r := fun h => hflight h.2.1
  have hc : ¬(s₁.countIssue r ix).DraftComplete r := fun h => hflight h.2.1
  obtain ⟨hviews, hpark, hhost, hbus, hclock, hstrobes, hnotices, hlink, hpending⟩ := s₁.countIssue_rest r ix
  obtain ⟨hq, hengine⟩ := s₁.catchup_countIssue r ix
  have hlines := s₁.line_countIssue r ix hline
  have htaken : s.TriggerTaken ((s₁.countIssue r ix).wordTrigger r d.commit) r ((s.run r).issued (s.line ix).dirty)
      ((s.config r).commits q) := by
    refine State.triggerTaken (s₁.regions_countIssue r ix) hnotices hclock rfl rfl rfl hwork (fun _ => he) (fun _ => hc)
      (RegionConfig.commits_iff hcommit)
  obtain ⟨x, n, hword⟩ := State.wordTrigger_eq (commit := d.commit) (fun _ => he) (fun _ => hc)
  rw [hissue]
  have hfields : (s₁.countIssue r ix).wordTrigger r d.commit =
      { s₁.countIssue r ix with regions := x, notices := n } := hword
  refine ⟨⟨d.issued b addr, hcls, hreg, rfl, haddr, hview, ?_⟩, ?_, ?_, fun j hj => ?_, ?_, ?_, htaken, ?_, ?_, ?_, ?_, ?_,
    ?_⟩
  · rw [hfields]
    refine hhost.trans ?_
    rw [State.hostWith, ← hqueue]
    rfl
  · rw [hfields, ← haddr]
    exact hbus
  · rw [hfields]
    exact (hlines ix).trans (if_pos rfl)
  · rw [hfields]
    exact (hlines j).trans (if_neg hj)
  · rw [hfields]
    exact hq
  · rw [hfields]
    exact hengine
  · rw [hfields]
    exact hviews
  · rw [hfields]
    exact hpark
  · rw [hfields]
    exact hclock
  · rw [hfields]
    exact hstrobes
  · rw [hfields]
    exact hlink
  · rw [hfields]
    exact hpending

end Sys2Proof.Machine


/-! SUPPORT. Writer writes that reach the draft write path, and the write that waited for its line (R69, R81 to R83). -/

namespace Sys2Proof.Machine

set_option Elab.async false

/-! ### Lines of active regions -/

theorem State.regionOfLine_eq_some {s : State} {r : RegionIx} {ix : Nat} (hareas : s.AreasLaw)
    (hactive : (s.phase r).active = true) (howns : (s.config r).ownsLine ix = true) : s.regionOfLine ix = some r := by
  cases hfound : s.regionOfLine ix with
  | none => simpa [hactive, howns] using List.find?_eq_none.mp hfound r (mem_regionIxs r)
  | some j =>
    have hj := List.find?_some hfound
    rw [Bool.and_eq_true] at hj
    obtain ⟨hjactive, hjowns⟩ := hj
    by_contra hne
    have hlines := (configsOverlap_eq_false_iff.mp (hareas.2 r j (fun h => hne (h ▸ rfl)) hactive hjactive)).2
    simp only [overlaps, RegionConfig.ownsLine, Bool.and_eq_true, Bool.and_eq_false_iff, decide_eq_true_eq,
      decide_eq_false_iff_not] at *
    omega

/-- The line of a window request is one of its region's (R5). -/
theorem State.inWindow.ownsLine {s : State} {q : HostRequest} {r : RegionIx} (h : s.inWindow q r) :
    (s.config r).ownsLine ((s.config r).lineHit q) = true := by
  obtain ⟨-, hlow, hhigh⟩ := h
  simp only [RegionConfig.ownsLine, RegionConfig.lineHit, RegionConfig.firstWord, Bool.and_eq_true]
  refine ⟨decide_eq_true (Nat.le_add_right _ _), decide_eq_true (Nat.add_lt_add_left ?_ _)⟩
  omega

theorem State.inWindow.line_lt {s : State} {q : HostRequest} {r : RegionIx} (h : s.inWindow q r)
    (hsound : (s.config r).AreasSound) : (s.config r).lineHit q < 2048 := by
  have howns := h.ownsLine
  have hlines := hsound.2.2
  simp only [RegionConfig.ownsLine, Bool.and_eq_true, decide_eq_true_eq] at howns
  omega

theorem State.engineTake_of_busy {s : State} (h : s.catchup.engine ≠ .idle) : s.engineTake = s := by
  unfold State.engineTake
  split
  · next he _ => exact absurd he h
  · rfl

theorem promoteIn_split {before after : List CatchEntry} {e : CatchEntry} {ix : Nat} (he : e.line = ix)
    (hbefore : ∀ x ∈ before, x.line ≠ ix) : promoteIn (before ++ e :: after) ix = e :: (before ++ after) := by
  have hfind : (before ++ e :: after).find? (·.line == ix) = some e := by
    rw [List.find?_append, List.find?_eq_none.mpr (by simpa using hbefore)]
    simp [he]
  have herase : (before ++ e :: after).eraseP (·.line == ix) = before ++ after := by
    rw [List.eraseP_append_right _ (by simpa using hbefore)]
    simp [he]
  rw [promoteIn, hfind]
  exact congrArg (e :: ·) herase

/-! ### The draft write path (R81) -/

section
variable {c : Instr} {s : State} {q : HostRequest} {rest : List HostRequest} {r : RegionIx}

/-- A new writer write with its class recorded. -/
def State.withWriterWrite (s : State) (q : HostRequest) (rest : List HostRequest) (r : RegionIx) : State :=
  (s.withNewHead q rest).setHead
    (some ⟨.decide, some ((s.withNewHead q rest).matchedDecision r q .writerWrite)⟩)

theorem Decides.exec_writerWrite (h : Decides c s q rest) (hwindow : s.inWindow q r)
    (hwork : s.phase r = .opened ∨ s.phase r = .pending) (hkind : q.kind = .write)
    (htag : q.tag = (s.config r).writerTag) (hstamp : ¬(s.config r).hits q (s.config r).stamp) :
    Machine.exec c s =
      .next
        (if s.phase r == .pending || s.draftEntries r != 0 then
            (s.withWriterWrite q rest r).parkWrite r s.clock.timing.holdWait
          else (s.withWriterWrite q rest r).draftWrite r q).grantNext := by
  rw [h.exec_window hwindow (RegionConfig.windowClass_writerWrite hwork hkind htag hstamp)]
  rfl

theorem State.matchedDecision_line (hwindow : s.inWindow q r) (cls : HostClass) :
    (s.matchedDecision r q cls).line = some ((s.config r).lineHit q) := by
  rw [← RegionConfig.lineOf_eq_lineHit]
  exact if_pos hwindow.inBankA

theorem State.matchedDecision_commit (hwindow : s.inWindow q r) (cls : HostClass) :
    (s.matchedDecision r q cls).commit = true ↔ (s.config r).hits q (s.config r).commit := by
  rw [← RegionConfig.includesOpt_iff_hits, State.matchedDecision]
  simp [hwindow.inBankA]

/-- Settles O38: the line is current and the write is issued, or it is stale and the head waits. -/
theorem draftWriteTaken : Obligations.DraftWriteTaken := by
  intro c s q rest r hdecides hwindow hopened hkind htag hstamp hnone ix
  have hsound := hdecides.areasSound hwindow
  have hwork : s.phase r = .opened ∨ s.phase r = .pending := .inl hopened
  have hpath : (s.phase r == .pending || s.draftEntries r != 0) = false := by
    rw [hopened, State.draftEntries_eq_zero_iff.mpr hnone]
    rfl
  have hexec := hdecides.exec_writerWrite hwindow hwork hkind htag hstamp
  rw [hpath] at hexec
  have hstale : (s.withWriterWrite q rest r).draftStale r (((s.withWriterWrite q rest r).config r).lineOf q) =
      (s.line ix).stale.get (s.run r).draftBank := by
    rw [RegionConfig.lineOf_eq_lineHit]
    rfl
  refine ⟨fun hcurrent => ?_, fun hwaits => ?_⟩
  · refine ⟨(s.withWriterWrite q rest r).issueHost r, .of_exec (hexec.trans ?_), ?_⟩
    · rw [State.draftWrite, hstale, hcurrent]
      rfl
    · exact State.issuedIn_issueHost (s := s.withWriterWrite q rest r) rfl rfl rfl rfl rfl
        (State.matchedDecision_commit (s := s.withNewHead q rest) hwindow _) hsound (hwindow.line_lt hsound) hwork
  · have hwait : (s.withWriterWrite q rest r).draftWrite r q =
        if (s.line ix).queued then ((s.withWriterWrite q rest r).setProgress .waitLine).promote ix
        else (s.withWriterWrite q rest r).setProgress .waitLine := by
      rw [State.draftWrite, hstale, hwaits, RegionConfig.lineOf_eq_lineHit]
      rfl
    rw [if_neg Bool.false_ne_true, hwait] at hexec
    refine ⟨(s.withNewHead q rest).matchedDecision r q .writerWrite, rfl, rfl,
      State.matchedDecision_line (s := s.withNewHead q rest) hwindow _, fun hq => .of_exec (hexec.trans ?_),
      fun hq hbusy before after e hsplit he hbefore => .of_exec (hexec.trans ?_)⟩
    · rw [hq]
      rfl
    · rw [if_pos hq, State.promote, State.engineTake_of_busy (by exact hbusy)]
      have hqueue : ((s.withWriterWrite q rest r).setProgress .waitLine).catchup.queue = before ++ e :: after := hsplit
      rw [hqueue, promoteIn_split he hbefore]
      rfl

/-! ### The write that waited for its line (R82, R83) -/

/-- A trigger taken leaves the write counted. -/
theorem State.TriggerTaken.inFlight {u : State} {base : Runtime} {trig : Prop} (h : s.TriggerTaken u r base trig)
    (hwork : s.phase r = .opened ∨ s.phase r = .pending) : (u.run r).inFlight = base.inFlight := by
  obtain ⟨-, hno, hopened, hfollows, hmerged⟩ := h
  by_cases ht : trig
  · rcases hwork with hp | hp
    · rw [State.run, (hopened ht hp).1]
    · cases hf : (s.region r).run.followOn
      · rw [State.run, (hfollows ht hp hf).1]
      · rw [State.run, (hmerged ht hp hf).1]
  · rw [State.run, (hno ht).1]

/-- A write just issued counts, so the draft is not complete. -/
theorem State.IssuedIn.not_draftComplete {u : State} (h : s.IssuedIn u r q rest)
    (hwork : s.phase r = .opened ∨ s.phase r = .pending) : ¬u.DraftComplete r := by
  obtain ⟨-, -, -, -, -, -, htaken, -⟩ := h
  intro hc
  have hflight := (htaken.inFlight hwork).symm.trans hc.2.1
  exact Nat.succ_ne_zero _ hflight

theorem State.headWaitsForLine_of_ne {ix : Nat} (h : s.progress ≠ some .waitLine) : s.headWaitsForLine ix = false := by
  unfold State.headWaitsForLine
  split
  · next hh => exact absurd (by rw [State.progress, hh]; rfl) h
  · rfl

theorem State.drainWaitsForLine_of_ne {ix : Nat} (h : ∀ k retried, s.park.slot = .waiting k retried → k.region ≠ r) :
    s.drainWaitsForLine r ix = false := by
  unfold State.drainWaitsForLine
  split
  · next k x hslot => rw [beq_eq_false_iff_ne.mpr (h k x hslot), Bool.false_and]
  · rfl

/-- Settles O43: the write is issued and counted, and condition (b) then fails. -/
theorem lineReleased : Obligations.LineReleased := by
  refine ⟨?_, fun s line hline hwait hslot => ?_, fun s line hline => if_neg (not_lt.mpr hline)⟩
  · intro s q rest d r hareas hwindow hwork hqueue hhead hcls hreg hview hline hcommit hcurrent hslot
    have hsound := hareas.1 r hwindow.1
    have hissued := State.issuedIn_issueHost hqueue hhead hcls hreg hview hcommit hsound (hwindow.line_lt hsound) hwork
    have hhere : s.headWaitsForLine ((s.config r).lineHit q) = true := by
      rw [State.headWaitsForLine, hhead]
      simp [hline]
    have hpark : (s.issueHost r).park = s.park := hissued.2.2.2.2.2.2.2.2.1
    have hdrain : (s.issueHost r).drainWaitsForLine r ((s.config r).lineHit q) = false :=
      State.drainWaitsForLine_of_ne (by rwa [hpark])
    have hrelease : s.lineCurrent r ((s.config r).lineHit q) = s.issueHost r := by
      rw [State.lineCurrent, State.releaseWrites, hhere, if_pos rfl]
      simp only [hdrain, Bool.false_eq_true, if_false]
      exact State.evaluate_of_incomplete fun _ => hissued.not_draftComplete hwork
    refine ⟨s.issueHost r, .of_exec ?_, hissued⟩
    have hready : ((s.phase r).working && !s.draftStale r ((s.config r).lineHit q) &&
        (s.headWaitsForLine ((s.config r).lineHit q) || s.drainWaitsForLine r ((s.config r).lineHit q))) = true := by
      rw [hhere, Phase.working_iff.mpr hwork, State.draftStale, hcurrent]
      rfl
    show execLineCurrentRelease ((s.config r).lineHit q) s = _
    rw [execLineCurrentRelease, if_pos (show _ < Config.lineEntries from hwindow.line_lt hsound), State.regionOfLine_eq_some hareas hwindow.1 hwindow.ownsLine]
    simp only [hready, if_true, hrelease]
  · show execLineCurrentRelease line s = _
    rw [execLineCurrentRelease, if_pos (show _ < Config.lineEntries from hline)]
    split
    · next r _ =>
      rw [State.headWaitsForLine_of_ne hwait, State.drainWaitsForLine_of_ne fun k x h => absurd h (hslot k x),
        Bool.or_false, Bool.and_false]
      rfl
    · rfl

end

end Sys2Proof.Machine


/-! SUPPORT. The beats of a write placed in the Park Queue, and the parked write as R91 and R92 have it. -/

namespace Sys2Proof.Machine

set_option Elab.async false

/-! ### Byte lanes (R91) -/

theorem getLsbD_laneMask : ∀ strobes : BitVec 4, ∀ lane < 4, ∀ i < 8,
    (laneMask strobes).getLsbD (8 * lane + i) = strobes.getLsbD lane := by
  decide

/-- A lane of a merged word is that of the new word where its strobe is set, and of the old word elsewhere. -/
theorem laneOf_mergeLanes (old new : Word) (strobes : BitVec 4) {lane : Nat} (hlane : lane < 4) :
    laneOf (mergeLanes old new strobes) lane =
      if strobes.getLsbD lane then laneOf new lane else laneOf old lane := by
  refine BitVec.eq_of_getLsbD_eq fun i hi => ?_
  have hbit : 8 * lane + i < 32 := by omega
  simp only [laneOf, mergeLanes, BitVec.getLsbD_extractLsb', hi, decide_true, Bool.true_and, BitVec.getLsbD_or,
    BitVec.getLsbD_and, BitVec.getLsbD_not, hbit, getLsbD_laneMask strobes lane hlane i hi]
  cases strobes.getLsbD lane <;> simp [hi]

/-! ### Parked entries by word and frame tag (R88) -/

section
variable {s : State} {q : HostRequest} {r : RegionIx} {tag : Word}

theorem State.entryAt_eq_parked (s : State) (r : RegionIx) (word : Nat) (tag : Word) :
    s.entryAt r word tag = s.parked ⟨r, word, tag⟩ := by
  unfold State.entryAt State.parked
  congr 1
  funext e
  rw [Bool.eq_iff_iff]
  simp [ParkEntry.key, and_assoc]

theorem RegionConfig.beatWord_eq (c : RegionConfig) (q : HostRequest) (b : Nat) :
    c.beatWord q b = c.firstWord q + b := rfl

/-- The phase gives the frame tag under which a write parks (R90). -/
theorem State.parkTag_eq
    (h : s.phase r = .pending ∧ tag = (s.run r).frame + 2 ∨ s.phase r = .opened ∧ tag = (s.run r).frame + 1) :
    s.parkTag r = tag := by
  rcases h with ⟨hp, rfl⟩ | ⟨hp, rfl⟩ <;> rw [State.parkTag, hp] <;> rfl

theorem State.newEntries_eq_entriesNeeded (s : State) (r : RegionIx) (q : HostRequest) :
    s.newEntries r q = s.entriesNeeded r q (s.parkTag r) := by
  simp only [State.newEntries, State.entriesNeeded, State.entryAt_eq_parked, RegionConfig.beatWord_eq]

/-- The state with the beats of a write placed under a frame tag. -/
def State.placed (s : State) (r : RegionIx) (q : HostRequest) (tag : Word) : State :=
  s.placeBeats r tag ((s.config r).beatWord q 0) q.data

theorem State.placed_eq (s : State) (r : RegionIx) (q : HostRequest) (tag : Word) :
    s.placed r q tag = s.setPark (s.placed r q tag).park := s.placeBeats_eq ..

theorem HostRequest.length_data (hwf : q.wf = true) (hkind : q.kind = .write) : q.data.length = q.beats ∧ 1 ≤ q.beats := by
  simp [HostRequest.wf, hkind] at hwf
  omega

/-- The placed beats are as R91 has them. -/
theorem State.placedIn_placed (hdata : q.data.length = q.beats) :
    s.PlacedIn (s.placed r q tag) r q tag := by
  have hkeys := s.keys_placeBeats r tag ((s.config r).beatWord q 0) q.data
  have hword : (s.config r).beatWord q 0 = (s.config r).firstWord q := RegionConfig.beatWord_eq _ q 0
  refine ⟨s.slot_placeBeats .., ?_, fun i hi => ?_, fun b beat hbeat => ?_, fun j word t hne => ?_⟩
  · rw [State.placed, State.length_placeBeats, hdata, State.keysMissing, List.range'_eq_map_range, List.map_map,
      ← List.countP_eq_length_filter, List.countP_map, State.entriesNeeded]
    simp only [State.entryAt_eq_parked, hword]
    rfl
  · rw [← List.getElem?_map, ← List.getElem?_map]
    refine (congrArg (·[i]?) hkeys).trans (List.getElem?_append_left ?_)
    simpa using hi
  · have hparked := s.parked_placeBeats (r := r) (tag := tag) (w := (s.config r).firstWord q) hbeat
    rw [State.entryAt_eq_parked, State.entryAt_eq_parked, State.placed, hword]
    refine ⟨_, hparked, ?_, ?_, ?_⟩
    · intro lane hlane hstrobe
      unfold State.beatEntry
      split <;> simp [ParkEntry.merge, ParkEntry.ofBeat, laneOf_mergeLanes, hlane, hstrobe]
    · intro hnone
      rw [State.beatEntry, hnone]
      exact ⟨rfl, rfl⟩
    · intro old hold
      rw [State.beatEntry, hold]
      refine ⟨rfl, fun lane hlane hstrobe => ?_, ?_⟩
      · exact (laneOf_mergeLanes _ _ _ hlane).trans (if_neg (by rw [hstrobe]; exact Bool.false_ne_true))
      · have hkey : old.key = ⟨r, (s.config r).firstWord q + b, tag⟩ := by
          simpa [State.parked] using List.find?_some hold
        show (old.changed || _) = true ↔ _
        rw [hkey, Bool.or_eq_true]
        refine or_congr_right ?_
        unfold DrainSlot.isWriting
        split
        · next k retried hslot => simp [hslot]
        · next hslot => simpa using fun x h => hslot _ x h
  · rw [State.entryAt_eq_parked, State.entryAt_eq_parked, State.placed, hword]
    refine State.parked_placeBeats_of_ne s ?_
    rwa [hdata]

end

end Sys2Proof.Machine


/-! SUPPORT. Writes that park: placed, waiting for space, or expired (R90 to R94). -/

namespace Sys2Proof.Machine

set_option Elab.async false

section
variable {s u : State} {q : HostRequest} {rest : List HostRequest} {r : RegionIx} {tag : Word}

/-- A trigger taken by a region that works leaves every region's frame, roles and configuration, and no region begins
to work. -/
theorem State.TriggerTaken.steady {base : Runtime} {trig : Prop} (h : s.TriggerTaken u r base trig)
    (hwork : s.phase r = .opened ∨ s.phase r = .pending) (hframe : base.frame = (s.run r).frame)
    (hroles : base.roles = (s.run r).roles) (j : RegionIx) :
    ((u.phase j).working = true → (s.phase j).working = true) ∧ (u.run j).frame = (s.run j).frame ∧
      (u.run j).roles = (s.run j).roles ∧ u.config j = s.config j := by
  obtain ⟨hother, hno, hopened, hfollows, hmerged⟩ := h
  by_cases hj : j = r
  · subst hj
    refine ⟨fun _ => Phase.working_iff.mpr hwork, ?_⟩
    rw [State.run, State.config, ← hframe, ← hroles]
    by_cases ht : trig
    · rcases hwork with hp | hp
      · rw [(hopened ht hp).1]
        exact ⟨rfl, rfl, rfl⟩
      · cases hf : (s.region j).run.followOn
        · rw [(hfollows ht hp hf).1]
          exact ⟨rfl, rfl, rfl⟩
        · rw [(hmerged ht hp hf).1]
          exact ⟨rfl, rfl, rfl⟩
    · rw [(hno ht).1]
      exact ⟨rfl, rfl, rfl⟩
  · rw [State.phase, State.phase, State.run, State.run, State.config, hother j hj]
    exact ⟨id, rfl, rfl, rfl⟩

/-- Whether an entry is eligible follows from its region and its tag (R88). -/
theorem State.eligible_congr {e e' : ParkEntry} (h : e.key = e'.key) : s.eligible e = s.eligible e' := by
  obtain ⟨hregion, -, htag⟩ := ParkKey.mk.injEq .. ▸ h
  rw [State.eligible, State.eligible, hregion, htag]

/-- Beats placed under F + 2, or with the slot at work, leave the slot no work. -/
theorem State.drainSettled_placed (h : s.DrainSettled)
    (hslot : s.park.slot = .idle → tag = (s.run r).frame + 2) : (s.placed r q tag).DrainSettled := by
  have hkeys := s.keys_placeBeats r tag ((s.config r).beatWord q 0) q.data
  have hstays : (s.placed r q tag).park.slot = s.park.slot := s.slot_placeBeats ..
  refine ⟨fun hidle e he => ?_, fun k retried hwaits => ?_⟩
  · rw [hstays] at hidle
    have hkey : e.key ∈ s.park.entries.map ParkEntry.key ++ s.keysMissing r tag ((s.config r).beatWord q 0) q.data.length :=
      hkeys ▸ List.mem_map_of_mem he
    have heligible : (s.placed r q tag).eligible e = s.eligible e := by
      rw [State.placed_eq]
      rfl
    rw [heligible]
    rcases List.mem_append.mp hkey with hold | hnew
    · obtain ⟨e', he', hsame⟩ := List.mem_map.mp hold
      rw [State.eligible_congr hsame.symm]
      exact h.1 hidle e' he'
    · obtain ⟨word, -, hsame⟩ := List.mem_map.mp (List.mem_filter.mp hnew).1
      obtain ⟨rfl, -, rfl⟩ := ParkKey.mk.injEq .. ▸ hsame
      have htag : e.frameTag ≠ (s.run e.region).frame + 1 := by
        rw [hslot hidle]
        intro heq
        exact absurd ((BitVec.add_right_inj _).mp heq) (by decide)
      rw [State.eligible, Runtime.draftFrame, beq_eq_false_iff_ne.mpr htag, Bool.and_false]
  · rw [hstays] at hwaits
    have hstale := h.2 k retried hwaits
    rw [State.placed_eq]
    exact hstale

theorem State.regions_modRun_run (s : State) (r : RegionIx) : (s.modRun r fun _ => s.run r).regions = s.regions :=
  Vector.set_getElem_self ..

/-- The head's write placed is as R91 and R92 have it. -/
theorem State.parkedIn_placeWrite {d : Decision} {p : Progress} (hqueue : s.host.queue = q :: rest)
    (hhead : s.host.head = some ⟨p, some d⟩) (hcls : d.cls = .writerWrite) (hreg : d.region = some r)
    (hview : d.view = none) (hcommit : d.commit = true ↔ (s.config r).hits q (s.config r).commit)
    (hwf : q.wf = true) (hkind : q.kind = .write) (hw : s.link.waiting = none)
    (hsettled : s.DrainSettled)
    (htag : s.phase r = .pending ∧ tag = (s.run r).frame + 2 ∨
      s.phase r = .opened ∧ tag = (s.run r).frame + 1 ∧ s.park.slot ≠ .idle) :
    s.ParkedIn (s.placeWrite r q d.commit) r q rest tag := by
  have hwork : s.phase r = .opened ∨ s.phase r = .pending := htag.symm.imp And.left And.left
  have hparkTag : s.parkTag r = tag := State.parkTag_eq (htag.imp_right fun h => ⟨h.1, h.2.1⟩)
  obtain ⟨hlen, hpos⟩ := HostRequest.length_data hwf hkind
  have hplaced := State.placedIn_placed (s := s) (r := r) (tag := tag) hlen
  have hidle : s.park.slot = .idle → tag = (s.run r).frame + 2 :=
    fun hi => htag.elim And.right fun h => absurd hi h.2.2
  have hplacedSettled := State.drainSettled_placed (q := q) hsettled hidle
  let s₁ := (s.placed r q tag).setProgress (.respond (.okay []))
  have hs₁ : s₁ = (s.setPark (s.placed r q tag).park).setProgress (.respond (.okay [])) := by
    rw [← State.placed_eq]
  have hentry : s.phase r = .opened → ∃ e ∈ s₁.park.entries, e.region = r ∧ e.frameTag = (s₁.run r).frame + 1 := by
    intro hp
    obtain ⟨beat, hbeat⟩ : ∃ b, q.data[0]? = some b := ⟨_, List.getElem?_eq_getElem (by omega)⟩
    obtain ⟨-, -, -, hbeats, -⟩ := hplaced
    obtain ⟨e, he, -⟩ := hbeats 0 beat hbeat
    have hfound := List.find?_some he
    have hF : tag = (s.run r).frame + 1 := (htag.resolve_left fun h => by rw [hp] at h; cases h.1).2.1
    simp only [Bool.and_eq_true, beq_iff_eq] at hfound
    refine ⟨e, List.mem_of_find?_eq_some he, hfound.1.1, hfound.2.trans (hF.trans ?_)⟩
    rw [hs₁]
    rfl
  have he (hp : s.phase r = .opened) : ¬s₁.DraftEmpty r := fun h =>
    let ⟨e, hmem, hr, ht⟩ := hentry hp
    h.2.2 e hmem hr ht
  have hc (hp : s.phase r = .opened) : ¬s₁.DraftComplete r := fun h =>
    let ⟨e, hmem, hr, ht⟩ := hentry hp
    h.2.2 e hmem hr ht
  have hphase : s₁.phase r = s.phase r := by rw [hs₁]; rfl
  have htaken : s.TriggerTaken (s₁.wordTrigger r d.commit) r (s.run r) ((s.config r).commits q) := by
    refine State.triggerTaken ?_ ?_ ?_ rfl rfl rfl hwork he hc (RegionConfig.commits_iff hcommit)
    · rw [hs₁]
      exact (s.regions_modRun_run r).symm
    · rw [hs₁]; rfl
    · rw [hs₁]; rfl
  obtain ⟨x, n, hword⟩ := State.wordTrigger_eq (commit := d.commit) (hphase ▸ he) (hphase ▸ hc)
  have hgiven : (s.placed r q tag).giveResponse (.okay []) = s₁ := by
    refine State.giveResponse_of_settled ?_ ?_ hplacedSettled _
    · rw [State.placed_eq]
      intro x hx
      have hx' : s.decision = some x := hx
      rw [State.decision, hhead] at hx'
      obtain rfl := Option.some.inj hx'
      exact hview
    · rw [State.placed_eq]
      exact hw
  have hresult : s.placeWrite r q d.commit = s₁.wordTrigger r d.commit := by
    rw [State.placeWrite, hparkTag]
    show (((s.placed r q tag).giveResponse (.okay [])).wordTrigger r d.commit).drainNext = _
    rw [hgiven]
    refine State.drainNext_of_settled ?_
    have hsteady := htaken.steady hwork rfl rfl
    have hpark : (s₁.wordTrigger r d.commit).park = (s.placed r q tag).park := by rw [hword]; rfl
    have hlines : (s₁.wordTrigger r d.commit).catchup.lines = (s.placed r q tag).catchup.lines := by rw [hword]; rfl
    have hregions : (s.placed r q tag).regions = s.regions := by rw [State.placed_eq]; rfl
    refine hplacedSettled.mono hpark hlines (fun j => ?_) fun j => ?_
    · obtain ⟨hp, hf, hr, -⟩ := hsteady j
      rw [State.phase_congr hregions, State.run_congr hregions]
      exact ⟨hp, hf, hr⟩
    · rw [State.config_congr hregions]
      exact (hsteady j).2.2.2
  rw [hresult]
  refine ⟨⟨d, hcls, hreg, ?_⟩, ?_, htaken, ?_⟩
  · rw [hword, hs₁]
    show ({ s.host with head := s.host.head.map _ } : HostPort) = _
    rw [State.hostWith, ← hqueue, hhead]
    rfl
  · have hpark : (s₁.wordTrigger r d.commit).park = (s.placed r q tag).park := by rw [hword]; rfl
    simp only [State.PlacedIn, State.entryAt, hpark] at hplaced ⊢
    exact hplaced
  · rw [hword, hs₁]
    exact ⟨rfl, rfl, rfl, rfl, rfl, rfl, rfl⟩

end

end Sys2Proof.Machine


/-! SUPPORT. The parked write and the end of a wait for park space settled (R90 to R94). -/

namespace Sys2Proof.Machine

set_option Elab.async false

section
variable {s : State} {q : HostRequest} {rest : List HostRequest} {r : RegionIx} {tag : Word}

theorem State.parkWrite_eq {d : Decision} (hreq : s.headRequest = some q) (hdec : s.decision = some d) (timer : Nat) :
    s.parkWrite r timer =
      if s.newEntries r q ≤ s.emptyPlaces then s.placeWrite r q d.commit
      else if s.newEntries r q ≤ 8 then s.setProgress (.waitPark timer (s.newEntries r q))
      else (s.giveResponse (.failed .parkTimeout)).chargeParkTimeout r q.tag (s.newEntries r q) := by
  rw [State.parkWrite, hreq, hdec]
  rfl

/-- A head whose progress is set, written out. -/
theorem State.setProgress_eq {d : Option Decision} {p : Progress} (hqueue : s.host.queue = q :: rest)
    (hhead : s.host.head = some ⟨p, d⟩) {t : State} (hhost : t.host = s.host) (p' : Progress) :
    t.setProgress p' = { t with host := s.hostWith q rest ⟨p', d⟩ } := by
  simp only [State.setProgress, State.setHead, State.setHost, State.hostWith, hhost, hhead, ← hqueue]
  rfl

/-- The new entries find room (R92). -/
theorem State.le_emptyPlaces_iff {k : Nat} (h : s.park.Sound) : k ≤ s.emptyPlaces ↔ k + s.park.entries.length ≤ 8 := by
  have hlen := h.1
  simp only [State.emptyPlaces, Config.parkCapacity]
  omega

/-- A park timeout of a head that no view serves is answered and charged, and no more (R94). -/
theorem State.parkTimeout_eq (hview : s.NoViewServes) (hw : s.link.waiting = none) (h : s.DrainSettled) (k : Nat)
    (tag : Tag) :
    (s.giveResponse (.failed .parkTimeout)).chargeParkTimeout r tag k =
      ((s.modCounters r fun c => { c with parkTimeout := satInc c.parkTimeout }).setNotices
        (s.notices.raised (s.config r).noticeMask
          (s.noticeOf r .parkTimeout (some tag) (BitVec.ofNat 16 k)))).setProgress (.respond (.failed .parkTimeout)) := by
  rw [State.giveResponse_of_settled hview hw h, State.chargeParkTimeout_eq]
  rfl

/-- Settles O41: the write finds room, waits for it, or needs more than there is. -/
theorem writeParked : Obligations.WriteParked := by
  intro c s q rest r tag hdecides hwf hwindow hpark hkind htag hstamp hphase g k
  have ⟨_, hw, _, _, hsettled⟩ := hdecides
  have hwork : s.phase r = .opened ∨ s.phase r = .pending := hphase.symm.imp And.left And.left
  let s' := s.withWriterWrite q rest r
  have hpath : (s.phase r == .pending || s.draftEntries r != 0) = true := by
    rcases hphase with ⟨hp, -⟩ | ⟨-, rfl, e, he, hr, ht⟩
    · rw [hp]; rfl
    · rw [Bool.or_eq_true, bne_iff_ne]
      exact .inr fun hzero => State.draftEntries_eq_zero_iff.mp hzero e he hr ht
  have hexec : exec c s = .next (s'.parkWrite r s.clock.timing.holdWait).grantNext := by
    rw [hdecides.exec_writerWrite hwindow hwork hkind htag hstamp, hpath, if_pos rfl]
  have hneeded : s'.newEntries r q = k := by
    have hnew := State.newEntries_eq_entriesNeeded s' r q
    rwa [State.parkTag_eq (s := s') (tag := tag) (hphase.imp_right fun h => ⟨h.1, h.2.1⟩)] at hnew
  have hroom : k ≤ s'.emptyPlaces ↔ k + s.park.entries.length ≤ 8 := State.le_emptyPlaces_iff (s := s') hpark
  rw [State.parkWrite_eq (s := s') rfl rfl, hneeded] at hexec
  have hsettled' : s'.DrainSettled := hdecides.settled _ rfl rfl (fun _ => rfl) fun _ => rfl
  refine ⟨fun hfits => ?_, fun hfull hk => ?_, fun hk => ?_⟩
  · rw [if_pos (hroom.mpr hfits)] at hexec
    refine ⟨_, .of_exec hexec, ?_⟩
    exact State.parkedIn_placeWrite (s := s') rfl rfl rfl rfl rfl
      (State.matchedDecision_commit (s := s.withNewHead q rest) hwindow _) hwf hkind hw hsettled'
      (hphase.imp_right fun ⟨hp, ht, e, he, hr, hetag⟩ => ⟨hp, ht, fun hidle => by
        have hnot := hsettled.1 hidle e he
        rw [State.eligible, hr, hp, hetag, ht] at hnot
        simp [Phase.working, Runtime.draftFrame] at hnot⟩)
  · rw [if_neg (mt hroom.mp (by omega)), if_pos hk] at hexec
    exact ⟨_, rfl, rfl, .of_exec hexec⟩
  · rw [if_neg (mt hroom.mp (by omega)), if_neg (by omega),
      State.parkTimeout_eq (s := s') (by rintro x ⟨⟩; rfl) hw hsettled'] at hexec
    exact ⟨_, rfl, rfl, .of_exec hexec⟩

/-- Settles O42: the timer at 0, or the room that the new entries find, ends the wait. -/
theorem parkWaitEnds : Obligations.ParkWaitEnds := by
  refine ⟨?_, fun s hno => ⟨?_, ?_⟩⟩
  · intro s q rest d r timer k hhead hqueue hreg hview hw hsettled g
    have hreq : s.headRequest = some q := by rw [State.headRequest, hqueue]; rfl
    have hdec : s.decision = some d := by rw [State.decision, hhead]; rfl
    have hserves : s.NoViewServes := fun x hx => by
      rw [hdec] at hx
      exact Option.some.inj hx ▸ hview
    refine ⟨fun htimer => ?_, fun htimer => ?_, fun tag htag hpark => ?_⟩
    · subst htimer
      refine .of_exec ?_
      show execParkTimeout s = _
      simp only [execParkTimeout, hhead, hreq, hreg, State.parkTimeout_eq hserves hw hsettled]
      rw [State.setProgress_eq hqueue hhead]
      · rfl
      · rfl
    · show execParkTimeout s = _
      obtain ⟨n, rfl⟩ := Nat.exists_eq_succ_of_ne_zero htimer
      simp only [execParkTimeout, hhead, hreq]
    · have hfound : exec .parkSpaceFound s =
          if s.newEntries r q ≤ s.emptyPlaces then .next (s.parkWrite r timer).grantNext else .next s := by
        show execParkSpaceFound s = _
        simp only [execParkSpaceFound, hhead, hreq, hreg]
      have htag' : s.parkTag r = tag := State.parkTag_eq (htag.imp_right fun h => ⟨h.1, h.2.1⟩)
      have hneeded : s.newEntries r q = s.entriesNeeded r q tag := htag' ▸ s.newEntries_eq_entriesNeeded r q
      have hroom := State.le_emptyPlaces_iff (k := s.entriesNeeded r q tag) hpark
      rw [hneeded] at hfound
      refine ⟨fun hfull => hfound.trans (if_neg (mt hroom.mp (by omega))), fun hfits hwf hkind hwindow hcls hcommit => ?_⟩
      rw [State.parkWrite_eq hreq hdec, hneeded, if_pos (hroom.mpr hfits), if_pos (hroom.mpr hfits)] at hfound
      exact ⟨_, .of_exec hfound,
        State.parkedIn_placeWrite hqueue hhead hcls hreg hview hcommit hwf hkind hw hsettled htag⟩
  · show execParkTimeout s = _
    unfold execParkTimeout
    split
    · next hhead _ => exact absurd (by rw [State.progress, hhead]; rfl) (hno 0 _)
    · rfl
  · show execParkSpaceFound s = _
    unfold execParkSpaceFound
    split
    · next hhead _ => exact absurd (by rw [State.progress, hhead]; rfl) (hno _ _)
    · rfl

end

end Sys2Proof.Machine


/-! SUPPORT. What a decision asks of the memory bus for the head, and the isolation of its accesses (R9 to R11). -/

namespace Sys2Proof.Machine

set_option Elab.async false

/-! ### The HOST requester and the port -/

/-- What the head has asked of the memory bus, and the port. -/
def State.hostAsk (s : State) : Option HostAccess × Port := (s.bus.hostReq, s.bus.port)

section
variable (s : State) (r : RegionIx)

theorem State.hostAsk_congr {s t : State} (h : t.bus = s.bus) : t.hostAsk = s.hostAsk := by
  rw [State.hostAsk, State.hostAsk, h]

@[simp] theorem State.hostAsk_raiseNotice (k : NoticeKind) (t : Option Tag) (d : BitVec 16) :
    (s.raiseNotice r k t d).hostAsk = s.hostAsk := State.hostAsk_congr (by simp)

@[simp] theorem State.hostAsk_engineTake : s.engineTake.hostAsk = s.hostAsk := by
  unfold State.engineTake
  split
  · split <;> rfl
  · rfl

@[simp] theorem State.hostAsk_appendLines (k : CopyKind) (l : List Nat) : (s.appendLines k l).hostAsk = s.hostAsk :=
  State.hostAsk_engineTake _

@[simp] theorem State.hostAsk_promote (ix : Nat) : (s.promote ix).hostAsk = s.hostAsk := State.hostAsk_engineTake _

@[simp] theorem State.hostAsk_countIssue (ix : Nat) : (s.countIssue r ix).hostAsk = s.hostAsk := by
  obtain ⟨-, -, -, hbus, -⟩ := s.countIssue_rest r ix
  exact State.hostAsk_congr hbus

@[simp] theorem State.hostAsk_issueDrain (k : ParkKey) (x : Bool) : (s.issueDrain k x).hostAsk = s.hostAsk := by
  unfold State.issueDrain
  split
  · rfl
  · exact State.hostAsk_countIssue ..

@[simp] theorem State.hostAsk_drainTry (k : ParkKey) (x : Bool) : (s.drainTry k x).hostAsk = s.hostAsk := by
  unfold State.drainTry
  dsimp only
  split
  · exact State.hostAsk_issueDrain ..
  · split
    · exact State.hostAsk_promote ..
    · rfl

@[simp] theorem State.hostAsk_drainNext : s.drainNext.hostAsk = s.hostAsk := by
  unfold State.drainNext
  split
  · split
    · rfl
    · split
      · rfl
      · exact State.hostAsk_drainTry ..
  · rfl

@[simp] theorem State.hostAsk_drainRelease : s.drainRelease.hostAsk = s.hostAsk := by
  unfold State.drainRelease
  split
  · split
    · exact State.hostAsk_issueDrain ..
    · rfl
  · rfl

@[simp] theorem State.hostAsk_publishCore : (s.publishCore r).hostAsk = s.hostAsk := by
  unfold State.publishCore
  rw [State.hostAsk_raiseNotice, State.hostAsk_appendLines]
  rfl

@[simp] theorem State.hostAsk_noteHeld : (s.noteHeld r).hostAsk = s.hostAsk := by
  unfold State.noteHeld
  split
  · rfl
  · exact State.hostAsk_congr (by simp)

@[simp] theorem State.hostAsk_waitNoted : (s.waitNoted r).hostAsk = s.hostAsk := by
  unfold State.waitNoted
  split
  · exact s.hostAsk_noteHeld r
  · rfl

@[simp] theorem State.hostAsk_followOn : (s.followOn r).hostAsk = s.hostAsk := by
  unfold State.followOn
  split
  · dsimp only
    split
    · exact State.hostAsk_congr (by simp)
    · split
      · exact State.hostAsk_publishCore ..
      · exact State.hostAsk_waitNoted ..
  · rfl

@[simp] theorem State.hostAsk_publish : (s.publish r).hostAsk = s.hostAsk := by
  rw [State.publish, State.hostAsk_drainNext, State.hostAsk_followOn, State.hostAsk_publishCore]

@[simp] theorem State.hostAsk_evaluate : (s.evaluate r).hostAsk = s.hostAsk := by
  unfold State.evaluate
  split
  · split
    · exact s.hostAsk_publish r
    · exact s.hostAsk_waitNoted r
  · rfl

@[simp] theorem State.hostAsk_takeTrigger (x : Source) : (s.takeTrigger r x).hostAsk = s.hostAsk := by
  unfold State.takeTrigger
  split
  · split
    · exact State.hostAsk_congr (by simp)
    · exact State.hostAsk_evaluate ..
  · split
    · exact State.hostAsk_congr (by simp)
    · rfl
  · rfl

@[simp] theorem State.hostAsk_deliver (x : Source) : (s.deliver r x).hostAsk = s.hostAsk := by
  unfold State.deliver
  split
  · exact State.hostAsk_takeTrigger ..
  · rfl

@[simp] theorem State.hostAsk_wordTrigger (commit : Bool) : (s.wordTrigger r commit).hostAsk = s.hostAsk := by
  unfold State.wordTrigger
  split
  · exact s.hostAsk_deliver r _
  · rfl

end

/-! ### What a decision asks (R10 to R14, R144) -/

section
variable {s : State} {q : HostRequest}

theorem State.hostAsk_giveResponse (hview : s.NoViewServes) (hw : s.link.waiting = none) (x : HostResponse) :
    (s.giveResponse x).hostAsk = s.hostAsk := by
  rw [State.giveResponse_eq hview hw, State.hostAsk_drainRelease]
  rfl

/-- The access of a request that a decision makes: at its own address where no active region holds it, or, by a
region whose window holds it, in one of the region's banks, a WRITE by the region's writer alone (R10 to R14). -/
def State.Admits (s : State) (q : HostRequest) (a : Access) : Prop :=
  (s.regionAt (byteAddr q) = none ∧ a = accessOf q (BitVec.ofNat 32 (byteAddr q))) ∨
    ∃ r b, s.regionAt (byteAddr q) = some r ∧ (s.config r).inBank .bankA (byteAddr q) = true ∧
      (q.kind = .write → q.tag = (s.config r).writerTag) ∧ a = accessOf q ((s.config r).physical b q)

/-- The head asks nothing, or for an access that its decision admits. -/
def State.AsksFrom (s : State) (q : HostRequest) (u : State) : Prop :=
  u.hostAsk = s.hostAsk ∨ ∃ a p, s.Admits q a ∧ u.hostAsk = (some ⟨a, p⟩, s.bus.port)

theorem RegionConfig.of_windowClass {c : RegionConfig} {p : Phase} {q : HostRequest}
    (h : ∀ why, c.classOf p q ≠ .refused why) :
    c.inBank .bankA (byteAddr q) = true ∧ (q.kind = .write → q.tag = c.writerTag) := by
  unfold RegionConfig.classOf at h
  split at h
  · next hbank =>
    refine ⟨hbank, fun hkind => ?_⟩
    by_contra htag
    unfold RegionConfig.windowClass at h
    rw [hkind] at h
    split at h
    · exact h _ rfl
    · exact h .tag (by simp [RegionConfig.isWriter, htag])
  · exact absurd rfl (h _)

theorem State.hostAsk_issueHost {d : Decision} {r : RegionIx} (hreq : s.headRequest = some q)
    (hdec : s.decision = some d) :
    (s.issueHost r).hostAsk =
      (some ⟨accessOf q ((s.config r).physical (s.run r).draftBank q), .draftWrite r⟩, s.bus.port) := by
  rw [State.issueHost, hreq, hdec]
  simp only [State.hostAsk_wordTrigger, State.hostAsk_countIssue]
  rfl

theorem State.hostAsk_parkWrite {d : Decision} {r : RegionIx} (hreq : s.headRequest = some q)
    (hdec : s.decision = some d) (hview : d.view = none) (hw : s.link.waiting = none) (timer : Nat) :
    (s.parkWrite r timer).hostAsk = s.hostAsk := by
  have hserves : s.NoViewServes := fun x hx => Option.some.inj (hdec.symm.trans hx) ▸ hview
  rw [State.parkWrite_eq hreq hdec]
  split
  · show ((((s.placed r q (s.parkTag r)).giveResponse (.okay [])).wordTrigger r d.commit).drainNext).hostAsk = _
    rw [State.hostAsk_drainNext, State.hostAsk_wordTrigger, State.placed_eq]
    exact State.hostAsk_giveResponse (s := s.setPark (s.placed r q (s.parkTag r)).park) hserves hw _
  · split
    · rfl
    · rw [← State.hostAsk_giveResponse hserves hw (.failed .parkTimeout)]
      exact State.hostAsk_congr (by simp)

theorem State.asks_accessMemory {u : State} {d : Decision} {p : HostPurpose} (hadmits : s.Admits q (accessOf q d.addr))
    (hbus : u.bus = s.bus) : s.AsksFrom q (u.accessMemory q d p) := by
  refine .inr ⟨_, p, hadmits, ?_⟩
  rw [State.hostAsk, ← hbus]
  rfl

/-- A head that is sent on asks for an access that its decision admits, or for none. -/
theorem State.asks_sendOn (hreq : s.headRequest = some q) (hw : s.link.waiting = none) : s.AsksFrom q (s.sendOn q) := by
  unfold State.sendOn
  split
  · next hnone => exact State.asks_accessMemory (.inl ⟨hnone, rfl⟩) rfl
  · next r hsome =>
    have hadmits (h : ∀ why, (s.config r).classOf (s.phase r) q ≠ .refused why) (b : Bank) :
        s.Admits q (accessOf q ((s.config r).physical b q)) :=
      have ⟨hbank, hwriter⟩ := RegionConfig.of_windowClass h
      .inr ⟨r, b, hsome, hbank, hwriter, rfl⟩
    split
    · next hcls => exact absurd hcls (RegionConfig.classOf_ne_pass _ _ _)
    · next why hcls =>
      refine .inl ?_
      have hcharge (d : Option Decision) : (s.setHead (some ⟨.decide, d⟩)).chargeRefusal r q.tag why =
          (s.chargeRefusal r q.tag why).setHead (some ⟨.decide, d⟩) := by
        rw [State.chargeRefusal_eq, State.chargeRefusal_eq]
        rfl
      rw [State.refuse]
      simp only [hcharge]
      rw [State.hostAsk_giveResponse]
      · exact State.hostAsk_congr (by simp)
      · rintro d ⟨⟩
        rfl
      · simpa using hw
    · next hcls =>
      have hok := hadmits fun why => by rw [hcls]; exact nofun
      let s' := s.setHead (some ⟨.decide, some (s.matchedDecision r q .writerWrite)⟩)
      unfold State.writerWrite
      dsimp only
      split
      · exact .inl (State.hostAsk_parkWrite (s := s') hreq rfl rfl hw _)
      · unfold State.draftWrite
        dsimp only
        split
        · refine .inl ?_
          split
          · exact State.hostAsk_promote ..
          · rfl
        · exact .inr ⟨_, _, hok _, State.hostAsk_issueHost (s := s') hreq rfl⟩
    · next hcls =>
      have hok := hadmits fun why => by rw [hcls]; exact nofun
      unfold State.writerRead
      dsimp only
      split
      · exact State.asks_accessMemory (hok _) rfl
      · exact State.asks_accessMemory (hok _) rfl
    · next hcls =>
      have hok := hadmits fun why => by rw [hcls]; exact nofun
      unfold State.viewRead
      dsimp only
      split
      · exact State.asks_accessMemory (hok _) (by simp)
      · split
        · exact State.asks_accessMemory (hok _) (by simp)
        · exact State.asks_accessMemory (hok _) (by simp)

/-- A head decided asks for an access that stays in one line, or for none (R142). -/
theorem State.asks_decideHead {rest : List HostRequest} (hw : s.link.waiting = none) :
    (s.withNewHead q rest).decideHead.hostAsk = s.hostAsk ∨
      inLine q ∧ s.AsksFrom q (s.withNewHead q rest).decideHead := by
  by_cases hline : inLine q
  · rw [State.decideHead_withNewHead rest hw hline]
    exact .inr ⟨hline, State.asks_sendOn (s := s.withNewHead q rest) rfl hw⟩
  · have hspans : spansLines q = true := decide_eq_true (not_le.mp hline)
    have hdecide : (s.withNewHead q rest).decideHead = (s.withNewHead q rest).refuseSpan := by
      simp [State.decideHead, State.headRequest, State.hostWith, State.decisionsHeld, hw, hspans]
    rw [hdecide]
    let t := s.withNewHead q rest
    refine .inl ?_
    exact State.hostAsk_giveResponse (s := t.setHost { t.host with burstSpan := satInc t.host.burstSpan })
      (s.noViewServes_withNewHead q rest) hw _

/-- What the bus holds for the head after a grant was asked before it (R156). -/
theorem State.asked_of_grantNext {a : Access} (hport : s.bus.port.holdsHead = false)
    (h : (∃ p, s.grantNext.bus.hostReq = some ⟨a, p⟩) ∨
      ∃ p timer, s.grantNext.bus.port = .inFlight ⟨.host p false, a⟩ timer) :
    ∃ p, s.bus.hostReq = some ⟨a, p⟩ := by
  have hold (h : (∃ p, s.bus.hostReq = some ⟨a, p⟩) ∨ ∃ p timer, s.bus.port = .inFlight ⟨.host p false, a⟩ timer) :
      ∃ p, s.bus.hostReq = some ⟨a, p⟩ := by
    rcases h with h | ⟨p, timer, h⟩
    · exact h
    · rw [h] at hport
      cases hport
  unfold State.grantNext at h
  split at h
  · split at h
    · exact hold h
    · next x _ =>
      split at h
      · exact hold h
      · next t ht =>
        rcases h with ⟨p, h⟩ | ⟨p, timer, h⟩
        · cases x
          · cases h
          · exact ⟨p, h⟩
          · exact ⟨p, h⟩
        · obtain ⟨rfl, -⟩ := Port.inFlight.inj h
          cases x
          · obtain ⟨y, hy, heq⟩ := Option.map_eq_some_iff.mp ht
            cases heq
            exact ⟨_, hy⟩
          · obtain ⟨y, hy, heq⟩ := Option.map_eq_some_iff.mp ht
            cases heq
          · obtain ⟨y, hy, heq⟩ := Option.map_eq_some_iff.mp ht
            cases heq
  · exact hold h

/-! ### Where an access of one line goes (R4, R5) -/

theorem RegionConfig.inBank_iff {c : RegionConfig} {b : Bank} {addr : Nat} :
    c.inBank b addr = true ↔ (c.bankBase b).toNat ≤ addr ∧ addr < (c.bankBase b).toNat + c.lines * 64 := by
  rw [RegionConfig.inBank, Bool.and_eq_true]
  exact and_congr decide_eq_true_iff decide_eq_true_iff

/-- A bank's area is one of whole lines. -/
theorem RegionConfig.inBank_congr {c : RegionConfig} {b : Bank} {x y : Nat} (hbase : (c.bankBase b).toNat % 64 = 0)
    (h : x / 64 = y / 64) : c.inBank b x = c.inBank b y := by
  rw [Bool.eq_iff_iff, RegionConfig.inBank_iff, RegionConfig.inBank_iff]
  omega

/-- The access of a window request in a bank lies in that bank, beat by beat. -/
theorem RegionConfig.inBank_physical {c : RegionConfig} (hsound : c.AreasSound) (hbank : c.inBank .bankA (byteAddr q) = true)
    (hline : inLine q) (b : Bank) {beat : Nat} (hbeat : beat < q.beats) :
    c.inBank b ((c.physical b q).toNat + 4 * beat) = true := by
  obtain ⟨hbase, hend⟩ := hsound.1 b
  have hwindow : (c.bankBase .bankA).toNat % 64 = 0 := (hsound.1 .bankA).1
  rw [RegionConfig.inBank_iff] at hbank ⊢
  have hoffset : c.offset q = byteAddr q - (c.bankBase .bankA).toNat := rfl
  have haddr : (c.physical b q).toNat = (c.bankBase b).toNat + c.offset q := by
    rw [RegionConfig.physical, BitVec.toNat_add, BitVec.toNat_ofNat]
    simp only [RegionConfig.size] at hend
    omega
  rw [haddr]
  simp only [inLine, byteAddr] at *
  omega

theorem byteAddr_lt (q : HostRequest) : byteAddr q < 2 ^ 32 := by
  have := q.addr.isLt
  rw [byteAddr]
  omega

/-- What is asked of an idle bus is what the decision admits. -/
theorem State.admits_of_asked {u : State} {a : Access}
    (hask : u.hostAsk = s.hostAsk ∨ inLine q ∧ s.AsksFrom q u) (hnone : s.bus.hostReq = none)
    (hport : s.bus.port.holdsHead = false)
    (h : (∃ p, u.grantNext.bus.hostReq = some ⟨a, p⟩) ∨
      ∃ p timer, u.grantNext.bus.port = .inFlight ⟨.host p false, a⟩ timer) :
    inLine q ∧ s.Admits q a := by
  have hidle (hsame : u.hostAsk = s.hostAsk) : False := by
    have hreq : u.bus.hostReq = s.bus.hostReq := congrArg Prod.fst hsame
    have hports : u.bus.port = s.bus.port := congrArg Prod.snd hsame
    obtain ⟨p, hp⟩ := State.asked_of_grantNext (hports ▸ hport) h
    cases (hreq.trans hnone).symm.trans hp
  obtain hsame | ⟨hline, hsame | ⟨b, p, hadmits, hasks⟩⟩ := hask
  · exact (hidle hsame).elim
  · exact (hidle hsame).elim
  · have hreq : u.bus.hostReq = some ⟨b, p⟩ := congrArg Prod.fst hasks
    have hports : u.bus.port = s.bus.port := congrArg Prod.snd hasks
    obtain ⟨p', hp'⟩ := State.asked_of_grantNext (hports ▸ hport) h
    cases hreq.symm.trans hp'
    exact ⟨hline, hadmits⟩

/-- Settles O12: the access is forwarded past every area, or goes to a bank of the region whose window holds it, which
no other region's area meets. -/
theorem writerIsolation : Obligations.WriterIsolation := by
  intro c s t q rest a r hareas harrives hexec hnone hport hasked hactive beat hbeat
  obtain rfl : (s.withNewHead q rest).decideHead.grantNext = t := by
    rw [exec_of_headArrives harrives] at hexec
    exact Host.Outcome.next.inj hexec
  have hask : (s.withNewHead q rest).decideHead.hostAsk = s.hostAsk ∨
      inLine q ∧ s.AsksFrom q (s.withNewHead q rest).decideHead := by
    by_cases hw : s.link.waiting = none
    · exact State.asks_decideHead hw
    · rw [State.decideHead_of_held (s := s.withNewHead q rest) hw]
      exact .inl rfl
  obtain ⟨hline, hadmits⟩ := State.admits_of_asked hask hnone hport hasked
  have hbase (b : Bank) := ((hareas.1 r hactive).1 b).1
  rcases hadmits with ⟨hfree, rfl⟩ | ⟨j, b, hsome, hbank, hwriter, rfl⟩
  · have hlt := byteAddr_lt q
    have hmiss : (s.config r).inAreas (byteAddr q) = false := by
      simpa [hactive] using List.find?_eq_none.mp hfree r (mem_regionIxs r)
    have hapart (b : Bank) : (s.config r).inBank b ((accessOf q (BitVec.ofNat 32 (byteAddr q))).addr.toNat + 4 * beat) =
        false := by
      have hsame : ((accessOf q (BitVec.ofNat 32 (byteAddr q))).addr.toNat + 4 * beat) / 64 = byteAddr q / 64 := by
        have hbeats : beat < q.beats := hbeat
        show ((BitVec.ofNat 32 (byteAddr q)).toNat + 4 * beat) / 64 = _
        rw [BitVec.toNat_ofNat, Nat.mod_eq_of_lt hlt]
        simp only [inLine, byteAddr] at *
        omega
      rw [RegionConfig.inBank_congr (hbase b) hsame, ← Bool.not_eq_true]
      intro hb
      exact Bool.false_ne_true (hmiss.symm.trans ((RegionConfig.inAreas_iff _ _).mpr ⟨b, hb⟩))
    refine ⟨fun _ _ => ?_, fun hshadow => ?_⟩
    · rw [← Bool.not_eq_true, RegionConfig.inAreas_iff]
      rintro ⟨b, hb⟩
      exact Bool.false_ne_true ((hapart b).symm.trans hb)
    · rw [hapart, hapart] at hshadow
      simp at hshadow
  · obtain ⟨hjactive, -⟩ := State.regionAt_spec hsome
    have hgoes : (s.config j).inBank b ((accessOf q ((s.config j).physical b q)).addr.toNat + 4 * beat) = true :=
      RegionConfig.inBank_physical (hareas.1 j hjactive) hbank hline b hbeat
    by_cases hj : j = r
    · subst hj
      refine ⟨fun hwrite htag => absurd (hwriter hwrite) htag, fun _ => ?_⟩
      have hsame : (4 * q.addr.toNat + 4 * beat) / 64 = byteAddr q / 64 := by
        have hbeats : beat < q.beats := hbeat
        simp only [inLine, byteAddr] at *
        omega
      rw [RegionConfig.inBank_congr (hbase .bankA) hsame]
      exact hbank
    · have hdisjoint (e : Bank) : (s.config r).inBank e ((accessOf q ((s.config j).physical b q)).addr.toNat + 4 * beat) =
          false := by
        rw [← Bool.not_eq_true]
        intro he
        have hoverlap := (configsOverlap_eq_false_iff.mp (hareas.2 j r hj hjactive hactive)).1 b e
        exact Bool.false_ne_true (hoverlap.symm.trans (bankOverlap_of_inBank hgoes he))
      refine ⟨fun _ _ => ?_, fun hshadow => ?_⟩
      · rw [← Bool.not_eq_true, RegionConfig.inAreas_iff]
        rintro ⟨e, he⟩
        exact Bool.false_ne_true ((hdisjoint e).symm.trans he)
      · rw [hdisjoint, hdisjoint] at hshadow
        simp at hshadow

end

end Sys2Proof.Machine


/-! SUPPORT. The drain slot's issue of an entry's write, and the start of a drain (R83, R97, R98, R102). -/

namespace Sys2Proof.Machine

set_option Elab.async false

section
variable {s : State} {e : ParkEntry}

/-! ### The predicates of the drain, computed -/

theorem State.eligible_iff : s.eligible e = true ↔ s.Eligible e := by
  rw [State.eligible, State.Eligible, Bool.and_eq_true, beq_iff_eq, Phase.working_iff]
  rfl

theorem State.eligible_eq_false_iff : s.eligible e = false ↔ ¬s.Eligible e := by
  rw [← State.eligible_iff, Bool.not_eq_true]

theorem State.drainHeld_iff : s.drainHeld e.key = true ↔ s.HeldForRead e := by
  unfold State.drainHeld State.HeldForRead
  split
  · next d q hhead hreq =>
    simp only [Bool.and_eq_true, beq_iff_eq, RegionConfig.includes_iff_hits]
    refine ⟨fun ⟨⟨⟨hcls, hregion⟩, hserved⟩, hhits⟩ => ⟨d, q, hhead, hreq, hcls, hregion, hserved, hhits⟩, ?_⟩
    rintro ⟨d', q', hhead', hreq', hcls, hregion, hserved, hhits⟩
    cases hhead.symm.trans hhead'
    cases hreq.symm.trans hreq'
    exact ⟨⟨⟨hcls, hregion⟩, hserved⟩, hhits⟩
  · next hno =>
    refine ⟨nofun, ?_⟩
    rintro ⟨d, q, hhead, hreq, -⟩
    exact absurd hreq (hno d q hhead)

/-- The line of a parked word is stale in its region's DRAFT bank. -/
def State.EntryStale (s : State) (e : ParkEntry) : Prop :=
  (s.line (s.lineOfEntry e)).stale.get (s.run e.region).draftBank = true

theorem State.draftStale_entry :
    s.draftStale e.key.region ((s.config e.key.region).lineOfWord e.key.word) = true ↔ s.EntryStale e := Iff.rfl

theorem State.drainReady_iff : s.drainReady e.key = true ↔ ¬s.EntryStale e ∧ ¬s.HeldForRead e ∧ s.NoRestart := by
  rw [State.drainReady, ← State.drainHeld_iff, ← s.restartWaits_eq_false_iff, ← State.draftStale_entry]
  simp [and_assoc]

/-! ### Entries by their keys -/

theorem ParkQueue.Sound.parked (h : s.park.Sound) (he : e ∈ s.park.entries) : s.parked e.key = some e := by
  have hnodup := h.2
  unfold State.parked
  generalize s.park.entries = l at he hnodup
  induction l with
  | nil => cases he
  | cons x l ih =>
    rw [List.map_cons, List.nodup_cons] at hnodup
    obtain ⟨hfresh, hrest⟩ := hnodup
    rcases List.mem_cons.mp he with rfl | hmem
    · simp
    · rw [List.find?_cons_of_neg, ih hmem hrest]
      simp only [beq_iff_eq]
      intro heq
      exact hfresh (heq ▸ List.mem_map_of_mem hmem)

/-! ### The drain write issued (R83, R98) -/

theorem State.lineOfEntry_lt (h : s.EntryInRange e) : s.lineOfEntry e < 2048 := by
  obtain ⟨hword, hlines⟩ := h
  rw [State.lineOfEntry]
  omega

/-- The drain write of a parked entry issued is as R83 and R98 have it. -/
theorem State.drainIssuedIn_issueDrain (hparked : s.parked e.key = some e) (hrange : s.EntryInRange e) (retried : Bool) :
    s.DrainIssuedIn (s.issueDrain e.key retried) e retried := by
  let s₁ := s.requestDrain (s.drainAccess e)
  have hline := State.lineOfEntry_lt hrange
  obtain ⟨hviews, hpark, hhost, hbus, hclock, hstrobes, hnotices, hlink, hpending⟩ :=
    s₁.countIssue_rest e.region (s.lineOfEntry e)
  obtain ⟨hqueue, hengine⟩ := s₁.catchup_countIssue e.region (s.lineOfEntry e)
  have hregions := s₁.regions_countIssue e.region (s.lineOfEntry e)
  have hlines := s₁.line_countIssue e.region (s.lineOfEntry e) hline
  have hissue : s.issueDrain e.key retried =
      ((s₁.countIssue e.region (s.lineOfEntry e)).modEntry e.key fun x => { x with changed := false }).setSlot
        (.writing e.key retried) := by
    rw [State.issueDrain, hparked]
    rfl
  rw [hissue]
  refine ⟨?_, hbus, hlines, hqueue, hengine, hregions, hviews, hhost, hclock, hstrobes, hnotices, hlink, hpending⟩
  show (⟨(s₁.countIssue e.region (s.lineOfEntry e)).park.entries.map _, _⟩ : ParkQueue) = _
  rw [hpark]
  simp only [beq_iff_eq]
  rfl

/-- The issue sets the slot, whatever it was. -/
theorem State.issueDrain_setSlot (s : State) (d : DrainSlot) (k : ParkKey) (retried : Bool) :
    (s.setSlot d).issueDrain k retried = s.issueDrain k retried := by
  have hparked : (s.setSlot d).parked k = s.parked k := rfl
  unfold State.issueDrain
  rw [hparked]
  cases s.parked k with
  | none => rfl
  | some e =>
    show ((((s.setSlot d).requestDrain _).countIssue k.region ((s.config k.region).lineOfWord k.word)).modEntry k _).setSlot _ = _
    have hcount (t : State) (r : RegionIx) (ix : Nat) : (t.setSlot d).countIssue r ix = (t.countIssue r ix).setSlot d := by
      unfold State.countIssue State.markDirty
      have hline : (t.setSlot d).line ix = t.line ix := rfl
      rw [hline]
      split <;> rfl
    exact (congrArg (fun t : State => (t.modEntry k fun x => { x with changed := false }).setSlot (.writing k retried))
      (hcount (s.requestDrain (s.drainAccess e)) k.region ((s.config k.region).lineOfWord k.word)) :)

/-! ### A drain write on the draft write path (R81, R98) -/

variable {retried : Bool}

/-- The state with the slot WAITING for an entry. -/
def State.slotWaits (s : State) (e : ParkEntry) (retried : Bool) : State :=
  { s with park := { s.park with slot := .waiting e.key retried } }

theorem State.drainTry_ready (h : s.drainReady e.key = true) : s.drainTry e.key retried = s.issueDrain e.key retried := by
  have hready : (s.setSlot (.waiting e.key retried)).drainReady e.key = true := h
  rw [State.drainTry]
  simp only [hready, if_true]
  exact s.issueDrain_setSlot _ _ _

theorem State.drainTry_queued (hready : s.drainReady e.key = false) (hstale : s.EntryStale e)
    (hqueued : (s.line (s.lineOfEntry e)).queued = true) :
    s.drainTry e.key retried = (s.slotWaits e retried).promote (s.lineOfEntry e) := by
  have hready' : (s.setSlot (.waiting e.key retried)).drainReady e.key = false := hready
  have hcond : ((s.setSlot (.waiting e.key retried)).draftStale e.key.region
        ((s.config e.key.region).lineOfWord e.key.word) &&
      ((s.setSlot (.waiting e.key retried)).line ((s.config e.key.region).lineOfWord e.key.word)).queued) = true :=
    Bool.and_eq_true_iff.mpr ⟨hstale, hqueued⟩
  rw [State.drainTry]
  simp only [hready', hcond, Bool.false_eq_true, if_false, if_true]
  rfl

theorem State.drainTry_waits (hready : s.drainReady e.key = false)
    (h : s.EntryStale e → (s.line (s.lineOfEntry e)).queued = false) :
    s.drainTry e.key retried = s.slotWaits e retried := by
  have hready' : (s.setSlot (.waiting e.key retried)).drainReady e.key = false := hready
  have hcond : ((s.setSlot (.waiting e.key retried)).draftStale e.key.region
        ((s.config e.key.region).lineOfWord e.key.word) &&
      ((s.setSlot (.waiting e.key retried)).line ((s.config e.key.region).lineOfWord e.key.word)).queued) = false := by
    rw [← Bool.not_eq_true, Bool.and_eq_true]
    rintro ⟨hstale, hqueued⟩
    exact Bool.false_ne_true ((h hstale).symm.trans hqueued)
  rw [State.drainTry]
  simp only [hready', hcond, Bool.false_eq_true, if_false]
  rfl

/-! ### The slot takes an entry (R97, R102) -/

theorem State.drainNext_takes {before after : List ParkEntry} (hslot : s.park.slot = .idle) (hrestart : s.NoRestart)
    (hsplit : s.park.entries = before ++ e :: after) (hbefore : ∀ x ∈ before, ¬s.Eligible x) (he : s.Eligible e) :
    s.drainNext = s.drainTry e.key false := by
  have hfind : s.park.entries.find? s.eligible = some e := by
    rw [hsplit, List.find?_append,
      List.find?_eq_none.mpr fun x hx => by rw [State.eligible_iff]; exact hbefore x hx]
    exact List.find?_cons_of_pos (State.eligible_iff.mpr he)
  rw [State.drainNext, hslot]
  simp only [s.restartWaits_eq_false_iff.mpr hrestart, hfind, Bool.false_eq_true, if_false]

theorem State.drainNext_of_nothing
    (h : s.park.slot ≠ .idle ∨ ¬s.NoRestart ∨ ∀ e ∈ s.park.entries, ¬s.Eligible e) : s.drainNext = s := by
  unfold State.drainNext
  split
  · next hslot =>
    obtain hrestart | hnone := h.resolve_left fun hne => hne hslot
    · rw [if_pos]
      by_contra hr
      exact hrestart (s.restartWaits_eq_false_iff.mp (Bool.not_eq_true _ ▸ hr))
    · rw [List.find?_eq_none.mpr fun x hx => by rw [State.eligible_iff]; exact hnone x hx]
      exact ite_self s
  · rfl

theorem State.drainRelease_ready (hslot : s.park.slot = .waiting e.key retried) (h : s.drainReady e.key = true) :
    s.drainRelease = s.issueDrain e.key retried := by
  rw [State.drainRelease, hslot]
  exact if_pos h

theorem State.drainRelease_stays (hslot : s.park.slot = .waiting e.key retried) (h : s.drainReady e.key = false) :
    s.drainRelease = s := by
  rw [State.drainRelease, hslot]
  exact if_neg (by rw [h]; exact Bool.false_ne_true)

/-- Settles O51: the slot's take and its release, by what stands in the way of the entry's write. -/
theorem drainStarted : Obligations.DrainStarted := by
  refine ⟨?_, fun s h => ?_, ?_, fun s hslot => ?_⟩
  · intro s before after e hslot hrestart hsound hsplit hbefore he hrange ix stale waits
    have hmem : e ∈ s.park.entries := hsplit ▸ List.mem_append_right _ List.mem_cons_self
    have hnext := State.drainNext_takes hslot hrestart hsplit hbefore he
    have hexec : exec .drainTake s = .next (s.drainTry e.key false).grantNext := by
      rw [← hnext]
      rfl
    have hnotReady (h : stale ∨ s.HeldForRead e) : s.drainReady e.key = false := by
      rw [← Bool.not_eq_true, State.drainReady_iff]
      exact fun ⟨hcurrent, hheld, _⟩ => h.elim hcurrent hheld
    refine ⟨fun hcurrent hheld => ?_, fun hcurrent hheld => ?_, fun hstale hqueued => ?_,
      fun hstale hqueued hbusy before after y hsplit hy hbefore => ?_⟩
    · rw [State.drainTry_ready (State.drainReady_iff.mpr ⟨hcurrent, hheld, hrestart⟩)] at hexec
      exact ⟨_, .of_exec hexec, State.drainIssuedIn_issueDrain (hsound.parked hmem) hrange false⟩
    · rw [State.drainTry_waits (hnotReady (.inr hheld)) fun h => absurd h hcurrent] at hexec
      exact .of_exec hexec
    · rw [State.drainTry_waits (hnotReady (.inl hstale)) fun _ => hqueued] at hexec
      exact .of_exec hexec
    · rw [State.drainTry_queued (hnotReady (.inl hstale)) hstale hqueued, State.promote,
        State.engineTake_of_busy (by exact hbusy)] at hexec
      have hqueue : (s.slotWaits e false).catchup.queue = before ++ y :: after := hsplit
      rw [hqueue, promoteIn_split hy hbefore] at hexec
      exact .of_exec hexec
  · refine .of_exec ?_
    show Host.Outcome.next s.drainNext.grantNext = _
    rw [State.drainNext_of_nothing h]
  · intro s e retried hslot hsound hmem hrange stale
    have hexec : exec .drainWriteRelease s = .next s.drainRelease.grantNext := rfl
    refine ⟨fun hcurrent hheld hrestart => ?_, fun hstays => ?_⟩
    · rw [State.drainRelease_ready hslot (State.drainReady_iff.mpr ⟨hcurrent, hheld, hrestart⟩)] at hexec
      exact ⟨_, .of_exec hexec, State.drainIssuedIn_issueDrain (hsound.parked hmem) hrange retried⟩
    · have hready : s.drainReady e.key = false := by
        rw [← Bool.not_eq_true, State.drainReady_iff]
        exact fun ⟨hcurrent, hheld, hrestart⟩ => hstays.elim hcurrent fun h => h.elim hheld fun h => h hrestart
      rw [State.drainRelease_stays hslot hready] at hexec
      exact .of_exec hexec
  · refine .of_exec ?_
    show Host.Outcome.next s.drainRelease.grantNext = _
    unfold State.drainRelease
    split
    · next k retried h => exact absurd h (hslot k retried)
    · rfl

end

end Sys2Proof.Machine


/-! SUPPORT. The ends of memory bus transactions, and the words of a READ answered (R17, R96, R144, R145, R160). -/

namespace Sys2Proof.Machine

set_option Elab.async false

section
variable {s : State} {o : Owner}

/-! ### A transaction ends (R160, R162) -/

theorem exec_answer_read {words : List Word} (h : s.InFlight o .read words.length) (hle : words.length ≤ 16) :
    exec (.memoryAnswer (.okay words)) s =
      .next ((s.setBus { s.bus with port := .idle }).endTransaction o (.okay words)) := by
  obtain ⟨a, timer, hport, hkind, hbeats⟩ := h
  have hwf : (MemAnswer.okay words).wf = true := decide_eq_true hle
  have hfits : answerAllowed a (.okay words) = true := by
    rw [answerAllowed, answerFits, hkind, hbeats]
    exact beq_self_eq_true _
  rw [exec_memoryAnswer, execMemoryAnswer, hwf, hport]
  exact if_pos hfits

theorem exec_answer_write {n : Nat} (h : s.InFlight o .write n) :
    exec (.memoryAnswer (.okay [])) s = .next ((s.setBus { s.bus with port := .idle }).endTransaction o (.okay [])) := by
  obtain ⟨a, timer, hport, hkind, -⟩ := h
  have hfits : answerAllowed a (.okay []) = true := by
    rw [answerAllowed, answerFits, hkind]
    rfl
  rw [exec_memoryAnswer, execMemoryAnswer, hport]
  exact if_pos hfits

/-- What a failure delivers. -/
def failure (expired : Bool) : Delivery := if expired then .timeout else .error

theorem exec_failsBy {c : Instr} {expired : Bool} {bus : MemoryBus} (h : s.FailsBy c o expired bus) :
    exec c s = .next ((s.setBus bus).endTransaction o (failure expired)) := by
  obtain ⟨a, timer, hport, ⟨rfl, rfl, rfl⟩ | ⟨rfl, rfl, rfl, rfl⟩⟩ := h
  · rw [exec_memoryAnswer, execMemoryAnswer, hport]
    rfl
  · show execMemoryTimeout s = _
    rw [execMemoryTimeout, hport]
    rfl

theorem State.restartDue_of_noRestart (h : s.NoRestart) : s.restartDue = s := by
  unfold State.restartDue
  split
  · next seq hw => exact absurd hw (h seq)
  · rfl

theorem State.noRestart_of_none (h : s.link.waiting = none) : s.NoRestart := fun seq hs => by
  rw [h] at hs
  cases hs

/-- With no RESTART waiting a transaction ends by its requester's rule and the grant. -/
theorem State.endTransaction_eq {d : Delivery} (h : (s.handOver o d).NoRestart) :
    s.endTransaction o d = (s.handOver o d).grantNext := by
  rw [State.endTransaction, State.restartDue_of_noRestart h]

/-! ### The words of a READ (R17, R96, R145) -/

variable {q : HostRequest} {d : Decision}

theorem State.length_mergeParked (s : State) (r : RegionIx) (word : Nat) (words : List Word) :
    (s.mergeParked r word words).length = words.length := by
  induction words generalizing word with
  | nil => rfl
  | cons w words ih => rw [State.mergeParked, List.length_cons, ih, List.length_cons]

theorem State.getElem?_mergeParked (s : State) (r : RegionIx) (word : Nat) (words : List Word) (b : Nat) :
    (s.mergeParked r word words)[b]? = words[b]?.map fun w =>
      applyEntry (s.entryAt r (word + b) ((s.run r).frame + 2))
        (applyEntry (s.entryAt r (word + b) ((s.run r).frame + 1)) w) := by
  induction words generalizing word b with
  | nil => rfl
  | cons w words ih =>
    rw [State.mergeParked]
    cases b with
    | zero =>
      simp only [List.getElem?_cons_zero, Option.map_some, State.entryAt_eq_parked, Nat.add_zero]
      rfl
    | succ b => rw [List.getElem?_cons_succ, List.getElem?_cons_succ, ih, Nat.add_right_comm, Nat.add_assoc]

theorem State.laneOf_applyEntry (s : State) (r : RegionIx) (word : Nat) (tag : Word) (w : Word) {lane : Nat}
    (hlane : lane < 4) :
    laneOf (applyEntry (s.entryAt r word tag) w) lane = s.parkedLane r word tag lane (laneOf w lane) := by
  rw [State.parkedLane]
  cases s.entryAt r word tag with
  | none => rfl
  | some e => exact laneOf_mergeLanes _ _ _ hlane

/-- The words of a READ before its stamp beat. -/
def State.merged (s : State) (q : HostRequest) (d : Decision) (words : List Word) : List Word :=
  match d.region with
  | none => words
  | some r =>
    if d.cls == .writerRead && d.phase.working then s.mergeParked r ((s.config r).firstWord q) words else words

theorem State.assemble_eq (s : State) (q : HostRequest) (d : Decision) (words : List Word) :
    s.assemble q d words =
      match d.stamp with
      | none => s.merged q d words
      | some (b, v) => (s.merged q d words).set b v := rfl

theorem State.length_merged (words : List Word) : (s.merged q d words).length = words.length := by
  unfold State.merged
  split
  · rfl
  · split
    · exact s.length_mergeParked ..
    · rfl

theorem State.merged_parks {r : RegionIx} {words : List Word} (hcls : d.cls = .writerRead) (hregion : d.region = some r)
    (hphase : d.phase = .opened ∨ d.phase = .pending) :
    s.merged q d words = s.mergeParked r ((s.config r).firstWord q) words := by
  have hcond : (d.cls == .writerRead && d.phase.working) = true := by
    rw [hcls, Phase.working_iff.mpr hphase]
    rfl
  rw [State.merged, hregion]
  exact if_pos hcond

theorem State.merged_plain {words : List Word}
    (h : d.cls ≠ .writerRead ∨ d.region = none ∨ (d.phase ≠ .opened ∧ d.phase ≠ .pending)) :
    s.merged q d words = words := by
  unfold State.merged
  split
  · rfl
  · next r hregion =>
    refine if_neg fun hcond => ?_
    rw [Bool.and_eq_true, beq_iff_eq, Phase.working_iff] at hcond
    obtain ⟨hcls, hphase⟩ := hcond
    obtain h | h | h := h
    · exact h hcls
    · cases hregion.symm.trans h
    · exact hphase.elim h.1 h.2

/-- The words of a READ answered OKAY are as R17, R96 and R145 have them. -/
theorem State.dataOf_assemble (s : State) (q : HostRequest) (d : Decision) (words : List Word) :
    s.DataOf q d words (s.assemble q d words) := by
  have hlen := State.length_merged (s := s) (q := q) (d := d) words
  refine ⟨?_, fun b w x hw hx => ⟨fun v hstamp => ?_, fun hstamp => ?_⟩⟩
  · rw [State.assemble_eq]
    split
    · exact hlen
    · rw [List.length_set, hlen]
  · rw [State.assemble_eq, hstamp] at hx
    have hb : b < (s.merged q d words).length := by
      rw [hlen]
      exact (List.getElem?_eq_some_iff.mp hw).1
    rw [List.getElem?_set_self hb] at hx
    exact (Option.some.inj hx).symm
  · have hmerged : (s.merged q d words)[b]? = some x := by
      rw [State.assemble_eq] at hx
      split at hx
      · exact hx
      · next b' v hd =>
        rw [List.getElem?_set_ne] at hx
        · exact hx
        · rintro rfl
          exact hstamp v hd
    refine ⟨fun r hcls hregion hphase lane hlane => ?_, fun hplain => ?_⟩
    · rw [State.merged_parks hcls hregion hphase, State.getElem?_mergeParked, hw] at hmerged
      obtain rfl := Option.some.inj hmerged
      rw [State.laneOf_applyEntry _ _ _ _ _ hlane, State.laneOf_applyEntry _ _ _ _ _ hlane]
    · rw [State.merged_plain hplain, hw] at hmerged
      exact (Option.some.inj hmerged).symm

/-! ### A head answered (R144) -/

/-- A head in WAIT_MEMORY that no view serves is answered, and a drain write held for it is let go. -/
theorem State.answerHead_eq {rest : List HostRequest} (hqueue : s.host.queue = q :: rest)
    (hhead : s.host.head = some ⟨.waitMemory, some d⟩) (hview : d.view = none) (hw : s.link.waiting = none)
    (x : Delivery) :
    s.answerHead x =
      { s with host := s.hostWith q rest ⟨.respond (s.memoryResponse q d x), some d⟩ }.drainRelease := by
  have hreq : s.headRequest = some q := by rw [State.headRequest, hqueue]; rfl
  have hserves : s.NoViewServes := fun y hy => by
    rw [State.decision, hhead] at hy
    obtain rfl := Option.some.inj hy
    exact hview
  rw [State.answerHead, hhead, hreq]
  show s.giveResponse _ = _
  rw [State.giveResponse_eq hserves hw, State.setProgress_eq hqueue hhead rfl]

end

/-- Settles O45: the words are those of memory and of the Park Queue, and the slot is free to issue. -/
theorem readAnswered : Obligations.ReadAnswered := by
  intro s q rest d p words hflight hlen hnodraft hqueue hhead hkind hview hw
  let data := (s.setBus { s.bus with port := .idle }).assemble q d words
  let ends : State :=
    { s with
      host := s.hostWith q rest ⟨.respond ⟨.okay, data⟩, some d⟩
      bus := { s.bus with port := .idle } }
  have hover : (s.setBus { s.bus with port := .idle }).handOver (.host p false) (.okay words) = ends.drainRelease := by
    have hdone : (s.setBus { s.bus with port := .idle }).hostWriteDone p = s.setBus { s.bus with port := .idle } := by
      cases p with
      | draftWrite r => exact absurd rfl (hnodraft r)
      | pass => rfl
      | read => rfl
    show ((s.setBus { s.bus with port := .idle }).hostWriteDone p).answerHead (.okay words) = _
    rw [hdone, State.answerHead_eq (s := s.setBus { s.bus with port := .idle }) hqueue hhead hview hw, State.memoryResponse, hkind]
    rfl
  have hexec (u : State) (hu : ends.drainRelease = u) (hlink : u.link.waiting = none) :
      exec (.memoryAnswer (.okay words)) s = .next u.grantNext := by
    rw [exec_answer_read hflight hlen, State.endTransaction_eq, hover, hu]
    rw [hover, hu]
    exact State.noRestart_of_none hlink
  refine ⟨data, (s.setBus { s.bus with port := .idle }).dataOf_assemble q d words, fun hsettled => ?_, ?_⟩
  · exact .of_exec (hexec ends (State.drainRelease_of_settled (hsettled.congr rfl rfl (fun _ => rfl) fun _ => rfl)) hw)
  · intro e retried hslot hsound hmem hrange hcurrent
    have hready : ends.drainReady e.key = true := by
      rw [State.drainReady_iff]
      refine ⟨?_, ?_, State.noRestart_of_none hw⟩
      · show ¬(s.line (s.lineOfEntry e)).stale.get (s.run e.region).draftBank = true
        rw [hcurrent]
        exact Bool.false_ne_true
      · rintro ⟨d', q', hhead', -⟩
        cases hhead'
    have hissued := State.drainIssuedIn_issueDrain (s := ends) (hsound.parked hmem) hrange retried
    have hlink : (ends.issueDrain e.key retried).link = s.link := hissued.2.2.2.2.2.2.2.2.2.2.2.1
    exact ⟨_, .of_exec (hexec _ (State.drainRelease_ready hslot hready) (hlink ▸ hw)), hissued⟩

end Sys2Proof.Machine


/-! SUPPORT. Fold-back and the end of a retirement (R87, R128, R130), and the engine's take at the end of them. -/

namespace Sys2Proof.Machine

set_option Elab.async false

/-! ### The moment of fold-back, computed (R128) -/

section
variable {s : State} {r : RegionIx}

theorem RegionConfig.mem_lineIxs {c : RegionConfig} {ix : Nat} : ix ∈ c.lineIxs ↔ c.ownsLine ix = true := by
  simp only [RegionConfig.lineIxs, RegionConfig.ownsLine, List.mem_map, List.mem_range, Bool.and_eq_true,
    decide_eq_true_iff]
  refine ⟨?_, fun ⟨hlow, hhigh⟩ => ⟨ix - c.lineBase, by omega, by omega⟩⟩
  rintro ⟨n, hn, rfl⟩
  omega

theorem State.foldReady_iff : s.foldReady r = true ↔ s.FoldReady r := by
  have hbusy : s.anyBusy r = false ↔ ∀ ix, (s.config r).ownsLine ix = true → (s.line ix).busy = false := by
    simp only [State.anyBusy, List.any_eq_false, RegionConfig.mem_lineIxs, Bool.not_eq_true]
  rw [State.foldReady, State.FoldReady, ← hbusy]
  simp only [Bool.and_eq_true, beq_iff_eq, Bool.not_eq_true']
  exact ⟨fun ⟨⟨⟨hp, hstage⟩, hb⟩, hf⟩ => ⟨hp, hstage, hf, hb⟩, fun ⟨hp, hstage, hf, hb⟩ => ⟨⟨⟨hp, hstage⟩, hb⟩, hf⟩⟩

theorem State.linesToFold_eq (s : State) (r : RegionIx) : s.linesToFold r = s.foldLines r := by
  simp only [State.linesToFold, State.foldLines, beq_iff_eq]
  rfl

theorem State.stale_of_mem_foldLines {ix : Nat} (h : ix ∈ s.foldLines r) : ix < 2048 := by
  unfold State.foldLines at h
  split at h
  · cases h
  · have hstale := (List.mem_filter.mp h).2
    by_contra hge
    rw [State.line_of_ge s (not_lt.mp hge)] at hstale
    cases hstale

/-! ### The end of a retirement (R130) -/

/-- A DISABLED region whose retirement has ended. -/
def Region.ended (g : Region) : Region := { g with run := g.run.ended, life := { g.life with stage := .none } }

/-- The RETIRED notice of a region. -/
def State.retiredNotice (s : State) (r : RegionIx) : Notice :=
  s.noticeOf r .retired none (retiredDetail (s.region r).life.linesFolded (s.region r).life.linesUnfolded)

theorem State.retirementEnd_eq (s : State) (r : RegionIx) :
    s.retirementEnd r =
      ((s.modRegion r Region.ended).modRange (s.config r) fun _ => LineEntry.clear).setNotices
        (s.notices.raised (s.config r).noticeMask (s.retiredNotice r)) := by
  let t := (s.modRun r Runtime.ended).modRange (s.config r) fun _ => LineEntry.clear
  have hregion : t.region r = { s.region r with run := (s.run r).ended } :=
    s.region_modRegion_self r fun g => { g with run := Runtime.ended g.run }
  have hnotice (d : BitVec 16) : t.noticeOf r .retired none d = s.noticeOf r .retired none d := by
    rw [State.noticeOf, State.run, hregion]
    rfl
  have hconfig : t.config r = s.config r := (congrArg Region.config hregion :)
  have hend : s.retirementEnd r =
      (t.raiseNotice r .retired none
        (retiredDetail (s.region r).life.linesFolded (s.region r).life.linesUnfolded)).modLife r fun x =>
          { x with stage := .none } := rfl
  rw [hend, State.raiseNotice_eq, hnotice, hconfig]
  exact congrArg (fun u : State => (u.modRange (s.config r) fun _ => LineEntry.clear).setNotices
    (s.notices.raised (s.config r).noticeMask (s.retiredNotice r)))
    (s.modRegion_modRegion r (fun g => { g with run := g.run.ended }) fun g =>
      { g with life := { g.life with stage := .none } })

theorem State.retiredIn_retirementEnd (s : State) (r : RegionIx) : s.RetiredIn (s.retirementEnd r) r := by
  rw [State.retirementEnd_eq]
  refine ⟨s.region_modRegion_self r _, fun j hj => s.region_modRegion_ne hj Region.ended, fun ix => ?_, rfl, rfl, rfl, rfl, rfl, rfl, rfl,
    rfl, rfl, rfl, rfl⟩
  by_cases hix : ix < 2048
  · exact State.line_modRange (s.modRegion r Region.ended) (s.config r) (fun _ => LineEntry.clear) ix hix
  · have hge := not_lt.mp hix
    rw [State.line_of_ge _ hge, State.line_of_ge _ hge]
    exact (ite_self _).symm

/-! ### The fold-back, up to the engine's take (R128) -/

/-- The fold-back of a region taken where its moment has come, before the engine takes an entry. -/
def State.foldQueued (s : State) (r : RegionIx) : State :=
  if s.foldReady r then
    ((s.appended .fold (s.foldLines r)).modLife r fun x =>
      { x with stage := .folding, foldsOutstanding := (s.foldLines r).length }).endIfFolded r
  else s

/-- The state with the FOLD entries of a region queued and its stage FOLDING. -/
def State.folding (s : State) (r : RegionIx) : State :=
  (s.appended .fold (s.foldLines r)).modLife r fun x =>
    { x with stage := .folding, foldsOutstanding := (s.foldLines r).length }

theorem State.region_folding (s : State) (r : RegionIx) : (s.folding r).region r = s.foldingRegion r :=
  (s.appended .fold (s.foldLines r)).region_modRegion_self r _

theorem State.endIfFolded_folding (s : State) (r : RegionIx) (h : s.foldLines r ≠ []) :
    (s.folding r).endIfFolded r = s.folding r := by
  rw [State.endIfFolded, State.region_folding]
  refine if_neg ?_
  simp [State.foldingRegion, h]

theorem State.endIfFolded_folding_nil (s : State) (r : RegionIx) (h : s.foldLines r = []) :
    (s.folding r).endIfFolded r = (s.folding r).retirementEnd r := by
  rw [State.endIfFolded, State.region_folding]
  refine if_pos ?_
  simp [State.foldingRegion, h]

theorem State.appended_nil (s : State) (k : CopyKind) : s.appended k [] = s := by
  have hlines : vmap (fun _ e => e) s.catchup.lines = s.catchup.lines := Vector.ext fun i hi => vmap_getElem _ _ _ hi
  simp [State.appended, State.modLines, State.setQueue, State.setCatchup, hlines]

theorem State.foldBackIn_foldQueued (s : State) (r : RegionIx) : s.FoldBackIn (s.foldQueued r) r := by
  have hready (h : s.FoldReady r) : s.foldQueued r = (s.folding r).endIfFolded r := if_pos (State.foldReady_iff.mpr h)
  refine ⟨fun h => if_neg (mt State.foldReady_iff.mp h), fun h hfolds => ?_, fun h hfolds => ?_⟩
  · rw [hready h, State.endIfFolded_folding s r hfolds]
    refine ⟨(s.appended .fold (s.foldLines r)).catchup, fun ix => ?_, rfl⟩
    by_cases hix : ix < 2048
    · refine (s.line_appended .fold (s.foldLines r) ix hix).trans ?_
      simp
    · have hge := not_lt.mp hix
      rw [State.line_of_ge _ hge, if_neg (fun hmem => hix (State.stale_of_mem_foldLines hmem)), State.line_of_ge _ hge]
  · rw [hready h, State.endIfFolded_folding_nil s r hfolds]
    have hfolding : s.folding r = { s with regions := s.regions.set r.val (s.foldingRegion r) r.isLt } := by
      rw [State.folding, hfolds, State.appended_nil, State.foldingRegion, hfolds]
      rfl
    rw [hfolding]
    exact State.retiredIn_retirementEnd ..

/-! ### The engine's take after a fold-back (R72) -/

theorem State.engineTake_of_taken (h : s.catchup.Taken) : s.engineTake = s := by
  obtain hbusy | hempty := h
  · exact State.engineTake_of_busy hbusy
  · unfold State.engineTake
    split
    · next hqueue => cases hempty.symm.trans hqueue
    · rfl

theorem State.regions_engineTake (s : State) : s.engineTake.regions = s.regions := by
  obtain ⟨x, b, heq, -⟩ := s.engineTake_eq
  rw [heq]
  rfl

theorem State.endIfFolded_engineTake (h : s.foldLines r ≠ []) :
    (s.folding r).engineTake.endIfFolded r = (s.folding r).engineTake := by
  rw [State.endIfFolded, State.region_congr (State.regions_engineTake _), State.region_folding]
  refine if_neg ?_
  simp [State.foldingRegion, h]

theorem State.foldQueued_of_not (h : ¬s.FoldReady r) : s.foldQueued r = s := if_neg (mt State.foldReady_iff.mp h)

theorem State.foldQueued_of_ready (h : s.FoldReady r) : s.foldQueued r = (s.folding r).endIfFolded r :=
  if_pos (State.foldReady_iff.mpr h)

theorem State.catchup_retirementEnd (s : State) (r : RegionIx) :
    (s.retirementEnd r).catchup.queue = s.catchup.queue ∧ (s.retirementEnd r).catchup.engine = s.catchup.engine := by
  rw [State.retirementEnd_eq]
  exact ⟨rfl, rfl⟩

theorem State.foldBack_of_ready (h : s.FoldReady r) :
    s.foldBack r = (s.folding r).engineTake.endIfFolded r := by
  have hactive : (s.phase r).active = true := by rw [h.1]; rfl
  rw [State.foldBack, if_pos (State.foldReady_iff.mpr h), State.linesToFold_eq]
  exact congrArg (State.endIfFolded · r)
    (State.modRegion_engineTake (s.appended .fold (s.foldLines r)) r
      (f := fun g => { g with life := { g.life with stage := .folding, foldsOutstanding := (s.foldLines r).length } })
      rfl rfl rfl :)

/-- The fold-back is queued and the engine then takes an entry, where it takes none before. -/
theorem State.foldBack_eq (h : s.catchup.Taken ∨ s.FoldReady r ∧ s.foldLines r ≠ []) :
    s.foldBack r = (s.foldQueued r).engineTake := by
  by_cases hready : s.FoldReady r
  · by_cases hfolds : s.foldLines r = []
    · have htaken : s.catchup.Taken := h.resolve_right fun h => h.2 hfolds
      have hcatchup : (s.folding r).catchup = s.catchup := by
        rw [State.folding, hfolds, State.appended_nil]
        rfl
      have htake : (s.folding r).engineTake = s.folding r := State.engineTake_of_taken (by rwa [hcatchup])
      rw [State.foldBack_of_ready hready, htake, State.foldQueued_of_ready hready,
        State.endIfFolded_folding_nil s r hfolds, State.engineTake_of_taken]
      obtain ⟨hqueue, hengine⟩ := (s.folding r).catchup_retirementEnd r
      rw [Catchup.Taken, hqueue, hengine, hcatchup]
      exact htaken
    · rw [State.foldBack_of_ready hready, State.foldQueued_of_ready hready, State.endIfFolded_engineTake hfolds,
        State.endIfFolded_folding s r hfolds]
  · have htaken : s.catchup.Taken := h.resolve_right fun h => hready h.1
    rw [State.foldQueued_of_not hready, State.engineTake_of_taken htaken, State.foldBack,
      if_neg (mt State.foldReady_iff.mp hready)]

end

theorem CompletesTaking.of_exec {c : Instr} {s u : State} (h : exec c s = .next u.engineTake.grantNext) :
    CompletesTaking c s u := ⟨_, h, rfl⟩

/-- Settles O53: the fold-back at its moment, the end of a retirement at its own, and nothing at others. -/
theorem retirementEnds : Obligations.RetirementEnds := by
  refine ⟨?_, fun s r => ⟨fun hstage hnone => ?_, fun hnot => ?_⟩⟩
  · intro s r hlines c ready folds folding
    have hexec : exec (.foldBackQueued r) s = .next (s.foldBack r).grantNext := rfl
    have hback := s.foldBackIn_foldQueued r
    obtain ⟨-, hfolding, hends⟩ := hback
    refine ⟨fun hready hfolds => ?_, fun hready hfolds htaken => ?_, fun hnot => ?_⟩
    · obtain ⟨x, hx, hqueued⟩ := hfolding hready hfolds
      refine ⟨x, hx, .of_exec ?_⟩
      rw [hexec, State.foldBack_eq (.inr ⟨hready, hfolds⟩), hqueued]
      rfl
    · refine ⟨s.foldQueued r, .of_exec ?_, hends hready hfolds⟩
      rw [hexec, State.foldBack_eq (.inl htaken), State.engineTake_of_taken]
      obtain ⟨-, -, -, hqueue, hengine, -⟩ := hends hready hfolds
      rw [Catchup.Taken, hqueue, hengine]
      exact htaken
    · refine .of_exec ?_
      rw [hexec, State.foldBack, if_neg (mt State.foldReady_iff.mp hnot)]
  · have hend : s.endIfFolded r = s.retirementEnd r := if_pos (by simp [hstage, hnone])
    refine ⟨_, ?_, s.retiredIn_retirementEnd r⟩
    rw [← hend]
    rfl
  · have hstays : s.endIfFolded r = s := if_neg (by simpa [imp_iff_not_or] using hnot)
    show Host.Outcome.next (s.endIfFolded r) = _
    rw [hstays]

end Sys2Proof.Machine


/-! SUPPORT. The copies of the Catch-up Engine: their start, their ends and their failures (R71 to R79, R129). -/

namespace Sys2Proof.Machine

set_option Elab.async false

section
variable {s : State} {r : RegionIx} {ix : Nat}

theorem State.lineIn.ownsLine (h : s.lineIn r ix) : (s.config r).ownsLine ix = true := by
  obtain ⟨-, hlow, hhigh⟩ := h
  rw [RegionConfig.ownsLine, Bool.and_eq_true]
  exact ⟨decide_eq_true hlow, decide_eq_true hhigh⟩

theorem State.lineIn.lt (h : s.lineIn r ix) (hareas : s.AreasLaw) : ix < 2048 := by
  obtain ⟨hactive, -, hhigh⟩ := h
  have hlines := (hareas.1 r hactive).2.2
  omega

/-- A line entry of an active region changed. -/
theorem State.lineSet_modLine (s : State) (f : LineEntry → LineEntry) (h : ix < 2048) :
    s.LineSet (s.modLine ix f).catchup ix (f (s.line ix)) := by
  intro j
  by_cases hj : j < 2048
  · refine (s.line_modLine ix j f hj).trans ?_
    split
    · next heq => rw [heq]
    · rfl
  · have hge := not_lt.mp hj
    rw [State.line_of_ge _ hge, if_neg (by rintro rfl; exact hj h), State.line_of_ge _ hge]

/-! ### What is delivered to the engine (R162) -/

variable {y : Copy} {retried : Bool}

theorem State.deliverCatchup_read (h : s.catchup.engine = .reading y retried) (words : List Word) :
    s.deliverCatchup (.okay words) = s.copyReadDone y retried words := by
  unfold State.deliverCatchup
  rw [h]

theorem State.deliverCatchup_written {buffer : List Word} (h : s.catchup.engine = .writing y retried buffer)
    (words : List Word) : s.deliverCatchup (.okay words) = s.copyDone y := by
  unfold State.deliverCatchup
  rw [h]

/-- The cause of a copy's failure. -/
def failCause (expired : Bool) : FailCause := if expired then .timeout else .error

theorem State.deliverCatchup_failed
    (h : s.catchup.engine = .reading y retried ∨ ∃ buffer, s.catchup.engine = .writing y retried buffer)
    (expired : Bool) : s.deliverCatchup (failure expired) = s.copyFailed y retried (failCause expired) := by
  unfold State.deliverCatchup
  obtain h | ⟨buffer, h⟩ := h <;> rw [h] <;> cases expired <;> rfl

/-- Settles O48: the take of the queue's head, and the write that follows the read. -/
theorem copyStarted : Obligations.CopyStarted := by
  refine ⟨?_, fun s hnothing => .of_exec ?_, ?_⟩
  · intro s e rest r hidle hqueue hareas hline t dest
    have hregion := State.regionOfLine_eq_some hareas hline.1 hline.ownsLine
    let f : LineEntry → LineEntry := fun x => { x with queued := false, busy := true }
    refine ⟨(s.modLine e.line f).catchup, s.lineSet_modLine f (hline.lt hareas), .of_exec ?_⟩
    have htake : s.engineTake = ((s.setQueue rest).modLine e.line f).startReading (s.resolveCopy e r) false := by
      rw [State.engineTake, hidle, hqueue]
      simp only [hregion]
      rfl
    show Host.Outcome.next s.engineTake.grantNext = _
    rw [htake]
    rfl
  · show Host.Outcome.next s.engineTake.grantNext = _
    rw [State.engineTake_of_taken hnothing]
  · intro s y retried words hengine hlen hflight hrestart
    refine .of_exec ?_
    have hover : (s.setBus { s.bus with port := .idle }).handOver .catchup (.okay words) =
        (s.setBus { s.bus with port := .idle }).copyReadDone y retried words :=
      State.deliverCatchup_read (s := s.setBus { s.bus with port := .idle }) hengine words
    rw [exec_answer_read (hlen ▸ hflight) hlen.le, State.endTransaction_eq, hover]
    · rfl
    · rw [hover]
      exact hrestart

end

end Sys2Proof.Machine


/-! SUPPORT. A copy completed, by its kind and its region's phase (R74, R79, R82, R129). -/

namespace Sys2Proof.Machine

set_option Elab.async false

section
variable {s u : State} {r : RegionIx} {y : Copy}

/-! ### The link through a copy's end -/

theorem State.link_lineCurrent (s : State) (r : RegionIx) (ix : Nat) : (s.lineCurrent r ix).link = s.link := by
  rw [State.lineCurrent, State.releaseWrites]
  simp only [State.evaluate_frame]
  split <;> split <;> simp

theorem State.link_copyDone (s : State) (y : Copy) : (s.copyDone y).link = s.link := by
  unfold State.copyDone
  split
  · split <;> simp [State.link_lineCurrent]
  · simp

/-! ### The engine does not bear on what a copy's end owes -/

theorem State.IssuedIn.setEngine {q : HostRequest} {rest : List HostRequest} (h : s.IssuedIn u r q rest) (e : Engine) :
    (s.setEngine e).IssuedIn (u.setEngine e) r q rest := by
  obtain ⟨hhost, hbus, hline, hlines, hqueue, -, hrest⟩ := h
  exact ⟨hhost, hbus, hline, hlines, hqueue, rfl, hrest⟩

theorem State.DrainIssuedIn.setEngine {e : ParkEntry} {retried : Bool} (h : s.DrainIssuedIn u e retried) (x : Engine) :
    (s.setEngine x).DrainIssuedIn (u.setEngine x) e retried := by
  obtain ⟨hpark, hbus, hlines, hqueue, -, hrest⟩ := h
  exact ⟨hpark, hbus, hlines, hqueue, rfl, hrest⟩

theorem State.RetiredIn.setEngine (h : s.RetiredIn u r) (e : Engine) : (s.setEngine e).RetiredIn (u.setEngine e) r := by
  obtain ⟨hregion, hregions, hlines, hqueue, -, hrest⟩ := h
  exact ⟨hregion, hregions, hlines, hqueue, rfl, hrest⟩

theorem State.FoldBackIn.setEngine (h : s.FoldBackIn u r) (e : Engine) : (s.setEngine e).FoldBackIn (u.setEngine e) r := by
  obtain ⟨hnot, hfolds, hends⟩ := h
  refine ⟨fun hready => congrArg (State.setEngine · e) (hnot hready), fun hready hlines => ?_, fun hready hnone => ?_⟩
  · obtain ⟨x, hx, hu⟩ := hfolds hready hlines
    exact ⟨x, hx, congrArg (State.setEngine · e) hu⟩
  · exact (hends hready hnone).setEngine e

theorem State.heldNoted_setEngine (s : State) (r : RegionIx) (e : Engine) :
    (s.heldNoted r).setEngine e = (s.setEngine e).heldNoted r := by
  unfold State.heldNoted
  dsimp only
  split
  · next h => exact (if_pos h).symm
  · next h => exact (if_neg h).symm

/-! ### A copy's write answered OKAY (R74, R79) -/

/-- The line that a copy was for, current in the copy's destination and no longer busy. -/
def State.copied (s : State) (y : Copy) : State :=
  (s.modLine y.line fun e => { e with stale := e.stale.set false y.dest }).clearBusy y.line

theorem State.lineSet_copied (s : State) (y : Copy) (h : y.line < 2048) :
    s.LineSet (s.copied y).catchup y.line
      { s.line y.line with stale := (s.line y.line).stale.set false y.dest, busy := false } := by
  intro j
  have hfirst := s.lineSet_modLine (fun e => { e with stale := e.stale.set false y.dest }) h
  have hsecond := (s.modLine y.line fun e => { e with stale := e.stale.set false y.dest }).lineSet_modLine
    (fun e => { e with busy := false }) h
  refine (hsecond j).trans ?_
  split
  · next hj =>
    have hline := hfirst y.line
    rw [if_pos rfl] at hline
    exact congrArg (fun e : LineEntry => { e with busy := false }) hline
  · next hj => exact (hfirst j).trans (if_neg hj)

theorem State.copyApplies_iff : s.copyApplies y = true ↔ s.Applies y := by
  unfold State.copyApplies State.Applies
  split
  · next h => simp [h, Phase.working_iff]
  · next h => simp [h]

theorem State.copyDone_fill (hkind : y.kind = .fill) (hwork : s.phase y.region = .opened ∨ s.phase y.region = .pending) :
    s.copyDone y = (((s.copied y).lineCurrent y.region y.line).setEngine .idle).engineTake := by
  unfold State.copyDone
  rw [if_pos (State.copyApplies_iff.mpr (.inl ⟨hkind, hwork⟩)), hkind]
  rfl

theorem State.copyDone_fold (hkind : y.kind = .fold) (hphase : s.phase y.region = .retiring) :
    s.copyDone y = (((s.copied y).foldReport y.region true).setEngine .idle).engineTake := by
  unfold State.copyDone
  rw [if_pos (State.copyApplies_iff.mpr (.inr ⟨hkind, hphase⟩)), hkind]
  rfl

/-- A FILL whose region has left OPEN and PENDING. -/
theorem State.not_applies_fill (hkind : y.kind = .fill) (hphase : s.phase y.region = .faulted ∨ s.phase y.region = .retiring) :
    ¬s.Applies y := by
  rintro (⟨-, h | h⟩ | ⟨h, -⟩)
  · rcases hphase with hp | hp <;> cases hp.symm.trans h
  · rcases hphase with hp | hp <;> cases hp.symm.trans h
  · cases hkind.symm.trans h

theorem State.copyDone_late (h : ¬s.Applies y) :
    s.copyDone y = ((((s.clearBusy y.line).foldBack y.region)).setEngine .idle).engineTake := by
  unfold State.copyDone
  rw [if_neg (mt State.copyApplies_iff.mp h)]
  rfl

/-- While the engine is at work the fold-back is queued and no entry taken. -/
theorem State.foldBack_of_busy (h : s.catchup.engine ≠ .idle) : s.foldBack r = s.foldQueued r := by
  rw [State.foldBack_eq (.inl (.inl h)), State.engineTake_of_busy]
  unfold State.foldQueued
  split
  · unfold State.endIfFolded
    split
    · rw [(State.catchup_retirementEnd _ r).2]
      exact h
    · exact h
  · exact h

theorem State.foldBack_of_ne (h : s.phase r ≠ .retiring) : s.foldBack r = s := by
  rw [State.foldBack, if_neg (mt State.foldReady_iff.mp fun hready => h hready.1)]

/-- One fold of several is counted, and the last one ends the retirement (R129, R130). -/
theorem State.foldReport_eq (s : State) (r : RegionIx) (folded : Bool) (hstage : (s.region r).life.stage = .folding)
    (f : Lifecycle → Lifecycle)
    (hf : f = fun x =>
      { x with
        foldsOutstanding := x.foldsOutstanding - 1
        linesFolded := if folded then x.linesFolded + 1 else x.linesFolded
        linesUnfolded := if folded then x.linesUnfolded else x.linesUnfolded + 1 }) :
    (2 ≤ (s.region r).life.foldsOutstanding → s.foldReport r folded = s.modLife r f) ∧
      ((s.region r).life.foldsOutstanding = 1 → s.foldReport r folded = (s.modLife r f).retirementEnd r) := by
  subst hf
  have hregion := s.region_modRegion_self r fun g =>
    { g with
      life :=
        { g.life with
          foldsOutstanding := g.life.foldsOutstanding - 1
          linesFolded := if folded then g.life.linesFolded + 1 else g.life.linesFolded
          linesUnfolded := if folded then g.life.linesUnfolded else g.life.linesUnfolded + 1 } }
  refine ⟨fun hmany => ?_, fun hlast => ?_⟩
  · rw [State.foldReport, State.endIfFolded, State.modLife, hregion]
    refine if_neg ?_
    simp [hstage]
    omega
  · rw [State.foldReport, State.endIfFolded, State.modLife, hregion]
    refine if_pos ?_
    simp [hstage, hlast]

end

end Sys2Proof.Machine


/-! SUPPORT. The copy completed settled: what waits for its line, what its region's phase owes, and a FOLD counted
(R33, R74, R79, R82, R98, R128 to R130). -/

namespace Sys2Proof.Machine

set_option Elab.async false

section
variable {s u : State} {r : RegionIx} {ix : Nat}

/-! ### What waits for a line (R82) -/

theorem State.headWaitsForLine_eq_false
    (h : ∀ d : Decision, s.host.head = some ⟨.waitLine, some d⟩ → d.line ≠ some ix) : s.headWaitsForLine ix = false := by
  unfold State.headWaitsForLine
  split
  · next d hhead => exact beq_eq_false_iff_ne.mpr (h d hhead)
  · rfl

theorem State.drainWaitsForLine_eq_false
    (h : ∀ k retried, s.park.slot = .waiting k retried → (s.config k.region).lineBase + k.word / 16 ≠ ix) :
    s.drainWaitsForLine r ix = false := by
  unfold State.drainWaitsForLine
  split
  · next k x hslot =>
    rw [Bool.and_eq_false_iff]
    by_cases hr : k.region = r
    · subst hr
      exact .inr (beq_eq_false_iff_ne.mpr (h k x hslot))
    · exact .inl (beq_eq_false_iff_ne.mpr hr)
  · rfl

theorem State.lineCurrent_of_noneWaits (h : s.NoneWaits ix) : s.lineCurrent r ix = s.evaluate r := by
  rw [State.lineCurrent, State.releaseWrites, State.headWaitsForLine_eq_false h.1]
  simp only [State.drainWaitsForLine_eq_false h.2, Bool.false_eq_true, if_false]

theorem State.lineCurrent_head (hhead : s.headWaitsForLine ix = true)
    (hdrain : (s.issueHost r).drainWaitsForLine r ix = false) :
    s.lineCurrent r ix = (s.issueHost r).evaluate r := by
  rw [State.lineCurrent, State.releaseWrites, hhead]
  simp only [if_true, hdrain, Bool.false_eq_true, if_false]

theorem State.lineCurrent_drain (hhead : s.headWaitsForLine ix = false) (hdrain : s.drainWaitsForLine r ix = true) :
    s.lineCurrent r ix = s.drainRelease.evaluate r := by
  rw [State.lineCurrent, State.releaseWrites, hhead]
  simp only [Bool.false_eq_true, if_false, hdrain, if_true]

theorem State.drainWaitsForLine_entry {e : ParkEntry} {retried : Bool} (h : s.park.slot = .waiting e.key retried) :
    s.drainWaitsForLine e.region (s.lineOfEntry e) = true := by
  rw [State.drainWaitsForLine, h]
  exact Bool.and_eq_true_iff.mpr ⟨beq_self_eq_true _, beq_self_eq_true _⟩

/-- A drain write just issued counts, so the draft is not complete. -/
theorem State.DrainIssuedIn.not_draftComplete {e : ParkEntry} {retried : Bool} (h : s.DrainIssuedIn u e retried) :
    ¬u.DraftComplete e.region := by
  obtain ⟨-, -, -, -, -, hregions, -⟩ := h
  rintro ⟨-, hflight, -⟩
  have hregion : u.region e.region =
      { s.region e.region with
        run :=
          { s.run e.region with
            inFlight := (s.run e.region).inFlight + 1
            dirtyLines :=
              if (s.line (s.lineOfEntry e)).dirty then (s.run e.region).dirtyLines
              else (s.run e.region).dirtyLines + 1 } } := by
    rw [State.region, hregions]
    exact s.region_modRegion_self e.region fun _ => _
  rw [State.run, hregion] at hflight
  cases hflight

/-! ### The copy completed -/

variable {y : Copy} {retried : Bool} {words : List Word}

theorem exec_copyDone {n : Nat} (hengine : s.catchup.engine = .writing y retried words)
    (hflight : s.InFlight .catchup .write n) (hrestart : s.NoRestart) :
    exec (.memoryAnswer (.okay [])) s = .next ((s.setBus { s.bus with port := .idle }).copyDone y).grantNext := by
  have hover : (s.setBus { s.bus with port := .idle }).handOver .catchup (.okay []) =
      (s.setBus { s.bus with port := .idle }).copyDone y :=
    State.deliverCatchup_written (s := s.setBus { s.bus with port := .idle }) hengine []
  rw [exec_answer_write hflight, State.endTransaction_eq, hover]
  rw [hover, State.NoRestart, State.link_copyDone]
  exact hrestart

/-- Settles O49. -/
theorem copyCompleted : Obligations.CopyCompleted := by
  intro s y retried words n hengine hflight hareas hline hrestart c r old life
  have hlt := hline.lt hareas
  let s₀ := s.setBus { s.bus with port := .idle }
  have hexec : exec c s = .next (s₀.copyDone y).grantNext := exec_copyDone hengine hflight hrestart
  refine ⟨(s₀.copied y).catchup, (s₀.clearBusy y.line).catchup, s₀.lineSet_copied y hlt,
    s₀.lineSet_modLine (fun e => { e with busy := false }) hlt, rfl, rfl, ?_⟩
  intro ends done
  have hdone : done = (s₀.copied y).setEngine .idle := rfl
  have hlate : ends (s₀.clearBusy y.line).catchup = (s₀.clearBusy y.line).setEngine .idle := rfl
  have hfill (hkind : y.kind = .fill) (hwork : s.phase r = .opened ∨ s.phase r = .pending) :
      exec c s = .next (((s₀.copied y).lineCurrent r y.line).setEngine .idle).engineTake.grantNext := by
    rw [hexec, State.copyDone_fill (s := s₀) hkind hwork]
  have hfree (hkind : y.kind = .fill) (hwork : s.phase r = .opened ∨ s.phase r = .pending) (hwaits : s.NoneWaits y.line) :
      exec c s = .next (((s₀.copied y).evaluate r).setEngine .idle).engineTake.grantNext := by
    rw [hfill hkind hwork, State.lineCurrent_of_noneWaits (s := s₀.copied y) hwaits]
  have hcurrent (hdest : y.dest = (s.run r).draftBank) :
      ((s₀.copied y).line y.line).stale.get (s.run r).draftBank = false := by
    have hset : (s₀.copied y).line y.line = _ := (s₀.lineSet_copied y hlt y.line).trans (if_pos rfl)
    rw [hset, ← hdest]
    exact (PerBank.get_set ..).trans (if_pos rfl)
  refine ⟨fun hkind hwaits => ⟨fun hphase => ?_, fun hphase hcomplete hbank => ?_, fun hphase hcomplete hbank => ?_,
    fun hphase => ?_⟩, ?_, ?_, fun hkind hphase => ?_, ?_⟩
  · have hwork : s.phase r = .opened ∨ s.phase r = .pending := hphase.imp_right And.left
    have hevaluate : (s₀.copied y).evaluate r = s₀.copied y :=
      State.evaluate_of_incomplete fun hp => (hphase.resolve_left fun ho => by cases ho.symm.trans hp).2
    refine .of_exec ?_
    rw [hfree hkind hwork hwaits, hevaluate]
    rfl
  · refine ⟨_, hfree hkind (.inr hphase) hwaits, ?_⟩
    rw [State.evaluate_publishes (s := s₀.copied y) hphase hcomplete hbank]
    have hregions : (((s₀.copied y).publish r).setEngine .idle).engineTake.grantNext.regions =
        ((s₀.copied y).publish r).regions := by
      rw [(State.grantNext_frame _).1, State.regions_engineTake]
      rfl
    show (State.run _ r).frame = _
    rw [State.run_congr hregions]
    exact State.frame_publish hcomplete.2.1
  · refine .of_exec ?_
    rw [hfree hkind (.inr hphase) hwaits, State.evaluate_held (s := s₀.copied y) hphase hcomplete hbank,
      State.heldNoted_setEngine]
    rfl
  · refine .of_exec ?_
    rw [hexec, State.copyDone_late (s := s₀) (State.not_applies_fill hkind (.inl hphase)),
      State.foldBack_of_ne (s := s₀.clearBusy y.line), hlate]
    show s.phase r ≠ .retiring
    rw [hphase]
    nofun
  · intro hkind hwork hdest q rest d hwindow hqueue hhead hcls hreg hview hdline hix hcommit hslot
    have hsound := hareas.1 r hwindow.1
    have hissued : (s₀.copied y).IssuedIn ((s₀.copied y).issueHost r) r q rest :=
      State.issuedIn_issueHost hqueue hhead hcls hreg hview hcommit hsound (hwindow.line_lt hsound) hwork
    have hwaits : (s₀.copied y).headWaitsForLine y.line = true := by
      show s.headWaitsForLine y.line = true
      rw [State.headWaitsForLine, hhead]
      exact beq_iff_eq.mpr hdline
    have hpark : ((s₀.copied y).issueHost r).park = s.park := hissued.2.2.2.2.2.2.2.2.1
    have hdrain : ((s₀.copied y).issueHost r).drainWaitsForLine r y.line = false :=
      State.drainWaitsForLine_of_ne (by rwa [hpark])
    refine ⟨((s₀.copied y).issueHost r).setEngine .idle, .of_exec ?_, hissued.setEngine .idle⟩
    rw [hfill hkind hwork, State.lineCurrent_head hwaits hdrain,
      State.evaluate_of_incomplete fun _ => hissued.not_draftComplete hwork]
  · intro hkind hwork hdest hfreeHead e retried' hslot hsound hmem helig hrange hregion hix
    have hdrains : (s₀.copied y).drainWaitsForLine r y.line = true := by
      rw [← hregion, ← hix]
      exact State.drainWaitsForLine_entry (s := s₀.copied y) hslot
    have hlines : exec c s = .next (((s₀.copied y).drainRelease.evaluate r).setEngine .idle).engineTake.grantNext := by
      rw [hfill hkind hwork, State.lineCurrent_drain (State.headWaitsForLine_eq_false (s := s₀.copied y) hfreeHead) hdrains]
    have hstale : ¬(s₀.copied y).EntryStale e := by
      intro hst
      have hcur := hcurrent hdest
      rw [← hix, ← hregion] at hcur
      exact Bool.false_ne_true (hcur.symm.trans hst)
    refine ⟨fun hheld => ?_, fun hheld => ?_⟩
    · have hissued := State.drainIssuedIn_issueDrain (s := s₀.copied y) (hsound.parked hmem) hrange retried'
      refine ⟨((s₀.copied y).issueDrain e.key retried').setEngine .idle, .of_exec ?_, hissued.setEngine .idle⟩
      rw [hlines, State.drainRelease_ready (s := s₀.copied y) hslot (State.drainReady_iff.mpr ⟨hstale, hheld, hrestart⟩),
        State.evaluate_of_incomplete fun _ => hregion ▸ hissued.not_draftComplete]
    · have hready : (s₀.copied y).drainReady e.key = false := by
        rw [← Bool.not_eq_true, State.drainReady_iff]
        exact fun h => h.2.1 hheld
      refine .of_exec ?_
      have hevaluate : (s₀.copied y).evaluate r = s₀.copied y :=
        State.evaluate_of_incomplete fun _ h => h.2.2 e hmem hregion (hregion ▸ helig.2)
      rw [hlines, State.drainRelease_stays (s := s₀.copied y) hslot hready, hevaluate]
      rfl
  · refine ⟨((s₀.clearBusy y.line).foldQueued r).setEngine .idle, .of_exec ?_,
      (State.foldBackIn_foldQueued (s₀.clearBusy y.line) r).setEngine .idle⟩
    rw [hexec, State.copyDone_late (s := s₀) (State.not_applies_fill hkind (.inr hphase)),
      State.foldBack_of_busy (s := s₀.clearBusy y.line)]
    show s.catchup.engine ≠ .idle
    rw [hengine]
    nofun
  · intro hkind hphase hstage counted
    obtain ⟨hmany, hlast⟩ := (s₀.copied y).foldReport_eq r true hstage _ rfl
    have hfold := hexec.trans (congrArg (fun t : State => Host.Outcome.next t.grantNext)
      (State.copyDone_fold (s := s₀) hkind hphase))
    refine ⟨fun htwo => .of_exec ?_, fun hone => ?_⟩
    · rw [hfold, hmany htwo]
      rfl
    · have hcount : counted 0 = counted (life.foldsOutstanding - 1) := by rw [hone]
      rw [hcount]
      refine ⟨_, .of_exec (hfold.trans (by rw [hlast hone])), ?_⟩
      exact (State.retiredIn_retirementEnd { s₀.copied y with
        regions := s.regions.set r.val (counted (life.foldsOutstanding - 1)) r.isLt } r).setEngine .idle

end

end Sys2Proof.Machine


/-! SUPPORT. What stays while a region that has left OPEN and PENDING lets go of its parked words, its copies and its
head: the region itself, the views and the link, and, where its lines matter, its lines (R59, R70, R101, R125, R127). -/

namespace Sys2Proof.Machine

set_option Elab.async false

/-! ### Parked words within their windows -/

/-- A key names a word of the window of an active region. -/
def State.Fits (s : State) (k : ParkKey) : Prop :=
  (s.phase k.region).active = true ∧ k.word < (s.config k.region).lines * 16

/-- Each parked word lies in its window, or behind one of its region and frame that does. -/
def State.Led (s : State) : Prop :=
  ∀ before k after, s.parkKeys = before ++ k :: after →
    s.Fits k ∨ ∃ k' ∈ before, k'.region = k.region ∧ k'.frameTag = k.frameTag ∧ s.Fits k'

/-! ### The standing facts -/

/-- What is to stay: a region's record, the views, the link, the notices raised so far, and, where the region's lines
matter, one line of it. -/
structure Still where
  region : RegionIx
  kept : Region
  views : Vector (Option View) 32
  link : Link
  raised : List Notice
  lost : Bool
  fenced : Prop
  line : Option (Nat × LineEntry)

/-- What is said of one line of the region: it stands as it was, no copy of it is queued, and no parked word that the
slot may take is one of it. -/
structure State.Spares (s : State) (r : RegionIx) (ix : Nat) (e : LineEntry) : Prop where
  areas : s.AreasLaw
  active : (s.phase r).active = true
  owns : (s.config r).ownsLine ix = true
  line : s.line ix = e
  queue : ∀ x ∈ s.catchup.queue, x.line ≠ ix
  led : s.Led
  slot : ∀ k x, s.park.slot = .waiting k x → s.Fits k

structure State.Stills (k : Still) (s : State) : Prop where
  kept : s.region k.region = k.kept
  views : s.views = k.views
  link : s.link = k.link
  notices : ∃ l, s.notices.queue = k.raised ++ l
  lost : k.lost = true → s.notices.lost = true
  parked : ∀ e ∈ s.park.entries, e.region ≠ k.region
  fills : k.fenced → s.AreasLaw ∧ (s.phase k.region).active = true ∧
    ∀ e ∈ s.catchup.queue, e.kind = .fill → (s.config k.region).ownsLine e.line = false
  spares : ∀ ix e, k.line = some (ix, e) → s.Spares k.region ix e

section
variable {k : Still} {s t : State} {j : RegionIx}

/-- Lines of two active regions are apart (R121). -/
theorem State.AreasLaw.ownsLine_apart (hareas : s.AreasLaw) {r : RegionIx} (hr : (s.phase r).active = true)
    (hj : (s.phase j).active = true) (hne : j ≠ r) {ix : Nat} (hix : (s.config j).ownsLine ix = true) :
    (s.config r).ownsLine ix = false := by
  have hlines := (configsOverlap_eq_false_iff.mp (hareas.2 r j (Ne.symm hne) hr hj)).2
  simp only [overlaps, RegionConfig.ownsLine, Bool.and_eq_true, Bool.and_eq_false_iff, decide_eq_true_eq,
    decide_eq_false_iff_not] at *
  omega

theorem State.Fits.ownsLine {key : ParkKey} (h : s.Fits key) :
    (s.config key.region).ownsLine ((s.config key.region).lineOfWord key.word) = true := by
  obtain ⟨-, hword⟩ := h
  rw [RegionConfig.ownsLine, RegionConfig.lineOfWord, Bool.and_eq_true]
  exact ⟨decide_eq_true (Nat.le_add_right _ _), decide_eq_true (Nat.add_lt_add_left (by omega) _)⟩

theorem State.fits_congr (hactive : ∀ i, (t.phase i).active = (s.phase i).active) (hconfig : ∀ i, t.config i = s.config i)
    (key : ParkKey) : t.Fits key ↔ s.Fits key := by
  rw [State.Fits, State.Fits, hactive, hconfig]

theorem State.areasLaw_congr (hactive : ∀ i, (t.phase i).active = (s.phase i).active)
    (hconfig : ∀ i, t.config i = s.config i) : t.AreasLaw ↔ s.AreasLaw := by
  simp only [State.AreasLaw, hactive, hconfig]

theorem State.led_congr (hactive : ∀ i, (t.phase i).active = (s.phase i).active)
    (hconfig : ∀ i, t.config i = s.config i) (hkeys : t.parkKeys = s.parkKeys) : t.Led ↔ s.Led := by
  simp only [State.Led, State.fits_congr hactive hconfig, hkeys]

/-- Regions but the one that matters change, staying active or DISABLED with their configurations. -/
theorem State.Stills.regions {x : Vector Region 16} (h : s.Stills k)
    (hkept : ({ s with regions := x } : State).region k.region = s.region k.region)
    (hactive : ∀ i, (({ s with regions := x } : State).phase i).active = (s.phase i).active)
    (hconfig : ∀ i, ({ s with regions := x } : State).config i = s.config i) : ({ s with regions := x } : State).Stills k := by
  refine ⟨hkept.trans h.kept, h.views, h.link, h.notices, h.lost, h.parked, fun hf => ?_, fun ix e hline => ?_⟩
  · obtain ⟨hareas, hact, hfills⟩ := h.fills hf
    rw [State.areasLaw_congr hactive hconfig, hactive, hconfig]
    exact ⟨hareas, hact, hfills⟩
  · obtain ⟨hareas, hact, howns, hl, hq, hled, hslot⟩ := h.spares ix e hline
    refine ⟨(State.areasLaw_congr hactive hconfig).mpr hareas, (hactive _).trans hact, (by rw [hconfig]; exact howns), hl, hq,
      (State.led_congr hactive hconfig rfl).mpr hled, fun key x hx => (State.fits_congr hactive hconfig key).mpr (hslot key x hx)⟩

theorem State.Stills.modRegion_ne (h : s.Stills k) (hj : j ≠ k.region) {f : Region → Region}
    (hconfig : (f (s.region j)).config = s.config j)
    (hactive : (f (s.region j)).run.phase.active = (s.phase j).active) : (s.modRegion j f).Stills k := by
  have hread (i : RegionIx) : (s.modRegion j f).config i = s.config i ∧
      ((s.modRegion j f).phase i).active = (s.phase i).active := by
    by_cases hi : i = j
    · subst hi
      rw [State.config, State.phase, State.region_modRegion_self]
      exact ⟨hconfig, hactive⟩
    · rw [State.config, State.phase, State.region_modRegion_ne s hi]
      exact ⟨rfl, rfl⟩
  exact h.regions (State.region_modRegion_ne s hj.symm f) (fun i => (hread i).2) fun i => (hread i).1

theorem State.Stills.modCounters_ne (h : s.Stills k) (hj : j ≠ k.region) (f : Counters → Counters) :
    (s.modCounters j f).Stills k := h.modRegion_ne hj rfl rfl

theorem State.Stills.modRun_ne (h : s.Stills k) (hj : j ≠ k.region) {f : Runtime → Runtime}
    (hactive : (f (s.run j)).phase.active = (s.phase j).active) : (s.modRun j f).Stills k := h.modRegion_ne hj rfl hactive

theorem NoticeUnit.raised_grows (u : NoticeUnit) (mask : BitVec 16) (n : Notice) :
    (∃ l, (u.raised mask n).queue = u.queue ++ l) ∧ (u.lost = true → (u.raised mask n).lost = true) := by
  unfold NoticeUnit.raised
  split
  · exact ⟨⟨[], (List.append_nil _).symm⟩, id⟩
  · split
    · exact ⟨⟨[n], rfl⟩, id⟩
    · exact ⟨⟨[], (List.append_nil _).symm⟩, fun _ => rfl⟩

theorem State.Stills.raiseNotice (h : s.Stills k) (i : RegionIx) (x : NoticeKind) (tag : Option Tag) (d : BitVec 16) :
    (s.raiseNotice i x tag d).Stills k := by
  rw [State.raiseNotice_eq]
  obtain ⟨⟨l, hl⟩, hlost⟩ := s.notices.raised_grows (s.config i).noticeMask (s.noticeOf i x tag d)
  obtain ⟨l', hl'⟩ := h.notices
  exact ⟨h.kept, h.views, h.link, ⟨l' ++ l, hl.trans (by rw [hl', List.append_assoc])⟩, fun hk => hlost (h.lost hk),
    h.parked, h.fills, fun ix e hline => ⟨(h.spares ix e hline).areas, (h.spares ix e hline).active,
      (h.spares ix e hline).owns, (h.spares ix e hline).line, (h.spares ix e hline).queue, (h.spares ix e hline).led,
      (h.spares ix e hline).slot⟩⟩

/-! ### The catch-up unit -/

/-- The catch-up unit changes: FILL entries and entries of the line that matters join not, and that line stays. -/
theorem State.Stills.setCatchup {x : Catchup} (h : s.Stills k)
    (hfills : k.fenced → ∀ e ∈ x.queue, e.kind = .fill →
      e ∈ s.catchup.queue ∨ (s.config k.region).ownsLine e.line = false)
    (hline : ∀ ix e, k.line = some (ix, e) →
      (s.setCatchup x).line ix = s.line ix ∧ ∀ y ∈ x.queue, y ∈ s.catchup.queue ∨ y.line ≠ ix) :
    (s.setCatchup x).Stills k := by
  refine ⟨h.kept, h.views, h.link, h.notices, h.lost, h.parked, fun hf => ?_, fun ix e hl => ?_⟩
  · obtain ⟨hareas, hact, hold⟩ := h.fills hf
    exact ⟨hareas, hact, fun e he hkind => (hfills hf e he hkind).elim (fun hmem => hold e hmem hkind) id⟩
  · obtain ⟨hareas, hact, howns, hent, hq, hled, hslot⟩ := h.spares ix e hl
    obtain ⟨hsame, hqueue⟩ := hline ix e hl
    exact ⟨hareas, hact, howns, hsame.trans hent, fun y hy => (hqueue y hy).elim (hq y) id, hled, hslot⟩

/-- The bus, the host port and the clock do not bear on what stays. -/
theorem State.Stills.setBus (h : s.Stills k) (x : MemoryBus) : (s.setBus x).Stills k :=
  ⟨h.kept, h.views, h.link, h.notices, h.lost, h.parked, h.fills, fun ix e hl =>
    have g := h.spares ix e hl
    ⟨g.areas, g.active, g.owns, g.line, g.queue, g.led, g.slot⟩⟩

theorem State.Stills.setHost (h : s.Stills k) (x : HostPort) : (s.setHost x).Stills k :=
  ⟨h.kept, h.views, h.link, h.notices, h.lost, h.parked, h.fills, fun ix e hl =>
    have g := h.spares ix e hl
    ⟨g.areas, g.active, g.owns, g.line, g.queue, g.led, g.slot⟩⟩

theorem State.Stills.engineTake (h : s.Stills k) : s.engineTake.Stills k := by
  unfold State.engineTake
  split
  · next e rest _ hqueue =>
    split
    · exact h
    · next r _ =>
      have htail : ∀ y ∈ rest, y ∈ s.catchup.queue := fun y hy => hqueue ▸ List.mem_cons_of_mem _ hy
      have hnext : ((s.setQueue rest).modLine e.line fun x => { x with queued := false, busy := true }).Stills k := by
        refine h.setCatchup (x := ((s.setQueue rest).modLine e.line fun x => { x with queued := false, busy := true }).catchup)
          (fun _ y hy _ => .inl (htail y hy)) fun ix x hl => ⟨?_, fun y hy => .inl (htail y hy)⟩
        have hne : e.line ≠ ix := (h.spares ix x hl).queue e (hqueue ▸ List.mem_cons_self)
        refine (State.line_modLines_eq (s.setQueue rest) _ ix).trans ?_
        rw [if_neg (Ne.symm hne), ite_self]
        rfl
      have hengine : (((s.setQueue rest).modLine e.line fun x => { x with queued := false, busy := true }).setEngine
          (.reading (s.resolveCopy e r) false)).Stills k :=
        hnext.setCatchup (fun _ y hy _ => .inl hy) fun ix x hl => ⟨rfl, fun y hy => .inl hy⟩
      exact hengine.setBus _
  · exact h

/-- Entries of lines of another active region join the queue. -/
theorem State.Stills.appendLines_ne (h : s.Stills k) (kind : CopyKind) {l : List Nat} (hj : j ≠ k.region)
    (hactive : (s.phase j).active = true) (hl : ∀ ix ∈ l, (s.config j).ownsLine ix = true) :
    (s.appendLines kind l).Stills k := by
  refine State.Stills.engineTake (h.setCatchup (x := (s.appended kind l).catchup) (fun hf e he _ => ?_) fun ix x hline => ?_)
  · obtain ⟨hareas, hact, -⟩ := h.fills hf
    refine (List.mem_append.mp he).imp_right fun hnew => ?_
    obtain ⟨ix, hix, rfl⟩ := List.mem_map.mp hnew
    exact hareas.ownsLine_apart hact hactive hj (hl ix hix)
  · have g := h.spares ix x hline
    have hnot : ix ∉ l := fun hmem =>
      Bool.false_ne_true ((g.areas.ownsLine_apart g.active hactive hj (hl ix hmem)).symm.trans g.owns)
    refine ⟨?_, fun y hy => (List.mem_append.mp hy).imp_right fun hnew => ?_⟩
    · refine (State.line_modLines_eq (s.setQueue _) _ ix).trans ?_
      simp only [List.contains_iff_mem, hnot, if_false, ite_self]
      rfl
    · obtain ⟨i, hi, rfl⟩ := List.mem_map.mp hnew
      rintro rfl
      exact hnot hi

theorem mem_promoteIn {q : List CatchEntry} {ix : Nat} {e : CatchEntry} (h : e ∈ promoteIn q ix) : e ∈ q := by
  unfold promoteIn at h
  split at h
  · exact h
  · next x hx =>
    rcases List.mem_cons.mp h with rfl | hmem
    · exact List.mem_of_find?_eq_some hx
    · exact List.mem_of_mem_eraseP hmem

theorem State.Stills.promote (h : s.Stills k) (ix : Nat) : (s.promote ix).Stills k :=
  State.Stills.engineTake (h.setCatchup (x := (s.setQueue (promoteIn s.catchup.queue ix)).catchup)
    (fun _ _ he _ => .inl (mem_promoteIn he)) fun _ _ _ => ⟨rfl, fun _ hy => .inl (mem_promoteIn hy)⟩)

/-- Lines of another active region change. -/
theorem State.Stills.modRange_ne (h : s.Stills k) (hj : j ≠ k.region) (hactive : (s.phase j).active = true)
    (f : LineEntry → LineEntry) : (s.modRange (s.config j) f).Stills k := by
  refine h.setCatchup (fun _ y hy _ => .inl hy) fun ix x hl => ⟨?_, fun y hy => .inl hy⟩
  have g := h.spares ix x hl
  have hnot : (s.config j).ownsLine ix = false := by
    rw [← Bool.not_eq_true]
    intro hown
    exact Bool.false_ne_true ((g.areas.ownsLine_apart g.active hactive hj hown).symm.trans g.owns)
  refine (State.line_modLines_eq s _ ix).trans ?_
  simp only [hnot, Bool.false_eq_true, if_false, ite_self]

theorem State.Stills.modLine_ne (h : s.Stills k) {i : Nat} (f : LineEntry → LineEntry)
    (hne : ∀ ix e, k.line = some (ix, e) → i ≠ ix) : (s.modLine i f).Stills k := by
  refine h.setCatchup (fun _ y hy _ => .inl hy) fun ix x hl => ⟨?_, fun y hy => .inl hy⟩
  refine (State.line_modLines_eq s _ ix).trans ?_
  rw [if_neg (Ne.symm (hne ix x hl)), ite_self]

end

end Sys2Proof.Machine


/-! SUPPORT. The drain slot, the triggers and the publications of other regions leave what is to stay (R59, R70, R101). -/

namespace Sys2Proof.Machine

set_option Elab.async false

section
variable {k : Still} {s t : State} {j : RegionIx}

/-! ### The Park Queue and its slot -/

/-- The Park Queue changes: no word of the region joins, each parked word stays in its window or behind one that
does, and a waiting slot names a word of a window. -/
theorem State.Stills.setPark {p : ParkQueue} (h : s.Stills k) (hparked : ∀ e ∈ p.entries, e.region ≠ k.region)
    (hline : k.line.isSome = true → (s.setPark p).Led ∧ ∀ key x, p.slot = .waiting key x → s.Fits key) :
    (s.setPark p).Stills k := by
  refine ⟨h.kept, h.views, h.link, h.notices, h.lost, hparked, h.fills, fun ix e hl => ?_⟩
  obtain ⟨hareas, hact, howns, hent, hq, -, -⟩ := h.spares ix e hl
  obtain ⟨hled, hslot⟩ := hline (by rw [hl]; rfl)
  exact ⟨hareas, hact, howns, hent, hq, hled, hslot⟩

theorem State.Stills.led (h : s.Stills k) (hline : k.line.isSome = true) : s.Led := by
  obtain ⟨⟨ix, e⟩, hl⟩ := Option.isSome_iff_exists.mp hline
  exact (h.spares ix e hl).led

theorem State.Stills.slotFits (h : s.Stills k) (hline : k.line.isSome = true) {key : ParkKey} {x : Bool}
    (hslot : s.park.slot = .waiting key x) : s.Fits key := by
  obtain ⟨⟨ix, e⟩, hl⟩ := Option.isSome_iff_exists.mp hline
  exact (h.spares ix e hl).slot key x hslot

theorem State.Stills.setSlot (h : s.Stills k) {d : DrainSlot}
    (hslot : k.line.isSome = true → ∀ key x, d = .waiting key x → s.Fits key) : (s.setSlot d).Stills k :=
  h.setPark h.parked fun hline => ⟨h.led hline, hslot hline⟩

theorem State.Stills.modEntry (h : s.Stills k) (key : ParkKey) {f : ParkEntry → ParkEntry} (hf : ∀ e, (f e).key = e.key) :
    (s.modEntry key f).Stills k := by
  refine h.setPark (fun e he => ?_) fun hline => ⟨?_, fun key' x hslot => h.slotFits hline hslot⟩
  · obtain ⟨x, hx, rfl⟩ := List.mem_map.mp he
    have hregion : (if (x.key == key) = true then f x else x).region = x.region := by
      split
      · exact congrArg ParkKey.region (hf x)
      · rfl
    rw [hregion]
    exact h.parked x hx
  · exact (State.led_congr (s := s) (t := s.modEntry key f) (fun _ => rfl) (fun _ => rfl) (State.keys_modEntry hf)).mpr (h.led hline)

/-- A write of a word of another region's window is counted. -/
theorem State.Stills.countIssue_ne (h : s.Stills k) (hj : j ≠ k.region) {i : Nat}
    (hne : ∀ ix e, k.line = some (ix, e) → i ≠ ix) : (s.countIssue j i).Stills k := by
  have hmark : (s.markDirty j i).Stills k := by
    unfold State.markDirty
    split
    · exact h
    · exact (h.modLine_ne _ hne).modRun_ne hj rfl
  exact hmark.modRun_ne hj rfl

theorem State.Stills.line_ne (h : s.Stills k) {key : ParkKey} (hkey : key.region ≠ k.region)
    (hfits : k.line.isSome = true → s.Fits key) (ix : Nat) (e : LineEntry) (hl : k.line = some (ix, e)) :
    (s.config key.region).lineOfWord key.word ≠ ix := by
  have hfit := hfits (by rw [hl]; rfl)
  have g := h.spares ix e hl
  rintro rfl
  exact Bool.false_ne_true ((g.areas.ownsLine_apart g.active hfit.1 hkey hfit.ownsLine).symm.trans g.owns)

theorem State.Stills.issueDrain (h : s.Stills k) (key : ParkKey) (x : Bool)
    (hfits : k.line.isSome = true → s.Fits key) : (s.issueDrain key x).Stills k := by
  unfold State.issueDrain
  split
  · exact h.setSlot fun _ _ _ hd => by cases hd
  · next e hparked =>
    have hkey : key.region ≠ k.region := by
      have hmem := List.mem_of_find?_eq_some hparked
      have hsame : e.key = key := by simpa using List.find?_some hparked
      rw [← hsame]
      exact h.parked e hmem
    have hcount := (h.setBus { s.bus with drainReq := some (s.drainAccess e) }).countIssue_ne hkey
      (h.line_ne hkey hfits)
    exact (hcount.modEntry key (f := fun e => { e with changed := false }) fun _ => rfl).setSlot
      fun _ _ _ hd => by cases hd

theorem State.Stills.drainTry (h : s.Stills k) (key : ParkKey) (x : Bool)
    (hfits : k.line.isSome = true → s.Fits key) : (s.drainTry key x).Stills k := by
  have hslot : (s.setSlot (.waiting key x)).Stills k := h.setSlot fun hline key' x' hd => by
    cases hd
    exact hfits hline
  unfold State.drainTry
  dsimp only
  split
  · exact hslot.issueDrain key x hfits
  · split
    · exact hslot.promote _
    · exact hslot

theorem State.Led.fits_next (h : s.Led) {e : ParkEntry} (hfind : s.park.entries.find? s.eligible = some e) :
    s.Fits e.key := by
  obtain ⟨helig, before, after, hsplit, hbefore⟩ := List.find?_eq_some_iff_append.mp hfind
  obtain hfit | ⟨key, hkey, hregion, htag, -⟩ := h (before.map ParkEntry.key) e.key (after.map ParkEntry.key) (by
    rw [State.parkKeys, hsplit, List.map_append, List.map_cons])
  · exact hfit
  · obtain ⟨x, hx, rfl⟩ := List.mem_map.mp hkey
    have hsame : s.eligible x = s.eligible e := by
      have hr : x.region = e.region := hregion
      have ht : x.frameTag = e.frameTag := htag
      rw [State.eligible, State.eligible, hr, ht]
    have hnot := hbefore x hx
    rw [hsame, helig] at hnot
    cases hnot

theorem State.Stills.drainNext (h : s.Stills k) : s.drainNext.Stills k := by
  unfold State.drainNext
  split
  · split
    · exact h
    · split
      · exact h
      · next e hfind => exact h.drainTry e.key false fun hline => (h.led hline).fits_next hfind
  · exact h

theorem State.Stills.drainRelease (h : s.Stills k) : s.drainRelease.Stills k := by
  unfold State.drainRelease
  split
  · next key x hslot =>
    split
    · exact h.issueDrain key x fun hline => h.slotFits hline hslot
    · exact h
  · exact h

/-! ### The triggers and publications of other regions -/

theorem State.Stills.chargeEmpty_ne (h : s.Stills k) (hj : j ≠ k.region) (x : Source) : (s.chargeEmpty j x).Stills k :=
  (h.modCounters_ne hj _).raiseNotice ..

theorem State.Stills.chargeMerged_ne (h : s.Stills k) (hj : j ≠ k.region) (x : Source) : (s.chargeMerged j x).Stills k :=
  (h.modCounters_ne hj _).raiseNotice ..

theorem State.Stills.noteHeld_ne (h : s.Stills k) (hj : j ≠ k.region) : (s.noteHeld j).Stills k := by
  unfold State.noteHeld
  split
  · exact h
  · exact ((h.modRun_ne hj rfl).modCounters_ne hj _).raiseNotice ..

theorem State.Stills.waitNoted_ne (h : s.Stills k) (hj : j ≠ k.region) : (s.waitNoted j).Stills k := by
  unfold State.waitNoted
  split
  · exact h.noteHeld_ne hj
  · exact h

theorem State.Stills.publishCore_ne (h : s.Stills k) (hj : j ≠ k.region) (hactive : (s.phase j).active = true) :
    (s.publishCore j).Stills k := by
  let s₁ := s.modRun j fun t => t.published (s.viewed j (s.run j).liveBank)
  have h₁ : s₁.Stills k := h.modRun_ne hj (by rw [hactive]; rfl)
  have hact₁ : (s₁.phase j).active = true := by
    rw [State.phase_modRun_self]
    rfl
  have hrange : (s₁.modRange (s.config j) (LineEntry.published (s.run j).draftBank)).Stills k := by
    rw [← s.config_modRun j j fun t => t.published (s.viewed j (s.run j).liveBank)]
    exact h₁.modRange_ne hj hact₁ _
  refine (hrange.appendLines_ne .fill hj hact₁ fun ix hix => ?_).raiseNotice ..
  exact RegionConfig.mem_lineIxs.mp (List.mem_filter.mp hix).1

theorem State.Stills.followOn_ne (h : s.Stills k) (hj : j ≠ k.region) (hactive : (s.phase j).active = true) :
    (s.followOn j).Stills k := by
  have hclear : (s.modRun j fun t => { t with followOn := false }).Stills k := h.modRun_ne hj rfl
  have hactiveClear : ((s.modRun j fun t => { t with followOn := false }).phase j).active = true := by
    rw [State.phase_modRun_self]
    exact hactive
  unfold State.followOn
  split
  · dsimp only
    split
    · exact hclear.chargeEmpty_ne hj _
    · have hpending := hclear.modRun_ne (f := fun t => { t with phase := .pending, followOn := false, heldNotice := false })
        hj (by rw [hactiveClear]; rfl)
      split
      · refine State.Stills.publishCore_ne hpending hj ?_
        rw [State.enterPending, State.phase_modRun_self]
        rfl
      · exact State.Stills.waitNoted_ne hpending hj
  · exact h

theorem State.Stills.publish_ne (h : s.Stills k) (hj : j ≠ k.region) (hactive : (s.phase j).active = true) :
    (s.publish j).Stills k := by
  refine State.Stills.drainNext ((h.publishCore_ne hj hactive).followOn_ne hj ?_)
  rw [State.phase_publishCore]
  rfl

theorem State.Stills.evaluate_ne (h : s.Stills k) (hj : j ≠ k.region) : (s.evaluate j).Stills k := by
  unfold State.evaluate
  split
  · next hp =>
    split
    · exact h.publish_ne hj (by rw [beq_iff_eq.mp hp]; rfl)
    · exact h.waitNoted_ne hj
  · exact h

theorem State.Stills.takeTrigger_ne (h : s.Stills k) (hj : j ≠ k.region) (x : Source) : (s.takeTrigger j x).Stills k := by
  unfold State.takeTrigger
  split
  · next hp =>
    split
    · exact h.chargeEmpty_ne hj x
    · exact State.Stills.evaluate_ne (h.modRun_ne hj (by rw [hp]; rfl)) hj
  · split
    · exact h.chargeMerged_ne hj x
    · exact h.modRun_ne hj rfl
  · exact h

theorem State.Stills.deliver_ne (h : s.Stills k) (hj : j ≠ k.region) (x : Source) : (s.deliver j x).Stills k := by
  unfold State.deliver
  split
  · exact (h.modCounters_ne hj _).takeTrigger_ne hj x
  · exact h

theorem State.Stills.wordTrigger_ne (h : s.Stills k) (hj : j ≠ k.region) (commit : Bool) :
    (s.wordTrigger j commit).Stills k := by
  unfold State.wordTrigger
  split
  · exact h.deliver_ne hj _
  · exact h

/-! ### The head -/

theorem State.Stills.giveResponse (h : s.Stills k) (hview : s.NoViewServes) (hw : s.link.waiting = none)
    (x : HostResponse) : (s.giveResponse x).Stills k := by
  rw [State.giveResponse_eq hview hw]
  exact (h.setHost _).drainRelease

/-- New keys of consecutive words follow the first word, which lies in the window. -/
theorem State.led_append (h : s.Led) {tag : Word} {w n : Nat} (hfirst : s.Fits ⟨j, w, tag⟩) {before after : List ParkKey}
    {key : ParkKey} (hsplit : s.parkKeys ++ s.keysMissing j tag w n = before ++ key :: after) :
    s.Fits key ∨ ∃ k' ∈ before, k'.region = key.region ∧ k'.frameTag = key.frameTag ∧ s.Fits k' := by
  have hnew (as : List ParkKey) (hbefore : before = s.parkKeys ++ as) (hmissing : s.keysMissing j tag w n = as ++ key :: after) :
      s.Fits key ∨ ∃ k' ∈ before, k'.region = key.region ∧ k'.frameTag = key.frameTag ∧ s.Fits k' := by
    by_cases hkey : key = ⟨j, w, tag⟩
    · exact .inl (hkey ▸ hfirst)
    have hmem : key ∈ s.keysMissing j tag w n := hmissing ▸ List.mem_append_right _ List.mem_cons_self
    obtain ⟨word, -, hsame⟩ := List.mem_map.mp (List.mem_filter.mp hmem).1
    refine .inr ⟨⟨j, w, tag⟩, ?_, (congrArg ParkKey.region hsame :), (congrArg ParkKey.frameTag hsame :), hfirst⟩
    rw [hbefore]
    cases n with
    | zero => cases hmem
    | succ n =>
      rw [State.keysMissing, List.range'_succ, List.map_cons, List.filter_cons] at hmissing
      cases hp : s.parked ⟨j, w, tag⟩ with
      | some e => exact List.mem_append_left _ (State.parked_isSome_iff.mp (by rw [hp]; rfl))
      | none =>
        rw [hp, if_pos Option.isNone_none] at hmissing
        refine List.mem_append_right _ ?_
        cases as with
        | nil => exact absurd (List.cons.inj hmissing).1.symm hkey
        | cons a as =>
          rw [List.cons_append] at hmissing
          exact (List.cons.inj hmissing).1 ▸ List.mem_cons_self
  rcases List.append_eq_append_iff.mp hsplit with ⟨as, hbefore, hmissing⟩ | ⟨bs, hold, hrest⟩
  · exact hnew as hbefore hmissing
  · cases bs with
    | nil => exact hnew [] (by rw [hold, List.append_nil, List.append_nil]) (by rw [List.nil_append, hrest, List.nil_append])
    | cons b bs =>
      rw [List.cons_append] at hrest
      obtain ⟨rfl, -⟩ := List.cons.inj hrest
      exact h before key bs hold

/-- Beats of another region's window are placed. -/
theorem State.Stills.placed (h : s.Stills k) (hj : j ≠ k.region) {q : HostRequest} {tag : Word}
    (hfits : k.line.isSome = true → (s.phase j).active = true ∧ (s.config j).firstWord q < (s.config j).lines * 16) :
    (s.placed j q tag).Stills k := by
  have hkeys := s.keys_placeBeats j tag ((s.config j).beatWord q 0) q.data
  rw [State.placed_eq]
  have hkey (e : ParkEntry) (he : e ∈ (s.placed j q tag).park.entries) :
      e.key ∈ s.parkKeys ++ s.keysMissing j tag ((s.config j).beatWord q 0) q.data.length :=
    hkeys ▸ List.mem_map_of_mem he
  refine h.setPark (fun e he => ?_) fun hline => ⟨?_, fun key x hslot => ?_⟩
  · rcases List.mem_append.mp (hkey e he) with hold | hnew
    · obtain ⟨x, hx, hsame⟩ := List.mem_map.mp hold
      have hregion : x.region = e.region := congrArg ParkKey.region hsame
      exact hregion ▸ h.parked x hx
    · obtain ⟨word, -, hsame⟩ := List.mem_map.mp (List.mem_filter.mp hnew).1
      have hregion : j = e.region := congrArg ParkKey.region hsame
      exact hregion ▸ hj
  · obtain ⟨hactive, hword⟩ := hfits hline
    intro before key after hsplit
    exact State.led_append (h.led hline) ⟨hactive, hword⟩ (hkeys.symm.trans hsplit)
  · rw [State.placed, State.slot_placeBeats] at hslot
    exact h.slotFits hline hslot

theorem State.Stills.parkWrite_ne (h : s.Stills k) (hj : j ≠ k.region) (hview : s.NoViewServes)
    (hw : s.link.waiting = none) (timer : Nat)
    (hfits : ∀ q, s.headRequest = some q → k.line.isSome = true →
      (s.phase j).active = true ∧ (s.config j).firstWord q < (s.config j).lines * 16) : (s.parkWrite j timer).Stills k := by
  unfold State.parkWrite
  split
  · next q d hreq _ =>
    dsimp only
    split
    · have hplaced : (s.placed j q (s.parkTag j)).Stills k := h.placed hj (hfits q hreq)
      have hgiven : ((s.placed j q (s.parkTag j)).giveResponse (.okay [])).Stills k := by
        refine hplaced.giveResponse ?_ ?_ _
        · rw [State.placed_eq]
          exact hview
        · rw [State.placed_eq]
          exact hw
      exact (hgiven.wordTrigger_ne hj d.commit).drainNext
    · split
      · exact h.setHost _
      · exact ((h.giveResponse hview hw _).modCounters_ne hj _).raiseNotice ..
  · exact h

theorem State.NoViewWaits.serves {d : Decision} (h : s.NoViewWaits) (hwaits : s.HeadWaits (some d)) : s.NoViewServes := by
  intro x hx
  have hdec : s.decision = some d := by
    obtain hhead | ⟨timer, n, hhead⟩ := hwaits <;> rw [State.decision, hhead] <;> rfl
  exact Option.some.inj (hdec.symm.trans hx) ▸ h d hwaits

/-- A head that waits for park space for another region is evaluated again. -/
theorem State.Stills.reevaluatePark_ne (h : s.Stills k) (hview : s.NoViewWaits) (hw : s.link.waiting = none)
    (hother : s.headWaitsOn k.region = false)
    (hfits : ∀ timer n d i q, s.host.head = some ⟨.waitPark timer n, some d⟩ → d.region = some i → s.headRequest = some q →
      k.line.isSome = true → (s.phase i).active = true ∧ (s.config i).firstWord q < (s.config i).lines * 16) :
    s.reevaluatePark.Stills k := by
  unfold State.reevaluatePark
  split
  · next timer n d hhead =>
    split
    · next i hi =>
      have hne : i ≠ k.region := by
        rintro rfl
        simp [State.headWaitsOn, hhead, hi] at hother
      exact h.parkWrite_ne hne (hview.serves (.inr ⟨timer, n, hhead⟩)) hw timer fun q hq => hfits timer n d i q hhead hi hq
    · exact h
  · exact h

/-! ### The end of a happening -/

theorem State.Stills.engineNext (h : s.Stills k) : s.engineNext.Stills k :=
  State.Stills.engineTake
    (h.setCatchup (x := { s.catchup with engine := .idle }) (fun _ _ he _ => .inl he) fun _ _ _ => ⟨rfl, fun _ hy => .inl hy⟩)

theorem State.Stills.grantNext (h : s.Stills k) : s.grantNext.Stills k := by
  unfold State.grantNext
  split
  · split
    · exact h
    · split
      · exact h
      · exact h.setBus _
  · exact h

/-- The region itself changes, staying active or DISABLED with its configuration. -/
theorem State.Stills.modRegion (h : s.Stills k) (f : Region → Region) (hconfig : (f k.kept).config = k.kept.config)
    (hactive : (f k.kept).run.phase.active = k.kept.run.phase.active) :
    (s.modRegion k.region f).Stills { k with kept := f k.kept } := by
  have hself : (s.modRegion k.region f).region k.region = f k.kept := by rw [State.region_modRegion_self, h.kept]
  have hread (i : RegionIx) : (s.modRegion k.region f).config i = s.config i ∧
      ((s.modRegion k.region f).phase i).active = (s.phase i).active := by
    by_cases hi : i = k.region
    · subst hi
      rw [State.config, State.config, State.phase, State.phase, hself, h.kept]
      exact ⟨hconfig, hactive⟩
    · rw [State.config, State.phase, State.region_modRegion_ne s hi]
      exact ⟨rfl, rfl⟩
  have hact (i : RegionIx) := (hread i).2
  have hcfg (i : RegionIx) := (hread i).1
  refine ⟨hself, h.views, h.link, h.notices, h.lost, h.parked, fun hf => ?_, fun ix e hline => ?_⟩
  · obtain ⟨hareas, hactive, hfills⟩ := h.fills hf
    rw [State.areasLaw_congr hact hcfg, hact, hcfg]
    exact ⟨hareas, hactive, hfills⟩
  · obtain ⟨hareas, hactive, howns, hl, hq, hled, hslot⟩ := h.spares ix e hline
    exact ⟨(State.areasLaw_congr hact hcfg).mpr hareas, (hact _).trans hactive, (by rw [hcfg]; exact howns), hl, hq,
      (State.led_congr hact hcfg rfl).mpr hled, fun key x hx => (State.fits_congr hact hcfg key).mpr (hslot key x hx)⟩

/-! ### The discard of a region's parked words, and its head (R85, R95, R101) -/

/-- What a discard needs to know of a head that waits for park space. -/
def State.HeadFits (s : State) : Prop :=
  ∀ timer n d i q, s.host.head = some ⟨.waitPark timer n, some d⟩ → d.region = some i → s.headRequest = some q →
    (s.phase i).active = true ∧ (s.config i).firstWord q < (s.config i).lines * 16

theorem State.Stills.noteDiscard (h : s.Stills k) (i : RegionIx) (n : Nat) : (s.noteDiscard i n).Stills k := by
  unfold State.noteDiscard
  split
  · exact h
  · exact h.raiseNotice ..

theorem State.noteDiscard_eq (s : State) (i : RegionIx) (n : Nat) : ∃ u, s.noteDiscard i n = s.setNotices u := by
  unfold State.noteDiscard
  split
  · exact ⟨s.notices, rfl⟩
  · exact ⟨_, State.raiseNotice_eq ..⟩

theorem State.Stills.parkDiscard (h : (s.dropEntries k.region).Stills k) (hview : s.NoViewWaits)
    (hw : s.link.waiting = none) (hfits : k.line.isSome = true → s.HeadFits) : (s.parkDiscard k.region).Stills k := by
  have hnoted := h.noteDiscard k.region (s.parkedCount k.region)
  obtain ⟨u, hu⟩ := (s.dropEntries k.region).noteDiscard_eq k.region (s.parkedCount k.region)
  refine State.Stills.drainNext ?_
  unfold State.reevaluateOthers
  split
  · exact hnoted
  · next hcond =>
    have hother : s.headWaitsOn k.region = false := by
      rw [hu] at hcond
      rw [← Bool.not_eq_true]
      exact fun hon => hcond ((Bool.or_eq_true _ _).mpr (.inr hon))
    rw [hu] at hnoted ⊢
    exact hnoted.reevaluatePark_ne hview hw hother fun timer n d i q hhead hi hq hline =>
      hfits hline timer n d i q hhead hi hq

/-- A discard leaves a head that waits for the region as it is. -/
theorem State.host_parkDiscard {r : RegionIx} (h : s.headWaitsOn r = true) : (s.parkDiscard r).host = s.host := by
  obtain ⟨u, hu⟩ := (s.dropEntries r).noteDiscard_eq r (s.parkedCount r)
  have hcond : (((s.dropEntries r).noteDiscard r (s.parkedCount r)).headWaitsOn r) = true := by
    rw [hu]
    exact h
  have hstays : ((s.dropEntries r).noteDiscard r (s.parkedCount r)).reevaluateOthers r (s.parkedCount r) =
      (s.dropEntries r).noteDiscard r (s.parkedCount r) := by
    unfold State.reevaluateOthers
    rw [hcond, Bool.or_true]
    rfl
  show ((((s.dropEntries r).noteDiscard r (s.parkedCount r)).reevaluateOthers r (s.parkedCount r)).drainNext).host = _
  rw [hstays, hu]
  simp

theorem State.headWaitsOn_iff {r : RegionIx} :
    s.headWaitsOn r = true ↔ ∃ d : Decision, d.region = some r ∧ s.HeadWaits (some d) := by
  unfold State.headWaitsOn State.HeadWaits
  split
  · next d hhead => simp [hhead]
  · next timer n d hhead => simp [hhead]
  · next hline hpark =>
    refine ⟨nofun, ?_⟩
    rintro ⟨d, -, hhead | ⟨timer, n, hhead⟩⟩
    · exact absurd hhead (hline d)
    · exact absurd hhead (hpark timer n d)

theorem State.Stills.abortHead (h : s.Stills k) (hview : s.headWaitsOn k.region = true → s.NoViewServes)
    (hw : s.link.waiting = none) : (s.abortHead k.region).Stills k := by
  unfold State.abortHead
  split
  · next hon => exact h.giveResponse (hview hon) hw _
  · exact h

/-- A head that waits for the region is answered WAIT_ABORTED. -/
theorem State.head_abortHead {r : RegionIx} {d : Decision} (hwaits : s.HeadWaits (some d)) (hreg : d.region = some r)
    (hview : s.NoViewWaits) (hw : s.link.waiting = none) :
    (s.abortHead r).host.head = some ⟨.respond ⟨.waitAborted, []⟩, some d⟩ := by
  rw [State.abortHead, if_pos (State.headWaitsOn_iff.mpr ⟨d, hreg, hwaits⟩), State.giveResponse_eq (hview.serves hwaits) hw]
  obtain hhead | ⟨timer, n, hhead⟩ := hwaits <;> simp [State.setProgress, State.setHead, State.setHost, hhead, HostResponse.failed]

theorem State.decision_setProgress (s : State) (p : Progress) : (s.setProgress p).decision = s.decision := by
  show (s.host.head.map _).bind _ = s.host.head.bind _
  cases s.host.head <;> rfl

theorem State.decision_congr (h : t.host = s.host) : t.decision = s.decision := by
  rw [State.decision, State.decision, h]

theorem State.decision_giveResponse (hview : s.NoViewServes) (hw : s.link.waiting = none) (x : HostResponse) :
    (s.giveResponse x).decision = s.decision := by
  rw [State.giveResponse_eq hview hw, ← s.decision_setProgress (.respond x)]
  exact State.decision_congr (by simp)

theorem State.decision_parkWrite (hview : s.NoViewServes) (hw : s.link.waiting = none) (timer : Nat) :
    (s.parkWrite j timer).decision = s.decision := by
  unfold State.parkWrite
  split
  · next q d _ _ =>
    dsimp only
    split
    · have hgiven : ((s.placed j q (s.parkTag j)).giveResponse (.okay [])).decision = s.decision := by
        rw [State.placed_eq]
        exact State.decision_giveResponse (s := s.setPark (s.placed j q (s.parkTag j)).park) hview hw _
      rw [← hgiven]
      exact State.decision_congr (by simp [State.placeWrite, State.placed])
    · split
      · exact s.decision_setProgress _
      · rw [← State.decision_giveResponse hview hw (.failed .parkTimeout)]
        exact State.decision_congr (by simp)
  · rfl

/-- A head evaluated again keeps its decision; one that does not wait for park space stays as it is. -/
theorem State.reevaluatePark_keeps (hview : s.NoViewWaits) (hw : s.link.waiting = none) :
    s.reevaluatePark.host = s.host ∨ ∃ d, s.HeadWaits (some d) ∧ s.reevaluatePark.decision = some d := by
  unfold State.reevaluatePark
  split
  · next timer n d hhead =>
    split
    · next i _ =>
      have hwaits : s.HeadWaits (some d) := .inr ⟨timer, n, hhead⟩
      refine .inr ⟨d, hwaits, ?_⟩
      rw [State.decision_parkWrite (hview.serves hwaits) hw, State.decision, hhead]
      rfl
    · exact .inl rfl
  · exact .inl rfl

/-- A head that still waits after a discard is served by no view. -/
theorem State.NoViewWaits.parkDiscard {r : RegionIx} (hview : s.NoViewWaits) (hw : s.link.waiting = none) :
    (s.parkDiscard r).NoViewWaits := by
  obtain ⟨u, hu⟩ := (s.dropEntries r).noteDiscard_eq r (s.parkedCount r)
  let s₁ := (s.dropEntries r).setNotices u
  have hhost : (s.parkDiscard r).host = (s₁.reevaluateOthers r (s.parkedCount r)).host := by
    show ((((s.dropEntries r).noteDiscard r (s.parkedCount r)).reevaluateOthers r (s.parkedCount r)).drainNext).host = _
    rw [hu]
    exact (State.drainNext_frame _).2.1
  have hkeeps : (s.parkDiscard r).host = s.host ∨ ∃ d, s.HeadWaits (some d) ∧ (s.parkDiscard r).decision = some d := by
    rw [State.decision_congr hhost, hhost]
    unfold State.reevaluateOthers
    split
    · exact .inl rfl
    · exact State.reevaluatePark_keeps (s := s₁) hview hw
  intro x hx
  obtain hsame | ⟨d, hwaits, hdec⟩ := hkeeps
  · rw [State.HeadWaits, hsame] at hx
    exact hview x hx
  · have hx' : (s.parkDiscard r).decision = some x := by
      obtain hhead | ⟨timer, n, hhead⟩ := hx <;> rw [State.decision, hhead] <;> rfl
    exact Option.some.inj (hdec.symm.trans hx') ▸ hview d hwaits

end

end Sys2Proof.Machine


/-! SUPPORT. A fault of a region, whole (R42, R59, R70, R101, R114, R125). -/

namespace Sys2Proof.Machine

set_option Elab.async false

section
variable {s t : State} {r : RegionIx} {cause : FaultCause} {line : Nat} {L : Option (Nat × LineEntry)}

/-- A region's record at its fault (R42, R125). -/
def Region.faulted (g : Region) (cause : FaultCause) (line : Nat) : Region :=
  { g with run := g.run.faulted, life := { g.life with cause := cause, faultLine := line } }

/-- The FAULTED notice of a region. -/
def State.faultNotice (s : State) (r : RegionIx) (cause : FaultCause) (line : Nat) : Notice :=
  s.noticeOf r .faulted none (faultDetail cause line)

/-- The region FAULTED and the notice raised, before anything else of R125. -/
def State.faultRaised (s : State) (r : RegionIx) (cause : FaultCause) (line : Nat) : State :=
  (s.modRegion r fun g => g.faulted cause line).setNotices
    (s.notices.raised (s.config r).noticeMask (s.faultNotice r cause line))

theorem State.faultRaised_eq (s : State) (r : RegionIx) (cause : FaultCause) (line : Nat) :
    ((s.modLife r fun x => { x with cause := cause, faultLine := line }).modRun r Runtime.faulted).raiseNotice r .faulted
      none (faultDetail cause line) = s.faultRaised r cause line := by
  have hboth : (s.modLife r fun x => { x with cause := cause, faultLine := line }).modRun r Runtime.faulted =
      s.modRegion r fun g => g.faulted cause line := s.modRegion_modRegion r _ _
  have hregion : (s.modRegion r fun g => g.faulted cause line).region r = (s.region r).faulted cause line :=
    s.region_modRegion_self r _
  rw [hboth, State.raiseNotice_eq, State.noticeOf, State.run, State.config, hregion]
  rfl

theorem State.fault_eq (s : State) (r : RegionIx) (cause : FaultCause) (line : Nat) :
    s.fault r cause line =
      (((((s.faultRaised r cause line).removeFills r).parkDiscard r).abortHead r).setTimer r .stopped) := by
  rw [← State.faultRaised_eq]
  rfl

/-- What a fault of a region leaves as it was. -/
def State.faultStill (s : State) (r : RegionIx) (cause : FaultCause) (line : Nat) (L : Option (Nat × LineEntry)) : Still where
  region := r
  kept := (s.region r).faulted cause line
  views := s.views
  link := s.link
  raised := (s.faultRaised r cause line).notices.queue
  lost := (s.faultRaised r cause line).notices.lost
  fenced := True
  line := L

/-- An update of one region that keeps every configuration, and which regions are active. -/
theorem State.reads_modRegion {f : Region → Region} (hconfig : (f (s.region r)).config = s.config r)
    (hactive : (f (s.region r)).run.phase.active = (s.phase r).active) (i : RegionIx) :
    (s.modRegion r f).config i = s.config i ∧ ((s.modRegion r f).phase i).active = (s.phase i).active := by
  by_cases hi : i = r
  · subst hi
    rw [State.config, State.phase, State.region_modRegion_self]
    exact ⟨hconfig, hactive⟩
  · rw [State.config, State.phase, State.region_modRegion_ne s hi]
    exact ⟨rfl, rfl⟩

/-- The lines whose FILL entries leave the queue are lines of queued entries. -/
theorem State.line_removeFills {ix : Nat} (hqueue : ∀ x ∈ s.catchup.queue, x.line ≠ ix) :
    (s.removeFills r).line ix = s.line ix := by
  refine (State.line_modLines_eq (s.setQueue _) _ ix).trans ?_
  have hnot : (((s.catchup.queue.filter fun e => e.kind == .fill && (s.config r).ownsLine e.line).map (·.line)).contains ix) =
      false := by
    rw [← Bool.not_eq_true, List.contains_iff_mem, List.mem_map]
    rintro ⟨x, hx, hline⟩
    exact hqueue x (List.mem_filter.mp hx).1 hline
  simp only [hnot, Bool.false_eq_true, if_false, ite_self]
  rfl

/-- The slot, once it has let a region's entry go, waits for one it waited for before. -/
theorem DrainSlot.waiting_of_letGo {d : DrainSlot} {key : ParkKey} {x : Bool} (h : d.letGo r = .waiting key x) :
    d = .waiting key x := by
  unfold DrainSlot.letGo at h
  split at h
  · split at h
    · cases h
    · exact h
  · exact h

/-- The facts that stand once the region has left OPEN and PENDING, its FILL entries and its parked words. -/
theorem State.stills_leaving {f : Region → Region} {u : NoticeUnit} (hconfig : (f (s.region r)).config = s.config r)
    (hactive : (f (s.region r)).run.phase.active = (s.phase r).active) {fenced : Prop}
    (hareas : fenced → s.AreasLaw ∧ (s.phase r).active = true)
    (hline : ∀ ix e, L = some (ix, e) → s.Spares r ix e ∧ ∀ key ∈ s.parkKeys, s.Fits key) :
    (((((s.modRegion r f).setNotices u).removeFills r)).dropEntries r).Stills
      ⟨r, f (s.region r), s.views, s.link, u.queue, u.lost, fenced, L⟩ := by
  have hread := State.reads_modRegion hconfig hactive
  have hcfg (i : RegionIx) := (hread i).1
  have hact (i : RegionIx) := (hread i).2
  have howner (i : RegionIx) : ((((s.modRegion r f).setNotices u).removeFills r).dropEntries r).config i = s.config i := hcfg i
  refine ⟨s.region_modRegion_self r f, rfl, rfl, ⟨[], (List.append_nil _).symm⟩, id, fun e he => ?_, fun hf => ?_,
    fun ix e hl => ?_⟩
  · simpa using (List.mem_filter.mp he).2
  · obtain ⟨hareas, hr⟩ := hareas hf
    refine ⟨(State.areasLaw_congr hact hcfg).mpr hareas, (hact r).trans hr, fun e he hkind => ?_⟩
    have hkeeps : (!(e.kind == .fill && ((s.modRegion r f).config r).ownsLine e.line)) = true := (List.mem_filter.mp he).2
    rw [hkind, hcfg] at hkeeps
    rw [howner]
    simpa using hkeeps
  · obtain ⟨⟨hareas, hr, howns, hent, hqueue, -, hslot⟩, hall⟩ := hline ix e hl
    refine ⟨(State.areasLaw_congr hact hcfg).mpr hareas, (hact r).trans hr, (by rw [howner]; exact howns),
      (State.line_removeFills (s := (s.modRegion r f).setNotices u) hqueue).trans hent,
      fun x hx => hqueue x (List.mem_filter.mp hx).1, fun before key after hsplit => .inl ?_, fun key x hx => ?_⟩
    · refine (State.fits_congr (s := s) hact hcfg key).mpr (hall key ?_)
      have hkeys : (s.park.entries.filter fun e => e.region != r).map ParkEntry.key = before ++ key :: after := hsplit
      have hmem : key ∈ (s.park.entries.filter fun e => e.region != r).map ParkEntry.key := by
        rw [hkeys]
        exact List.mem_append_right _ List.mem_cons_self
      obtain ⟨y, hy, rfl⟩ := List.mem_map.mp hmem
      exact List.mem_map_of_mem (List.mem_filter.mp hy).1
    · exact (State.fits_congr (s := s) hact hcfg key).mpr (hslot key x (DrainSlot.waiting_of_letGo hx))

theorem State.headFits_congr (hhost : t.host = s.host) (hactive : ∀ i, (t.phase i).active = (s.phase i).active)
    (hconfig : ∀ i, t.config i = s.config i) : t.HeadFits ↔ s.HeadFits := by
  simp only [State.HeadFits, State.headRequest, hhost, hactive, hconfig]

/-- A fault keeps what it is to keep. -/
theorem State.stills_fault (hareas : s.AreasLaw) (hactive : (s.phase r).active = true) (hview : s.NoViewWaits)
    (hw : s.link.waiting = none)
    (hline : ∀ ix e, L = some (ix, e) → s.Spares r ix e ∧ (∀ key ∈ s.parkKeys, s.Fits key) ∧ s.HeadFits) :
    (s.fault r cause line).Stills
      { s.faultStill r cause line L with kept := { (s.region r).faulted cause line with timer := .stopped } } := by
  let s₁ := (s.faultRaised r cause line).removeFills r
  have hact : ((s.region r).faulted cause line).run.phase.active = (s.phase r).active := hactive.symm
  have hread := State.reads_modRegion (s := s) (r := r) (f := fun g => g.faulted cause line) rfl hact
  have hleft : (s₁.dropEntries r).Stills (s.faultStill r cause line L) :=
    State.stills_leaving (f := fun g => g.faulted cause line) rfl hact (fun _ => ⟨hareas, hactive⟩)
      fun ix e hl => ⟨(hline ix e hl).1, (hline ix e hl).2.1⟩
  have hdiscard : (s₁.parkDiscard r).Stills (s.faultStill r cause line L) := by
    refine State.Stills.parkDiscard (k := s.faultStill r cause line L) hleft hview hw fun hl => ?_
    obtain ⟨⟨ix, e⟩, hl⟩ := Option.isSome_iff_exists.mp hl
    exact (State.headFits_congr (s := s) (t := s₁) rfl (fun i => (hread i).2) fun i => (hread i).1).mpr (hline ix e hl).2.2
  have habort : ((s₁.parkDiscard r).abortHead r).Stills (s.faultStill r cause line L) := by
    refine State.Stills.abortHead (k := s.faultStill r cause line L) hdiscard (fun hon => ?_) ?_
    · obtain ⟨d, -, hwaits⟩ := State.headWaitsOn_iff.mp hon
      exact (State.NoViewWaits.parkDiscard (s := s₁) hview hw).serves hwaits
    · rw [hdiscard.link]
      exact hw
  rw [State.fault_eq]
  exact State.Stills.modRegion (k := s.faultStill r cause line L) habort (fun g => { g with timer := .stopped }) rfl rfl

theorem State.HeadWaits.congr {x : Option Decision} (h : s.HeadWaits x) (hhost : t.host = s.host) : t.HeadWaits x := by
  rw [State.HeadWaits, hhost]
  exact h

/-- A fault answers a head that waits for the region. -/
theorem State.head_fault (hview : s.NoViewWaits) (hw : s.link.waiting = none) {d : Decision} (hwaits : s.HeadWaits (some d)) (hreg : d.region = some r) :
    (s.fault r cause line).host.head = some ⟨.respond ⟨.waitAborted, []⟩, some d⟩ := by
  let s₁ := (s.faultRaised r cause line).removeFills r
  have hon : s₁.headWaitsOn r = true := State.headWaitsOn_iff.mpr ⟨d, hreg, hwaits⟩
  have hhost : (s₁.parkDiscard r).host = s.host := State.host_parkDiscard hon
  have hlink : (s₁.parkDiscard r).link = s.link := State.link_parkDiscard (s := s₁) hw r
  rw [State.fault_eq]
  refine (congrArg HostPort.head (?_ : _ = ((s₁.parkDiscard r).abortHead r).host)).trans
    (State.head_abortHead (hwaits.congr hhost) hreg (State.NoViewWaits.parkDiscard (s := s₁) hview hw) (hlink ▸ hw))
  rfl

/-- A state in which all that a fault keeps stands, and its head is dealt with, comes after the fault. -/
theorem State.faultedIn_of_stills
    (h : t.Stills
      { s.faultStill r cause line L with kept := { (s.region r).faulted cause line with timer := .stopped } })
    (hhead : ∀ d : Decision, d.region = some r → s.HeadWaits (some d) →
      t.host.head = some ⟨.respond ⟨.waitAborted, []⟩, some d⟩) : s.FaultedIn t r cause line := by
  have hregion : t.region r = { (s.region r).faulted cause line with timer := .stopped } := h.kept
  have hviews : t.views = s.views := h.views
  have hnotices := h.notices
  have hlost := h.lost
  obtain ⟨-, -, hfills⟩ := h.fills trivial
  have hconfig : t.config r = s.config r := (congrArg Region.config hregion :)
  have htaken : ¬((s.faultNotice r cause line).kind ≠ .faulted ∧ (s.faultNotice r cause line).kind ≠ .retired ∧
      (s.config r).noticeMask.getLsbD ((s.faultNotice r cause line).kind.code - 1) = false) := fun hn => hn.1 rfl
  refine ⟨(congrArg (fun g : Region => g.run.phase) hregion :), (congrArg Region.life hregion :),
    (congrArg (fun g : Region => g.run.followOn) hregion :), (congrArg (fun g : Region => g.run.heldNotice) hregion :),
    (congrArg (fun g : Region => g.run.frame) hregion :), (congrArg (fun g : Region => g.run.roles) hregion :),
    (congrArg (fun g : Region => g.run.bankFrames) hregion :), hconfig,
    (congrArg Region.counters hregion :), (congrArg Region.timer hregion :), fun k => by rw [State.view, hviews]; rfl,
    fun e he hkind => ?_, h.parked, hhead, fun hroom => ?_, fun hfull => hlost ?_⟩
  · exact hconfig ▸ hfills e he hkind
  · obtain ⟨l, hl⟩ := hnotices
    have hraised : (s.faultRaised r cause line).notices.queue = s.notices.queue ++ [s.faultNotice r cause line] := by
      show (s.notices.raised _ _).queue = _
      rw [NoticeUnit.raised, if_neg htaken, if_pos hroom]
    rw [hl]
    show ((s.faultRaised r cause line).notices.queue ++ l)[_]? = _
    rw [hraised, List.append_assoc, List.getElem?_append_right le_rfl, Nat.sub_self]
    rfl
  · show (s.notices.raised _ _).lost = true
    rw [NoticeUnit.raised, if_neg htaken, if_neg (not_lt.mpr hfull)]

end

end Sys2Proof.Machine


/-! SUPPORT. A copy that fails: retried, its region faulted, its line skipped, or ended without a trace (R76 to R79). -/

namespace Sys2Proof.Machine

set_option Elab.async false

section
variable {s : State} {y : Copy} {retried expired : Bool}

theorem exec_copyFailed {c : Instr} {bus : MemoryBus}
    (hengine : s.catchup.engine = .reading y retried ∨ ∃ words, s.catchup.engine = .writing y retried words)
    (hfails : s.FailsBy c .catchup expired bus)
    (hlink : ((s.setBus bus).copyFailed y retried (failCause expired)).link.waiting = none) :
    exec c s = .next ((s.setBus bus).copyFailed y retried (failCause expired)).grantNext := by
  have hover : (s.setBus bus).handOver .catchup (failure expired) =
      (s.setBus bus).copyFailed y retried (failCause expired) :=
    State.deliverCatchup_failed (s := s.setBus bus) hengine expired
  rw [exec_failsBy hfails, State.endTransaction_eq, hover]
  rw [hover]
  exact State.noRestart_of_none hlink

theorem State.copyFailed_late (h : ¬s.Applies y) (cause : FailCause) :
    s.copyFailed y retried cause = (((s.clearBusy y.line).foldBack y.region).setEngine .idle).engineTake := by
  have happlies : s.copyApplies y = false := by
    rw [← Bool.not_eq_true]
    exact mt State.copyApplies_iff.mp h
  unfold State.copyFailed
  rw [happlies]
  rfl

theorem State.copyFailed_first (h : s.Applies y) (cause : FailCause) :
    s.copyFailed y false cause = (s.startReading y true).chargeCopyRetry y cause := by
  unfold State.copyFailed
  rw [State.copyApplies_iff.mpr h]
  rfl

theorem State.copyFailed_fill (h : s.Applies y) (hkind : y.kind = .fill) (cause : FailCause) :
    s.copyFailed y true cause =
      ((s.clearBusy y.line).fault y.region .copy (y.line - (s.config y.region).lineBase)).engineNext := by
  unfold State.copyFailed
  rw [State.copyApplies_iff.mpr h, hkind]
  rfl

theorem State.copyFailed_fold (h : s.Applies y) (hkind : y.kind = .fold) (cause : FailCause) :
    s.copyFailed y true cause = (((s.clearBusy y.line).foldReport y.region false).setEngine .idle).engineTake := by
  unfold State.copyFailed
  rw [State.copyApplies_iff.mpr h, hkind]
  rfl

theorem copyRetryDetail_eq (line : Nat) (k : CopyKind) (expired : Bool) :
    copyRetryDetail line k (failCause expired) =
      BitVec.ofNat 16 (line % 256 + (if k = .fold then 256 else 0) + if expired then 512 else 0) := by
  cases expired <;> rfl

/-! ### What waits is in order -/

theorem State.WaitsLaw.noViewWaits (h : s.WaitsLaw) : s.NoViewWaits := by
  intro d hwaits
  obtain ⟨q, rest, d', i, -, hd, -, -, hview, -⟩ := h.2.1 (some d) hwaits
  exact Option.some.inj hd ▸ hview

theorem State.WaitsLaw.fits (h : s.WaitsLaw) : ∀ key ∈ s.parkKeys, s.Fits key := by
  intro key hkey
  obtain ⟨e, he, rfl⟩ := List.mem_map.mp hkey
  obtain ⟨hphase, hword, -⟩ := h.2.2.1 e he
  refine ⟨?_, hword⟩
  show (s.phase e.region).active = true
  rcases hphase with hp | hp <;> rw [hp] <;> rfl

theorem State.WaitsLaw.slotFits (h : s.WaitsLaw) {key : ParkKey} {x : Bool} (hslot : s.park.slot = .waiting key x) :
    s.Fits key := by
  obtain ⟨e, he, rfl⟩ := h.2.2.2 key x hslot
  exact h.fits _ (List.mem_map_of_mem he)

theorem State.WaitsLaw.headFits (h : s.WaitsLaw) : s.HeadFits := by
  intro timer n d i q hhead hi hq
  obtain ⟨q', rest, d', i', hqueue, hd, -, hi', -, -, ⟨hactive, hlow, hhigh⟩, -⟩ := h.2.1 (some d) (.inr ⟨timer, n, hhead⟩)
  obtain rfl := Option.some.inj hd
  obtain rfl := Option.some.inj (hi.symm.trans hi')
  obtain rfl : q' = q := by
    rw [State.headRequest, hqueue] at hq
    exact Option.some.inj hq
  refine ⟨hactive, ?_⟩
  rw [RegionConfig.firstWord]
  omega

/-- Settles O50: the retry, the fault, and the ends without either. -/
theorem copyFails : Obligations.CopyFails := by
  intro c s y retried expired bus hengine hfails hareas hline hw r g old
  have hlt := hline.lt hareas
  let s₀ := s.setBus bus
  have hbusy : s.catchup.engine ≠ .idle := by
    obtain h | ⟨words, h⟩ := hengine <;> rw [h] <;> nofun
  have hexec (u : State) (hu : s₀.copyFailed y retried (failCause expired) = u) (hlink : u.link = s.link) :
      exec c s = .next u.grantNext := by
    rw [exec_copyFailed hengine hfails (by rw [hu, hlink]; exact hw), hu]
  have hlineSet := s₀.lineSet_modLine (fun e => { e with busy := false }) hlt
  refine ⟨fun happlies hfirst => ?_, fun happlies hsecond hkind hwaits hqueue => ?_, (s₀.clearBusy y.line).catchup, hlineSet, rfl, ?_⟩
  · subst hfirst
    refine .of_exec (hexec _ ((State.copyFailed_first (s := s₀) happlies _).trans ?_) rfl)
    rw [State.chargeCopyRetry, State.raiseNotice_modCounters, copyRetryDetail_eq]
    rfl
  · subst hsecond
    let s₁ := s₀.clearBusy y.line
    have hactive : (s.phase r).active = true := hline.1
    have hkeeps : s₁.Spares r y.line { old with busy := false } :=
      ⟨hareas, hactive, hline.ownsLine, (hlineSet y.line).trans (if_pos rfl), hqueue,
        fun before key after hsplit => .inl (hwaits.fits key
          ((show s.parkKeys = _ from hsplit) ▸ List.mem_append_right _ List.mem_cons_self)), fun key x => hwaits.slotFits⟩
    have hstill := State.stills_fault (s := s₁) (r := r) (cause := .copy) (line := y.line - g.config.lineBase)
      (L := some (y.line, { old with busy := false })) hareas hactive hwaits.noViewWaits hw (fun ix e hl => by
        cases hl
        exact ⟨hkeeps, hwaits.fits, hwaits.headFits⟩)
    have hnext := hstill.engineNext
    have hrun := hexec _ (State.copyFailed_fill (s := s₀) happlies hkind _) hnext.link
    refine ⟨_, hrun, State.faultedIn_of_stills (s := s₁) hnext.grantNext fun d hd hhead => ?_, (hnext.grantNext.spares _ _ rfl).line⟩
    have hhost : (s₁.fault r .copy (y.line - g.config.lineBase)).engineNext.grantNext.host =
        (s₁.fault r .copy (y.line - g.config.lineBase)).host := by simp
    refine (congrArg HostPort.head hhost).trans ?_
    exact State.head_fault (s := s₁) hwaits.noViewWaits hw hhead hd
  · intro ends skipped
    have hlate (hkind : y.kind = .fill) (hphase : s.phase r = .faulted ∨ s.phase r = .retiring) :
        exec c s = .next (((s₀.clearBusy y.line).foldBack r).setEngine .idle).engineTake.grantNext :=
      hexec _ (State.copyFailed_late (s := s₀) (State.not_applies_fill hkind hphase) _) (show _ = s₀.link by simp)
    refine ⟨fun hkind hphase => .of_exec ?_, fun hkind hphase => ?_, fun happlies hsecond hkind hstage => ?_⟩
    · rw [hlate hkind (.inl hphase), State.foldBack_of_ne (s := s₀.clearBusy y.line)]
      · rfl
      · show s.phase r ≠ .retiring
        rw [hphase]
        nofun
    · refine ⟨((s₀.clearBusy y.line).foldQueued r).setEngine .idle, .of_exec ?_,
        (State.foldBackIn_foldQueued (s₀.clearBusy y.line) r).setEngine .idle⟩
      rw [hlate hkind (.inr hphase), State.foldBack_of_busy (s := s₀.clearBusy y.line) hbusy]
    · subst hsecond
      obtain ⟨hmany, hlast⟩ := (s₀.clearBusy y.line).foldReport_eq r false hstage _ rfl
      have hfold := hexec _ (State.copyFailed_fold (s := s₀) happlies hkind _) (show _ = s₀.link by simp)
      refine ⟨fun htwo => .of_exec ?_, fun hone => ?_⟩
      · rw [hfold, hmany htwo]
        rfl
      · have hcount : skipped 0 = skipped (g.life.foldsOutstanding - 1) := by rw [hone]
        rw [hcount]
        refine ⟨_, .of_exec (hfold.trans (by rw [hlast hone])), ?_⟩
        exact (State.retiredIn_retirementEnd
          ((s₀.clearBusy y.line).modLife r fun x =>
            { x with foldsOutstanding := x.foldsOutstanding - 1, linesUnfolded := x.linesUnfolded + 1 }) r).setEngine .idle

end

end Sys2Proof.Machine


/-! SUPPORT. The end of a HOST access: a draft write done, by its region's phase, and the head's response (R27, R33,
R40, R84, R128, R144). -/

namespace Sys2Proof.Machine

set_option Elab.async false

section
variable {s t u : State} {r : RegionIx} {c : Instr} {q : HostRequest} {rest : List HostRequest} {d : Decision}
  {p : HostPurpose} {status : HostStatus} {bus : MemoryBus}

/-! ### A fold-back reads nothing of the Host Bus Port and the Park Queue -/

/-- The Host Bus Port and the Park Queue replaced. -/
def State.withPorts (s : State) (h : HostPort) (x : ParkQueue) : State := { s with host := h, park := x }

theorem State.engineTake_withPorts (s : State) (h : HostPort) (x : ParkQueue) :
    (s.withPorts h x).engineTake = s.engineTake.withPorts h x := by
  have hregion (ix : Nat) : (s.withPorts h x).regionOfLine ix = s.regionOfLine ix := rfl
  have hcatchup : (s.withPorts h x).catchup = s.catchup := rfl
  unfold State.engineTake
  rw [hcatchup]
  split
  · rw [hregion]
    split <;> rfl
  · rfl

theorem State.endIfFolded_withPorts (s : State) (r : RegionIx) (h : HostPort) (x : ParkQueue) :
    (s.withPorts h x).endIfFolded r = (s.endIfFolded r).withPorts h x := by
  have hend : (s.withPorts h x).retirementEnd r = (s.retirementEnd r).withPorts h x := by
    rw [State.retirementEnd_eq, State.retirementEnd_eq]
    rfl
  unfold State.endIfFolded
  rw [hend]
  exact (apply_ite (State.withPorts · h x) _ _ _).symm

theorem State.foldBack_of_not (h : ¬s.FoldReady r) : s.foldBack r = s := if_neg (mt State.foldReady_iff.mp h)

theorem State.foldBack_withPorts (s : State) (r : RegionIx) (h : HostPort) (x : ParkQueue) :
    (s.withPorts h x).foldBack r = (s.foldBack r).withPorts h x := by
  by_cases hready : s.FoldReady r
  · rw [State.foldBack_of_ready hready, State.foldBack_of_ready (s := s.withPorts h x) hready,
      ← State.endIfFolded_withPorts, ← State.engineTake_withPorts]
    rfl
  · rw [State.foldBack_of_not hready, State.foldBack_of_not (s := s.withPorts h x) hready]

theorem State.foldBack_setHost (s : State) (r : RegionIx) (h : HostPort) :
    (s.setHost h).foldBack r = (s.foldBack r).setHost h := by
  have hpark : (s.foldBack r).park = s.park := (s.foldBack_frame r).2.1
  refine (s.foldBack_withPorts r h s.park).trans ?_
  rw [← hpark]
  rfl

theorem State.foldBack_setPark (s : State) (r : RegionIx) (x : ParkQueue) :
    (s.setPark x).foldBack r = (s.foldBack r).setPark x := by
  have hhost : (s.foldBack r).host = s.host := (s.foldBack_frame r).2.2.1
  refine (s.foldBack_withPorts r s.host x).trans ?_
  rw [← hhost]
  rfl

/-! ### HELD noted -/

theorem State.heldNoted_noted (h : (s.run r).heldNotice = true) : s.heldNoted r = s := if_pos h

theorem State.phase_heldNoted (s : State) (r : RegionIx) : (s.heldNoted r).phase r = s.phase r := by
  obtain ⟨x, hrun⟩ := s.run_heldNoted (r := r)
  exact (congrArg Runtime.phase hrun :)

theorem State.heldNoted_withPorts (s : State) (r : RegionIx) (h : HostPort) (x : ParkQueue) :
    (s.withPorts h x).heldNoted r = (s.heldNoted r).withPorts h x := by
  by_cases hn : (s.run r).heldNotice = true
  · rw [State.heldNoted_noted hn, State.heldNoted_noted (s := s.withPorts h x) hn]
  · rw [Bool.not_eq_true] at hn
    rw [State.heldNoted_eq hn, State.heldNoted_eq (s := s.withPorts h x) hn]
    rfl

theorem State.ports_heldNoted (s : State) (r : RegionIx) :
    (s.heldNoted r).host = s.host ∧ (s.heldNoted r).park = s.park ∧ (s.heldNoted r).link = s.link := by
  by_cases hn : (s.run r).heldNotice = true
  · rw [State.heldNoted_noted hn]
    exact ⟨rfl, rfl, rfl⟩
  · rw [State.heldNoted_eq (Bool.not_eq_true _ ▸ hn)]
    exact ⟨rfl, rfl, rfl⟩

theorem State.heldNoted_setHost (s : State) (r : RegionIx) (h : HostPort) :
    (s.setHost h).heldNoted r = (s.heldNoted r).setHost h := by
  refine (s.heldNoted_withPorts r h s.park).trans ?_
  rw [← (s.ports_heldNoted r).2.1]
  rfl

theorem State.heldNoted_setPark (s : State) (r : RegionIx) (x : ParkQueue) :
    (s.setPark x).heldNoted r = (s.heldNoted r).setPark x := by
  refine (s.heldNoted_withPorts r s.host x).trans ?_
  rw [← (s.ports_heldNoted r).1]
  rfl

/-! ### A draft write done (R84) -/

/-- A waiting drain slot names a word of a region that works (R97, R101). -/
def State.SlotWorks (s : State) : Prop :=
  ∀ k x, s.park.slot = .waiting k x →
    (s.phase k.region = .opened ∨ s.phase k.region = .pending) ∧ k.word < (s.config k.region).lines * 16

theorem State.WaitsLaw.slotWorks (h : s.WaitsLaw) : s.SlotWorks := by
  intro k x hslot
  obtain ⟨-, -, hentries, hwaiting⟩ := h
  obtain ⟨e, he, rfl⟩ := hwaiting k x hslot
  exact ⟨(hentries e he).1, (hentries e he).2.1⟩

/-- One draft write of a region less in flight. -/
def State.written (s : State) (r : RegionIx) : State := s.modRun r fun t => { t with inFlight := t.inFlight - 1 }

theorem State.draftWriteDone_eq (s : State) (r : RegionIx) :
    s.draftWriteDone r = ((s.written r).evaluate r).foldBack r := rfl

theorem State.region_written (s : State) (r : RegionIx) :
    (s.written r).region r = { s.region r with run := { s.run r with inFlight := (s.run r).inFlight - 1 } } :=
  s.region_modRegion_self r _

theorem State.region_written_ne {j : RegionIx} (hj : j ≠ r) : (s.written r).region j = s.region j :=
  s.region_modRegion_ne hj _

theorem State.phase_written (s : State) (r j : RegionIx) : (s.written r).phase j = s.phase j := by
  by_cases hj : j = r
  · subst hj
    rw [State.phase, State.region_written]
    rfl
  · rw [State.phase, State.region_written_ne hj]
    rfl

theorem State.config_written (s : State) (r j : RegionIx) : (s.written r).config j = s.config j := by
  by_cases hj : j = r
  · subst hj
    rw [State.config, State.region_written]
    rfl
  · rw [State.config, State.region_written_ne hj]
    rfl

theorem State.run_written (s : State) (r j : RegionIx) :
    ((s.written r).run j).frame = (s.run j).frame ∧ ((s.written r).run j).roles = (s.run j).roles := by
  by_cases hj : j = r
  · subst hj
    rw [State.run, State.region_written]
    exact ⟨rfl, rfl⟩
  · rw [State.run, State.region_written_ne hj]
    exact ⟨rfl, rfl⟩

theorem State.SlotWorks.written (h : s.SlotWorks) (r : RegionIx) : (s.written r).SlotWorks := fun k x hslot => by
  rw [State.phase_written, State.config_written]
  exact h k x hslot

theorem State.bankAvailable_written : (s.written r).BankAvailable r ↔ s.BankAvailable r :=
  State.bankAvailable_congr (s.run_written r r).2 rfl

theorem State.areasLaw_written (h : s.AreasLaw) : (s.written r).AreasLaw :=
  (State.areasLaw_congr (fun i => by rw [s.phase_written]) (s.config_written r)).mpr h

/-- Outside RETIRING, and with the draft not complete in PENDING, the write is only counted. -/
theorem State.draftWriteDone_plain (hphase : s.phase r ≠ .retiring)
    (hcomplete : s.phase r = .pending → ¬(s.written r).DraftComplete r) : s.draftWriteDone r = s.written r := by
  rw [State.draftWriteDone_eq, State.evaluate_of_incomplete (by rwa [State.phase_written]),
    State.foldBack_of_ne (by rwa [State.phase_written])]

theorem State.draftWriteDone_held (hphase : s.phase r = .pending) (hcomplete : (s.written r).DraftComplete r)
    (hbank : ¬s.BankAvailable r) : s.draftWriteDone r = (s.written r).heldNoted r := by
  have hpend : (s.written r).phase r = .pending := (s.phase_written r r).trans hphase
  have hstays : ((s.written r).heldNoted r).phase r = .pending := (State.phase_heldNoted _ r).trans hpend
  rw [State.draftWriteDone_eq, State.evaluate_held hpend hcomplete (mt State.bankAvailable_written.mp hbank),
    State.foldBack_of_ne]
  rw [hstays]
  nofun

theorem State.draftWriteDone_publishes (hphase : s.phase r = .pending) (hcomplete : (s.written r).DraftComplete r)
    (hbank : s.BankAvailable r) : s.draftWriteDone r = (s.written r).publish r := by
  have hpend : (s.written r).phase r = .pending := (s.phase_written r r).trans hphase
  rw [State.draftWriteDone_eq, State.evaluate_publishes hpend hcomplete (State.bankAvailable_written.mpr hbank),
    State.foldBack_of_ne]
  obtain ⟨x, n, m, hrun, hparked, hfree⟩ := State.run_publish hcomplete.2.1
  have hx : x = .pending ∨ x = .opened := by
    by_cases hf : ((s.written r).run r).followOn = true ∧ (s.written r).ParkedAfter r
    · exact .inl (hparked hf.1 hf.2)
    · exact .inr (hfree (by simpa [imp_iff_not_or] using hf))
  show (State.run _ r).phase ≠ _
  rw [hrun]
  rcases hx with rfl | rfl <;> nofun

theorem State.draftWriteDone_retiring (hphase : s.phase r = .retiring) :
    s.draftWriteDone r = (s.written r).foldBack r := by
  have hret : (s.written r).phase r = .retiring := (s.phase_written r r).trans hphase
  rw [State.draftWriteDone_eq, State.evaluate_of_ne_pending]
  rw [hret]
  nofun

/-! ### The drain slot stays settled while a region retires -/

/-- What the slot waits for is apart from a region and its lines. -/
def State.SlotApart (s : State) (r : RegionIx) : Prop :=
  ∀ k x, s.park.slot = .waiting k x →
    k.region ≠ r ∧ (s.config r).ownsLine ((s.config k.region).lineOfWord k.word) = false

theorem State.SlotWorks.apart (h : s.SlotWorks) (hareas : s.AreasLaw) (hphase : s.phase r = .retiring) : s.SlotApart r := by
  intro k x hslot
  obtain ⟨hwork, hword⟩ := h k x hslot
  have hr : k.region ≠ r := by
    rintro rfl
    rcases hwork with hp | hp <;> cases hphase.symm.trans hp
  have hactive : (s.phase r).active = true := by rw [hphase]; rfl
  have hworks : (s.phase k.region).active = true := by rcases hwork with hp | hp <;> rw [hp] <;> rfl
  exact ⟨hr, hareas.ownsLine_apart hactive hworks hr (State.Fits.ownsLine (s := s) ⟨hworks, hword⟩)⟩

theorem State.slotApart_of_idle (h : s.park.slot = .idle) (r : RegionIx) : s.SlotApart r := fun k x hslot => by
  cases h.symm.trans hslot

/-- One region that does not work changes, and of the lines only its own. -/
theorem State.DrainSettled.beside (h : s.DrainSettled) (hapart : s.SlotApart r) (ht : (t.phase r).working = false)
    (hpark : t.park = s.park) (hother : ∀ j, j ≠ r → t.region j = s.region j)
    (hlines : ∀ ix, (s.config r).ownsLine ix = false → (t.line ix).stale = (s.line ix).stale) : t.DrainSettled := by
  refine ⟨fun hslot e he => ?_, fun k x hslot => ?_⟩
  · rw [hpark] at hslot he
    by_cases hr : e.region = r
    · rw [State.eligible, hr, ht]
      rfl
    · have hsame : t.eligible e = s.eligible e := by
        rw [State.eligible, State.eligible, State.phase, State.run, hother _ hr]
        rfl
      rw [hsame]
      exact h.1 hslot e he
  · rw [hpark] at hslot
    obtain ⟨hr, howns⟩ := hapart k x hslot
    have hstale := h.2 k x hslot
    rw [State.draftStale, State.config, State.run, hother _ hr]
    exact (congrArg (fun x : PerBank Bool => x.get (s.run k.region).draftBank) (hlines _ howns)).trans hstale

/-- A fold-back leaves its region RETIRING or DISABLED. -/
theorem State.FoldBackIn.not_working (h : s.FoldBackIn u r) (hphase : s.phase r = .retiring) :
    (u.phase r).working = false := by
  obtain ⟨hnot, hfolds, hends⟩ := h
  have hs : (s.phase r).working = false := by rw [hphase]; rfl
  by_cases hready : s.FoldReady r
  · by_cases hlines : s.foldLines r = []
    · obtain ⟨hself, -⟩ := hends hready hlines
      rw [State.phase, hself]
      rfl
    · obtain ⟨x, -, rfl⟩ := hfolds hready hlines
      exact (congrArg (fun g : Region => g.run.phase.working) (s.region_modRegion_self r fun _ => s.foldingRegion r)).trans hs
  · rw [hnot hready]
    exact hs

/-- A fold-back changes the region that retires, its lines, and of the other lines only what is queued. -/
theorem State.FoldBackIn.settled (h : s.FoldBackIn u r) (hsettled : s.DrainSettled) (hapart : s.SlotApart r) :
    u.DrainSettled := by
  have hidle (hready : s.FoldReady r) := h.not_working hready.1
  obtain ⟨hnot, hfolds, hends⟩ := h
  by_cases hready : s.FoldReady r
  · have hregion (x : Region) : ({ s with regions := s.regions.set r.val x r.isLt } : State).region r = x :=
      s.region_modRegion_self r fun _ => x
    have hother (x : Region) (j : RegionIx) (hj : j ≠ r) :
        ({ s with regions := s.regions.set r.val x r.isLt } : State).region j = s.region j :=
      s.region_modRegion_ne hj fun _ => x
    by_cases hlines : s.foldLines r = []
    · obtain ⟨hself, hrest, hline, -, -, -, -, hpark, -⟩ := hends hready hlines
      refine hsettled.beside hapart (hidle hready) hpark (fun j hj => ?_) fun ix hix => ?_
      · rw [hrest j hj]
        exact hother _ j hj
      · rw [hline, hregion, if_neg]
        · rfl
        · exact Bool.eq_false_iff.mp hix
    · obtain ⟨x, hx, rfl⟩ := hfolds hready hlines
      refine hsettled.beside hapart (hidle hready) rfl (fun j hj => hother _ j hj) fun ix _ => ?_
      refine (congrArg LineEntry.stale (hx ix)).trans ?_
      split <;> rfl
  · rw [hnot hready]
    exact hsettled

theorem State.DrainSettled.written (h : s.DrainSettled) (r : RegionIx) : (s.written r).DrainSettled :=
  h.mono rfl rfl (fun j => ⟨by rw [s.phase_written r j]; exact id, s.run_written r j⟩) (s.config_written r)

theorem State.DrainSettled.heldNoted (h : s.DrainSettled) (r : RegionIx) : (s.heldNoted r).DrainSettled := by
  by_cases hn : (s.run r).heldNotice = true
  · rwa [State.heldNoted_noted hn]
  · rw [State.heldNoted_eq (Bool.not_eq_true _ ▸ hn)]
    refine h.mono rfl rfl (fun j => ?_) fun j => ?_
    · by_cases hj : j = r
      · subst hj
        simp [State.phase, State.run]
      · simp [State.phase, State.run, State.region_modRegion_ne s hj]
    · by_cases hj : j = r
      · subst hj
        simp [State.config]
      · simp [State.config, State.region_modRegion_ne s hj]

theorem State.DrainSettled.engineTake (h : s.DrainSettled) : s.engineTake.DrainSettled := by
  refine ⟨fun hslot e he => ?_, fun k x hslot => ?_⟩
  · rw [(State.engineTake_frame s).2.2.1] at hslot he
    rw [State.eligible, State.phase, State.run, State.region_congr (State.regions_engineTake s)]
    exact h.1 hslot e he
  · rw [(State.engineTake_frame s).2.2.1] at hslot
    rw [State.draftStale, State.stale_engineTake, State.config, State.run,
      State.region_congr (State.regions_engineTake s)]
    exact h.2 k x hslot

end

end Sys2Proof.Machine


/-! SUPPORT. The head's access ended and answered, whatever its purpose (R144, R160). -/

namespace Sys2Proof.Machine

set_option Elab.async false

section
variable {s u w : State} {r : RegionIx} {c : Instr} {q : HostRequest} {rest : List HostRequest} {d : Decision}
  {p : HostPurpose} {status : HostStatus} {bus : MemoryBus}

/-- The head's access ends by `c` with no data: a WRITE answered OKAY, or any access by a failure. -/
def State.HeadEnds (s : State) (c : Instr) (q : HostRequest) (p : HostPurpose) (status : HostStatus)
    (bus : MemoryBus) : Prop :=
  (∃ n : Nat, q.kind = .write ∧ c = .memoryAnswer (.okay []) ∧ status = .okay ∧ bus = { s.bus with port := .idle } ∧
      s.InFlight (.host p false) .write n) ∨
    s.FailsBy c (.host p false) false bus ∧ status = .memoryError ∨
    s.FailsBy c (.host p false) true bus ∧ status = .memoryTimeout

theorem State.FailsBy.headEnds {expired : Bool} (h : s.FailsBy c (.host p false) expired bus) (q : HostRequest) :
    s.HeadEnds c q p (if expired then .memoryTimeout else .memoryError) bus := by
  cases expired with
  | false => exact .inr (.inl ⟨h, rfl⟩)
  | true => exact .inr (.inr ⟨h, rfl⟩)

/-- What the end delivers, and the response that follows from it. -/
theorem State.HeadEnds.delivers (h : s.HeadEnds c q p status bus) :
    ∃ x, exec c s = .next ((s.setBus bus).endTransaction (.host p false) x) ∧
      ∀ (u : State) (d : Decision), u.memoryResponse q d x = ⟨status, []⟩ := by
  obtain ⟨n, hkind, rfl, rfl, rfl, hflight⟩ | ⟨hfails, rfl⟩ | ⟨hfails, rfl⟩ := h
  · refine ⟨_, exec_answer_write hflight, fun u d => ?_⟩
    rw [State.memoryResponse, hkind]
    rfl
  · exact ⟨_, exec_failsBy hfails, fun _ _ => rfl⟩
  · exact ⟨_, exec_failsBy hfails, fun _ _ => rfl⟩

/-- The head is answered in the state that the end of its draft write leaves. -/
theorem State.HeadEnds.exec_eq (h : s.HeadEnds c q p status bus) (hqueue : s.host.queue = q :: rest)
    (hhead : s.host.head = some ⟨.waitMemory, some d⟩) (hview : d.view = none) (hw : s.link.waiting = none)
    (hdone : (s.setBus bus).hostWriteDone p = w) :
    exec c s =
      .next (w.setHost (s.hostWith q rest ⟨.respond ⟨status, []⟩, some d⟩)).drainRelease.grantNext := by
  obtain ⟨x, hexec, hresp⟩ := h.delivers
  have hhost : w.host = s.host := hdone ▸ (State.hostWriteDone_frame (s.setBus bus) p).2.1
  have hlink : w.link = s.link := hdone ▸ (State.hostWriteDone_frame (s.setBus bus) p).2.2.2.2.1
  have hover : (s.setBus bus).handOver (.host p false) x =
      (w.setHost (s.hostWith q rest ⟨.respond ⟨status, []⟩, some d⟩)).drainRelease := by
    show ((s.setBus bus).hostWriteDone p).answerHead x = _
    rw [hdone, State.answerHead_eq (by rwa [hhost]) (by rwa [hhost]) hview (by rwa [hlink]), hresp, State.hostWith, hhost]
    rfl
  rw [hexec, State.endTransaction_eq, hover]
  rw [hover]
  refine State.noRestart_of_none ?_
  rw [(State.drainRelease_frame _).2.2.2.2.2.1]
  exact (congrArg Link.waiting hlink).trans hw

theorem State.hostWriteDone_plain
    (h : ∀ r : RegionIx, p = .draftWrite r →
      s.phase r ≠ .retiring ∧
        (s.phase r = .pending → ¬({ s with regions := s.writeCounted p } : State).DraftComplete r)) :
    s.hostWriteDone p = { s with regions := s.writeCounted p } := by
  cases p with
  | draftWrite r => exact State.draftWriteDone_plain (h r rfl).1 (h r rfl).2
  | pass => rfl
  | read => rfl

/-- The slot's release keeps the frame of every region. -/
theorem State.frame_drainRelease (s : State) (r : RegionIx) : (s.drainRelease.run r).frame = (s.run r).frame := by
  have htally (t : State) (j : RegionIx) (f : Runtime → Runtime) (hf : ∀ x, (f x).frame = x.frame) :
      ((t.modRun j f).run r).frame = (t.run r).frame := by
    by_cases hj : r = j
    · rw [hj, State.run_modRun_self, hf]
    · rw [State.run, State.modRun, State.region_modRegion_ne t hj]
      rfl
  have hissue (k : ParkKey) (x : Bool) : ((s.issueDrain k x).run r).frame = (s.run r).frame := by
    unfold State.issueDrain
    split
    · rfl
    · refine (htally _ _ (fun t => { t with inFlight := t.inFlight + 1 }) fun _ => rfl).trans ?_
      unfold State.markDirty
      split
      · rfl
      · exact htally _ _ (fun t => { t with dirtyLines := t.dirtyLines + 1 }) fun _ => rfl
  unfold State.drainRelease
  split
  · split
    · exact hissue _ _
    · rfl
  · rfl

end

/-- Settles O47: what the write's end brings about by its region's phase, then the head's response. -/
theorem hostAccessEnds : Obligations.HostAccessEnds := by
  refine ⟨?_, ?_, ?_, ?_, ?_, fun s txn timer hport hne => ?_, fun s hport => ⟨?_, fun a ha => ?_⟩⟩
  · intro s q rest d p hqueue hhead hview hw hsettled hplain ends
    have hends (c : Instr) (status : HostStatus) (bus : MemoryBus) (h : s.HeadEnds c q p status bus) :
        CompletesGranting c s (ends status bus) := by
      have hdone := State.hostWriteDone_plain (s := s.setBus bus) hplain
      have hcounted : ({ s with regions := s.writeCounted p } : State).DrainSettled := by
        cases p with
        | draftWrite r => exact hsettled.written r
        | pass => exact hsettled
        | read => exact hsettled
      have hrest : (ends status bus).DrainSettled := hcounted.congr rfl rfl (fun _ => rfl) fun _ => rfl
      refine .of_exec ((h.exec_eq hqueue hhead hview hw hdone).trans ?_)
      exact congrArg (fun t : State => Host.Outcome.next t.grantNext) (State.drainRelease_of_settled hrest)
    exact ⟨fun hkind n hflight => hends _ _ _ (.inl ⟨n, hkind, rfl, rfl, rfl, hflight⟩),
      fun c expired bus hfails => hends c _ bus (hfails.headEnds q)⟩
  · intro c s q rest d r expired bus hqueue hhead hview hw hphase hends hcomplete hbank
    obtain ⟨status, bus', hend⟩ : ∃ status bus', s.HeadEnds c q (.draftWrite r) status bus' := by
      obtain ⟨n, hkind, rfl, hflight⟩ | hfails := hends
      · exact ⟨_, _, .inl ⟨n, hkind, rfl, rfl, rfl, hflight⟩⟩
      · exact ⟨_, _, hfails.headEnds q⟩
    have hdone := State.draftWriteDone_publishes (s := s.setBus bus') hphase hcomplete hbank
    refine ⟨_, hend.exec_eq hqueue hhead hview hw hdone, ?_, ⟨status, []⟩, ?_⟩
    · rw [State.run_congr (State.grantNext_frame _).1, State.frame_drainRelease]
      refine (State.frame_publish (s := (s.setBus bus').written r) hcomplete.2.1).trans ?_
      rw [(State.run_written _ r r).1]
      rfl
    · rw [State.progress, (State.grantNext_frame _).2.2.2.2.1, (State.drainRelease_frame _).2.1]
      rfl
  · intro c s q rest d r status bus hqueue hhead hview hw hsettled hphase hend hcomplete hbank
    have hdone := State.draftWriteDone_held (s := s.setBus bus) hphase hcomplete hbank
    have hrest : (((s.setBus bus).written r).setHost
        (s.hostWith q rest ⟨.respond ⟨status, []⟩, some d⟩)).DrainSettled :=
      (hsettled.written r).congr rfl rfl (fun _ => rfl) fun _ => rfl
    refine .of_exec ((State.HeadEnds.exec_eq hend hqueue hhead hview hw hdone).trans ?_)
    rw [← State.heldNoted_setHost, State.drainRelease_of_settled (hrest.heldNoted r)]
    rfl
  · intro c s q rest d r status bus hqueue hhead hview hw hsettled hphase htaken hareas hwaits hend
    let ended : State := ((s.setBus bus).written r).setHost (s.hostWith q rest ⟨.respond ⟨status, []⟩, some d⟩)
    have hdone := State.draftWriteDone_retiring (s := s.setBus bus) hphase
    have hback : ended.FoldBackIn (ended.foldQueued r) r := State.foldBackIn_foldQueued ..
    have hrest : ended.DrainSettled := (hsettled.written r).congr rfl rfl (fun _ => rfl) fun _ => rfl
    refine ⟨ended.foldQueued r, .of_exec ((State.HeadEnds.exec_eq hend hqueue hhead hview hw hdone).trans ?_), hback⟩
    rw [← State.foldBack_setHost, State.foldBack_eq (s := ended) (.inl htaken), State.drainRelease_of_settled]
    exact (hback.settled hrest (State.SlotWorks.apart (hwaits.slotWorks.written r) (State.areasLaw_written hareas)
      ((s.phase_written r r).trans hphase))).engineTake
  · intro c s q rest d expired bus e retried hfails hqueue hhead hview hw hslot hsound hmem hrange hcurrent
    have hdone : (s.setBus bus).hostWriteDone .read = s.setBus bus := rfl
    let ended : State :=
      (s.setBus bus).setHost
        (s.hostWith q rest ⟨.respond ⟨if expired then .memoryTimeout else .memoryError, []⟩, some d⟩)
    have hready : ended.drainReady e.key = true := by
      rw [State.drainReady_iff]
      refine ⟨?_, ?_, State.noRestart_of_none hw⟩
      · show ¬(s.line (s.lineOfEntry e)).stale.get (s.run e.region).draftBank = true
        rw [hcurrent]
        exact Bool.false_ne_true
      · rintro ⟨d', q', hhead', -⟩
        cases hhead'
    refine ⟨ended.issueDrain e.key retried, .of_exec (((hfails.headEnds q).exec_eq hqueue hhead hview hw hdone).trans ?_),
      State.drainIssuedIn_issueDrain (s := ended) (hsound.parked hmem) hrange retried⟩
    rw [State.drainRelease_ready (s := ended) hslot hready]
  · show execMemoryTimeout s = _
    rw [execMemoryTimeout, hport]
    cases timer with
    | zero => exact absurd rfl hne
    | succ n => rfl
  · show execMemoryTimeout s = _
    unfold execMemoryTimeout
    split
    · next h => exact absurd h (hport _ _)
    · rfl
  · rw [exec_memoryAnswer]
    unfold execMemoryAnswer
    rw [ha]
    refine (if_neg Bool.false_ne_true).trans ?_
    split
    · next h => exact absurd h (hport _ _)
    · rfl

end Sys2Proof.Machine


/-! SUPPORT. A drain write answered: its entry removed or written again, its region faulted, or nothing but the count
(R84, R99, R100). -/

namespace Sys2Proof.Machine

set_option Elab.async false

section
variable {s u : State} {r : RegionIx} {c : Instr} {e : ParkEntry} {retried expired : Bool} {bus : MemoryBus} {k : ParkKey}

/-! ### The drain transaction ends -/

theorem exec_drainEnds {x : Delivery} (hexec : exec c s = .next ((s.setBus bus).endTransaction .drain x))
    (hslot : s.park.slot = .writing k retried)
    (hover : ((s.setBus bus).draftWriteDone k.region).drainAnswered k retried x = u) (hlink : u.link = s.link)
    (hw : s.link.waiting = none) : exec c s = .next u.grantNext := by
  have hdeliver : (s.setBus bus).handOver .drain x = u := by
    show (s.setBus bus).deliverDrain x = u
    have hslot' : (s.setBus bus).park.slot = .writing k retried := hslot
    rw [State.deliverDrain, hslot']
    exact hover
  rw [hexec, State.endTransaction_eq, hdeliver]
  rw [hdeliver]
  exact State.noRestart_of_none (hlink ▸ hw)

theorem State.drainAnswered_okay (hwork : s.phase e.region = .opened ∨ s.phase e.region = .pending)
    (hparked : s.parked e.key = some e) (words : List Word) :
    s.drainAnswered e.key retried (.okay words) = s.drainDone e.key e := by
  have hworks : (s.phase e.key.region).working = true := Phase.working_iff.mpr hwork
  rw [State.drainAnswered, hworks, hparked]
  rfl

theorem State.drainAnswered_failed (hwork : s.phase e.region = .opened ∨ s.phase e.region = .pending)
    (hparked : s.parked e.key = some e) (expired : Bool) :
    s.drainAnswered e.key retried (failure expired) = s.drainFailed e.key retried := by
  have hworks : (s.phase e.key.region).working = true := Phase.working_iff.mpr hwork
  rw [State.drainAnswered, hworks, hparked]
  cases expired <;> rfl

/-- For a region that has left OPEN and PENDING the slot only becomes free. -/
theorem State.drainAnswered_late (h : (s.phase k.region).working = false) (x : Delivery) :
    s.drainAnswered k retried x = (s.setSlot .idle).drainNext := by
  rw [State.drainAnswered, h]
  rfl

/-! ### An entry drained (R99) -/

theorem State.frameDrained_eq (s : State) (r : RegionIx) : s.frameDrained r = s.evaluate r := by
  by_cases hc : s.condC r = true
  · exact if_pos hc
  · refine (if_neg hc).trans (State.evaluate_of_incomplete fun _ hcomplete => hc ?_).symm
    have hall := State.draftComplete_iff.mp hcomplete
    rw [Bool.and_eq_true] at hall
    exact hall.2

theorem State.reevaluatePark_of_noPark (h : ∀ timer k, s.progress ≠ some (.waitPark timer k)) : s.reevaluatePark = s := by
  unfold State.reevaluatePark
  split
  · next timer n d hhead => exact absurd (by rw [State.progress, hhead]; rfl) (h timer n)
  · rfl

/-- The state with an entry removed and the slot free. -/
def State.removed (s : State) (e : ParkEntry) : State :=
  { s with park := ⟨s.park.entries.filter fun x => x.key ≠ e.key, .idle⟩ }

theorem State.setSlot_removeEntry (s : State) (e : ParkEntry) : (s.removeEntry e.key).setSlot .idle = s.removed e := by
  show ({ s with park := ⟨s.park.entries.filter fun x => x.key != e.key, .idle⟩ } : State) = _
  have hfilter : (fun x : ParkEntry => x.key != e.key) = fun x => decide (x.key ≠ e.key) := by
    funext x
    exact Bool.eq_iff_iff.mpr (by simp)
  rw [hfilter]
  rfl

/-- A drain write whose entry was not merged into since: removed, its region evaluated, the slot free. -/
theorem State.drainDone_plain (hchanged : e.changed = false) (hpark : ∀ timer k, s.progress ≠ some (.waitPark timer k))
    (hrestart : s.NoRestart) :
    s.drainDone e.key e = (((s.removeEntry e.key).evaluate e.region).setSlot .idle).drainNext := by
  have hwaits : (s.removeEntry e.key).restartWaits = false := (s.removeEntry e.key).restartWaits_eq_false_iff.mpr hrestart
  rw [State.drainDone, hchanged]
  show ((if (s.removeEntry e.key).reevaluatePark.restartWaits then _ else _ : State).setSlot .idle).drainNext = _
  rw [State.reevaluatePark_of_noPark (s := s.removeEntry e.key) hpark, hwaits, State.frameDrained_eq]
  rfl

theorem State.drainDone_changed (hchanged : e.changed = true) (hrestart : s.NoRestart) :
    s.drainDone e.key e = (s.modEntry e.key fun x => { x with changed := false }).drainTry e.key false := by
  rw [State.drainDone, hchanged, s.restartWaits_eq_false_iff.mpr hrestart]
  rfl

theorem State.drainFailed_first (hrestart : s.NoRestart) :
    s.drainFailed k false = (s.modEntry k fun x => { x with changed := false }).drainTry k true := by
  rw [State.drainFailed, s.restartWaits_eq_false_iff.mpr hrestart]
  rfl

theorem State.drainFailed_second (hrestart : s.NoRestart) :
    s.drainFailed k true = (s.setSlot .idle).fault k.region .drain (k.word / 16) := by
  rw [State.drainFailed, s.restartWaits_eq_false_iff.mpr hrestart]
  rfl

/-- Once an entry is removed no other one is eligible. -/
theorem State.drainSettled_removed (h : ∀ x ∈ s.park.entries, x.key ≠ e.key → ¬s.Eligible x) :
    (s.removed e).DrainSettled := by
  refine ⟨fun _ x hx => ?_, fun k x hslot => by cases hslot⟩
  obtain ⟨hmem, hkey⟩ := List.mem_filter.mp hx
  exact State.eligible_eq_false_iff.mpr (h x hmem (of_decide_eq_true hkey))

theorem State.eligible_written (s : State) (r : RegionIx) (x : ParkEntry) : (s.written r).Eligible x ↔ s.Eligible x := by
  rw [State.Eligible, State.Eligible, s.phase_written, (s.run_written r x.region).1]

/-! ### An entry written again (R99, R100) -/

/-- The drain write of an entry whose line is dirty issued again. -/
def State.again (s : State) (e : ParkEntry) (retried : Bool) : State :=
  { s with
    park :=
      ⟨s.park.entries.map fun x => if x.key = e.key then { x with changed := false } else x, .writing e.key retried⟩
    bus := { s.bus with drainReq := some (s.drainOf e) } }

/-- The issue of an entry whose line is dirty counts the write alone. -/
theorem State.issueDrain_dirty (hparked : s.parked e.key = some e) (hdirty : (s.line (s.lineOfEntry e)).dirty = true) :
    s.issueDrain e.key retried =
      ((((s.requestDrain (s.drainAccess e)).modRun e.region fun t => { t with inFlight := t.inFlight + 1 }).modEntry e.key
        fun x => { x with changed := false }).setSlot (.writing e.key retried)) := by
  have hmark : (s.requestDrain (s.drainAccess e)).markDirty e.region (s.lineOfEntry e) =
      s.requestDrain (s.drainAccess e) := if_pos hdirty
  rw [State.issueDrain, hparked]
  show ((((s.requestDrain (s.drainAccess e)).countIssue e.region (s.lineOfEntry e)).modEntry e.key
    fun x => { x with changed := false }).setSlot (.writing e.key retried)) = _
  rw [State.countIssue, hmark]

/-- The state with the changed mark of an entry clear. -/
def State.unchanged (s : State) (e : ParkEntry) : State := s.modEntry e.key fun x => { x with changed := false }

theorem State.parked_unchanged (hsound : s.park.Sound) (hmem : e ∈ s.park.entries) :
    (s.unchanged e).parked e.key = some { e with changed := false } := by
  have hkeys : (s.unchanged e).park.entries.map ParkEntry.key = s.park.entries.map ParkEntry.key :=
    State.keys_modEntry fun _ => rfl
  have hsound' : (s.unchanged e).park.Sound := by
    refine ⟨?_, hkeys ▸ hsound.2⟩
    have hlength := congrArg List.length hkeys
    rw [List.length_map, List.length_map] at hlength
    exact hlength ▸ hsound.1
  exact hsound'.parked (List.mem_map.mpr ⟨e, hmem, if_pos (beq_self_eq_true e.key)⟩)

theorem State.entries_unchanged (s : State) (e : ParkEntry) :
    (s.unchanged e).park.entries = s.park.entries.map fun x => if x.key = e.key then { x with changed := false } else x := by
  show s.park.entries.map _ = _
  simp only [beq_iff_eq]

theorem State.unchanged_unchanged (s : State) (e : ParkEntry) : (s.unchanged e).unchanged e = s.unchanged e := by
  have hentries : ((s.unchanged e).unchanged e).park.entries = (s.unchanged e).park.entries := by
    rw [State.entries_unchanged, State.entries_unchanged, List.map_map]
    refine List.map_congr_left fun x _ => ?_
    by_cases hx : x.key = e.key
    · have hkey : ({ x with changed := false } : ParkEntry).key = e.key := hx
      simp only [Function.comp, hx, hkey, if_true]
    · simp only [Function.comp, hx, if_false]
  exact congrArg (fun l => s.setEntries l) hentries

/-- A write counted done and issued again is in flight as before. -/
theorem State.written_again (h : 1 ≤ (s.run r).inFlight) :
    ((s.written r).modRun r fun t => { t with inFlight := t.inFlight + 1 }) = s := by
  have hsame : ({ s.run r with inFlight := (s.run r).inFlight - 1 + 1 } : Runtime) = s.run r := by
    rw [Nat.sub_add_cancel h]
  refine (s.modRegion_modRegion r (fun g => { g with run := { g.run with inFlight := g.run.inFlight - 1 } })
    fun g => { g with run := { g.run with inFlight := g.run.inFlight + 1 } }).trans ?_
  refine Eq.trans ?_ (congrArg (fun x => ({ s with regions := x } : State)) (s.regions_modRun_run r))
  exact congrArg (fun t : Runtime => ({ s with regions := s.regions.set r.val { s.region r with run := t } r.isLt } : State)) hsame

theorem State.drainTry_again (hsound : s.park.Sound) (hmem : e ∈ s.park.entries)
    (hdirty : (s.line (s.lineOfEntry e)).dirty = true) (hcurrent : ¬s.EntryStale e) (hheld : ¬s.HeldForRead e)
    (hrestart : s.NoRestart) (hflight : 1 ≤ (s.run e.region).inFlight) :
    ((s.written e.region).unchanged e).drainTry e.key retried = s.again e retried := by
  let x : ParkEntry := { e with changed := false }
  let t := (s.written e.region).unchanged e
  have hparked : t.parked x.key = some x := State.parked_unchanged (s := s.written e.region) hsound hmem
  have hconfig : t.config e.region = s.config e.region := s.config_written ..
  have hroles : (t.run e.region).roles = (s.run e.region).roles := (s.run_written ..).2
  have hdraft : (t.run e.region).draftBank = (s.run e.region).draftBank := by rw [Runtime.draftBank, hroles, Runtime.draftBank]
  have hline : t.lineOfEntry x = s.lineOfEntry e := by
    show (t.config e.region).lineBase + _ = _
    rw [hconfig]
    rfl
  have hready : t.drainReady x.key = true := by
    refine State.drainReady_iff.mpr ⟨?_, ?_, hrestart⟩
    · rw [State.EntryStale, hline]
      show ¬(s.line _).stale.get (t.run e.region).draftBank = true
      rwa [hdraft]
    · rintro ⟨d, q, hhead, hreq, hcls, hreg, hserved, hhits⟩
      refine hheld ⟨d, q, hhead, hreq, hcls, hreg, hserved, ?_⟩
      rwa [← hconfig]
  have haccess : t.drainAccess x = s.drainOf e := by
    show (⟨.write, (t.config e.region).wordAddr (t.run e.region).draftBank e.word, 1, (t.config e.region).writerTag, _⟩ : Access) = _
    rw [hconfig, hdraft]
    rfl
  have hdirty' : (t.line (t.lineOfEntry x)).dirty = true := by
    rw [hline]
    exact hdirty
  show t.drainTry x.key retried = _
  rw [State.drainTry_ready hready, State.issueDrain_dirty hparked hdirty', haccess]
  have hentries := congrArg (fun t : State => t.park.entries) ((s.written e.region).unchanged_unchanged e)
  show ({ (s.written e.region).modRun e.region fun t => { t with inFlight := t.inFlight + 1 } with
    park := ⟨(((s.written e.region).unchanged e).unchanged e).park.entries, .writing e.key retried⟩
    bus := { s.bus with drainReq := some (s.drainOf e) } } : State) = _
  rw [State.unchanged_unchanged, State.entries_unchanged, State.written_again hflight]
  rfl

/-! ### A region faulted by its drain write (R100, R125) -/

/-- A fault reads neither the slot nor the number of writes in flight. -/
theorem State.FaultedIn.of_written {t : State} {cause : FaultCause} {line : Nat}
    (h : ((s.written r).setSlot .idle).FaultedIn t r cause line) : s.FaultedIn t r cause line := by
  have hregion : ((s.written r).setSlot .idle).region r =
      { s.region r with run := { s.run r with inFlight := (s.run r).inFlight - 1 } } := s.region_written r
  simp only [State.FaultedIn, State.noticeOf, State.run, State.config, hregion] at h ⊢
  exact h

end

end Sys2Proof.Machine


/-! SUPPORT. The drain write answered settled, by its answer and its region's phase. -/

namespace Sys2Proof.Machine

set_option Elab.async false

section
variable {s u : State} {c : Instr} {e : ParkEntry} {retried expired : Bool} {bus : MemoryBus}

/-- With its entry parked for the draft frame, a drain write that ends is only counted. -/
theorem State.draftWriteDone_eligible (hmem : e ∈ s.park.entries) (he : s.Eligible e) :
    s.draftWriteDone e.region = s.written e.region := by
  obtain ⟨hwork, htag⟩ := he
  refine State.draftWriteDone_plain ?_ fun _ hcomplete => ?_
  · rcases hwork with hp | hp <;> rw [hp] <;> nofun
  · refine hcomplete.2.2 e hmem rfl ?_
    rw [(s.run_written e.region e.region).1]
    exact htag

/-- The answer OKAY for an entry not merged into since: what its region's evaluation leaves, the entry gone. -/
theorem exec_drained (hslot : s.park.slot = .writing e.key retried) (hw : s.link.waiting = none) (hsound : s.park.Sound)
    (hmem : e ∈ s.park.entries) (he : s.Eligible e) (hflight : s.InFlight .drain .write 1) (hchanged : e.changed = false)
    (hpark : ∀ timer k, s.progress ≠ some (.waitPark timer k)) :
    exec (.memoryAnswer (.okay [])) s =
      .next (((((s.setBus { s.bus with port := .idle }).written e.region).removeEntry e.key).evaluate e.region).setSlot
        .idle).drainNext.grantNext := by
  let s₀ := s.setBus { s.bus with port := .idle }
  have hparked : (s₀.written e.region).parked e.key = some e := ParkQueue.Sound.parked (s := s₀.written e.region) hsound hmem
  have hwork := (State.eligible_written s₀ e.region e).mpr he
  refine exec_drainEnds (exec_answer_write hflight) hslot ?_ (by simp [State.written]) hw
  show (s₀.draftWriteDone e.region).drainAnswered e.key retried (.okay []) = _
  rw [State.draftWriteDone_eligible (s := s₀) hmem he, State.drainAnswered_okay hwork.1 hparked,
    State.drainDone_plain (s := s₀.written e.region) hchanged hpark (State.noRestart_of_none hw)]

/-- The answer for an entry whose write goes out again. -/
theorem exec_drainsAgain {x : Delivery} {once : Bool} (hexec : exec c s = .next ((s.setBus bus).endTransaction .drain x))
    (hslot : s.park.slot = .writing e.key retried) (hw : s.link.waiting = none) (hsound : s.park.Sound)
    (hmem : e ∈ s.park.entries) (he : s.Eligible e) (hdirty : (s.line (s.lineOfEntry e)).dirty = true)
    (hcurrent : ¬s.EntryStale e) (hheld : ¬s.HeldForRead e) (hflight : 1 ≤ (s.run e.region).inFlight)
    (hanswer : ((s.setBus bus).written e.region).drainAnswered e.key retried x =
      (((s.setBus bus).written e.region).unchanged e).drainTry e.key once) :
    CompletesGranting c s ((s.setBus bus).again e once) := by
  let s₀ := s.setBus bus
  refine .of_exec (exec_drainEnds hexec hslot ?_ rfl hw)
  show (s₀.draftWriteDone e.region).drainAnswered e.key retried x = _
  rw [State.draftWriteDone_eligible (s := s₀) hmem he, hanswer,
    State.drainTry_again (s := s₀) hsound hmem hdirty hcurrent hheld (State.noRestart_of_none hw) hflight]

end

/-- Settles O52. -/
theorem drainAnswered : Obligations.DrainAnswered := by
  intro s e retried hslot hw r t ok others left noPark
  have hsettled (s₁ : State) (hpark : s₁.park = s.park) (hreads : ∀ x, s₁.Eligible x ↔ s.Eligible x) (ho : others) :
      (s₁.removed e).DrainSettled :=
    State.drainSettled_removed fun x hx hkey => mt (hreads x).mp (ho x (hpark ▸ hx) hkey)
  have hrestart : s.NoRestart := State.noRestart_of_none hw
  refine ⟨fun hsound hmem he hflight => ⟨?_, ?_, ?_⟩, fun hsound hmem he hrange hdirty hcurrent hheld hcount => ?_,
    fun hsound hmem he hsecond hareas hview c expired bus hfails => ?_, fun ho hgone => ?_⟩
  · intro hchanged hphase ho hpark
    let s₀ := (s.setBus { s.bus with port := .idle }).written r
    refine .of_exec ((exec_drained hslot hw hsound hmem he hflight hchanged hpark).trans ?_)
    have hnot : (s₀.removeEntry e.key).phase r ≠ .pending := by
      show s₀.phase r ≠ _
      rw [State.phase_written]
      show s.phase r ≠ _
      rw [hphase]
      nofun
    rw [State.evaluate_of_ne_pending hnot, State.setSlot_removeEntry,
      State.drainNext_of_settled (hsettled s₀ rfl (fun x => State.eligible_written (s.setBus _) r x) ho)]
    rfl
  · intro hchanged hphase hpark done hcomplete hbank
    let s₀ := (s.setBus { s.bus with port := .idle }).written r
    have hcomplete' : (s₀.removeEntry e.key).DraftComplete r := by
      have hremoved : (s₀.removed e).DraftComplete r := hcomplete
      rw [← State.setSlot_removeEntry] at hremoved
      exact hremoved
    have hpend : (s₀.removeEntry e.key).phase r = .pending := (State.phase_written _ r r).trans hphase
    refine ⟨_, exec_drained hslot hw hsound hmem he hflight hchanged hpark, ?_⟩
    show (State.run (State.grantNext _) r).frame = _
    rw [State.run_congr (State.grantNext_frame _).1, (State.Beside.drainNext (r := r) _).frame]
    show ((State.evaluate _ r).run r).frame = _
    rw [State.evaluate_publishes hpend hcomplete' hbank]
    exact (State.frame_publish (s := s₀.removeEntry e.key) hcomplete'.2.1).trans
      (congrArg (· + 1) (State.run_written _ r r).1)
  · intro hchanged hphase ho hpark ends
    let s₀ := (s.setBus { s.bus with port := .idle }).written r
    have hpend : (s₀.removeEntry e.key).phase r = .pending := (State.phase_written _ r r).trans hphase
    have hrun := exec_drained hslot hw hsound hmem he hflight hchanged hpark
    have hends : (s₀.removeEntry e.key).setSlot .idle = ends := State.setSlot_removeEntry ..
    have hrest : ends.DrainSettled := hsettled s₀ rfl (fun x => State.eligible_written (s.setBus _) r x) ho
    have hsame : (s₀.removeEntry e.key).DraftComplete r ↔ ends.DraftComplete r := by
      rw [← hends]
      exact Iff.rfl
    refine ⟨fun hnot => .of_exec (hrun.trans ?_), fun hcomplete hbank => .of_exec (hrun.trans ?_)⟩
    · rw [State.evaluate_of_incomplete (s := s₀.removeEntry e.key) fun _ => mt hsame.mp hnot, hends,
        State.drainNext_of_settled hrest]
    · rw [State.evaluate_held (s := s₀.removeEntry e.key) hpend (hsame.mpr hcomplete) hbank, State.setSlot,
        (State.ports_heldNoted ..).2.1, ← State.heldNoted_setPark]
      show Host.Outcome.next (State.drainNext (((s₀.removeEntry e.key).setSlot .idle).heldNoted r)).grantNext = _
      rw [hends, State.drainNext_of_settled (hrest.heldNoted r)]
  · intro again
    have hlater (x : Delivery) (once : Bool) (c : Instr) (bus : MemoryBus)
        (hexec : exec c s = .next ((s.setBus bus).endTransaction .drain x))
        (hanswer : ((s.setBus bus).written r).drainAnswered e.key retried x =
          (((s.setBus bus).written r).unchanged e).drainTry e.key once) : CompletesGranting c s (again bus once) :=
      exec_drainsAgain hexec hslot hw hsound hmem he hdirty (by rw [State.EntryStale, hcurrent]; exact Bool.false_ne_true)
        hheld hcount hanswer
    have hparked (bus : MemoryBus) : ((s.setBus bus).written r).parked e.key = some e :=
      ParkQueue.Sound.parked (s := (s.setBus bus).written r) hsound hmem
    have hwork (bus : MemoryBus) := ((State.eligible_written (s.setBus bus) r e).mpr he).1
    refine ⟨fun hchanged hflight => hlater _ _ _ _ (exec_answer_write hflight) ?_, fun hfirst c expired bus hfails => ?_⟩
    · rw [State.drainAnswered_okay (hwork _) (hparked _), State.drainDone_changed hchanged]
      · rfl
      · exact hrestart
    · subst hfirst
      refine hlater _ _ _ _ (exec_failsBy hfails) ?_
      rw [State.drainAnswered_failed (hwork _) (hparked _), State.drainFailed_first]
      · rfl
      · exact hrestart
  · subst hsecond
    let s₀ := (s.setBus bus).written r
    have hactive : (s.phase r).active = true := by rcases he.1 with hp | hp <;> rw [hp] <;> rfl
    have hactive' : (s₀.setSlot .idle).AreasLaw ∧ ((s₀.setSlot .idle).phase r).active = true :=
      ⟨State.areasLaw_written (s := s.setBus bus) hareas, (congrArg Phase.active (State.phase_written _ r r)).trans hactive⟩
    have hstill := State.stills_fault (s := s₀.setSlot .idle) (r := r) (cause := .drain) (line := e.word / 16) (L := none)
      hactive'.1 hactive'.2 hview hw nofun
    refine ⟨_, exec_drainEnds (exec_failsBy hfails) hslot ?_ hstill.link hw, ?_⟩
    · show ((s.setBus bus).draftWriteDone r).drainAnswered e.key true (failure expired) = _
      rw [State.draftWriteDone_eligible (s := s.setBus bus) hmem he, State.drainAnswered_failed
        ((State.eligible_written (s.setBus bus) r e).mpr he).1
        (ParkQueue.Sound.parked (s := s₀) hsound hmem), State.drainFailed_second]
      · rfl
      · exact hrestart
    · refine State.FaultedIn.of_written (s := s.setBus bus) (State.faultedIn_of_stills hstill.grantNext fun d hd hhead => ?_)
      refine (congrArg HostPort.head (State.grantNext_frame _).2.2.2.2.1).trans ?_
      exact State.head_fault (s := s₀.setSlot .idle) hview hw hhead hd
  · intro ends ended
    have hlater (x : Delivery) (c : Instr) (bus : MemoryBus)
        (hexec : exec c s = .next ((s.setBus bus).endTransaction .drain x)) : ended c bus := by
      have hends : ((s.setBus bus).written r).setSlot .idle = ends bus := rfl
      have hrest : (ends bus).DrainSettled := by
        refine ⟨fun _ x hx => ?_, fun k y hk => by cases hk⟩
        refine State.eligible_eq_false_iff.mpr (mt (State.eligible_written s r x).mp (ho x hx ?_))
        exact fun hkey => hgone x hx (congrArg ParkKey.region hkey)
      refine ⟨fun hphase => .of_exec (exec_drainEnds hexec hslot ?_ rfl hw), fun hphase htaken hlines => ?_⟩
      · have hplain := State.draftWriteDone_plain (s := s.setBus bus) (r := r)
          (by show s.phase r ≠ _; rw [hphase]; nofun) (fun hp => by cases hphase.symm.trans hp)
        show ((s.setBus bus).draftWriteDone r).drainAnswered e.key retried x = _
        rw [hplain, State.drainAnswered_late, hends, State.drainNext_of_settled hrest]
        exact congrArg Phase.working ((State.phase_written _ r r).trans hphase)
      · have hback := State.foldBackIn_foldQueued (ends bus) r
        have hretire : ((s.setBus bus).written r).phase r = .retiring := (State.phase_written _ r r).trans hphase
        have hidle : ((((s.setBus bus).written r).foldBack r).phase r).working = false := by
          rw [State.foldBack_eq (s := (s.setBus bus).written r) (.inl htaken), State.phase,
            State.region_congr (State.regions_engineTake _)]
          exact (State.foldBackIn_foldQueued _ r).not_working hretire
        have hdone : ((ends bus).foldBack r).drainNext = ((ends bus).foldQueued r).engineTake := by
          rw [State.foldBack_eq (s := ends bus) (.inl htaken)]
          exact State.drainNext_of_settled (hback.settled hrest (State.slotApart_of_idle rfl r)).engineTake
        refine ⟨(ends bus).foldQueued r, .of_exec (exec_drainEnds hexec hslot (u := ((ends bus).foldQueued r).engineTake)
          ?_ ?_ hw), hback⟩
        · show ((s.setBus bus).draftWriteDone r).drainAnswered e.key retried x = _
          rw [State.draftWriteDone_retiring (s := s.setBus bus) hphase, State.drainAnswered_late hidle, ← hdone,
            State.setSlot, (State.foldBack_frame _ r).2.1, ← State.foldBack_setPark]
          rfl
        · rw [← hdone, (State.drainNext_frame _).2.2.2.2.2.1, (State.foldBack_frame _ r).2.2.2.2.2.1]
    exact ⟨fun hflight => hlater _ _ _ (exec_answer_write hflight), fun c expired bus hfails =>
      hlater _ _ _ (exec_failsBy hfails)⟩

end Sys2Proof.Machine


/-! SUPPORT. The acceptance of a retirement: what it leaves of the region, the views, the parked words and the head
(R43, R87, R101, R127, R128). -/

namespace Sys2Proof.Machine

set_option Elab.async false

section
variable {s : State} {k : Still} {r : RegionIx}

/-! ### The views of a region that does not publish, removed (R39, R57) -/

theorem State.Stills.setViews (h : s.Stills k) (x : Vector (Option View) 32) : (s.setViews x).Stills { k with views := x } :=
  ⟨h.kept, rfl, h.link, h.notices, h.lost, h.parked, h.fills, fun ix e hl =>
    have g := h.spares ix e hl
    ⟨g.areas, g.active, g.owns, g.line, g.queue, g.led, g.slot⟩⟩

/-- The same standing facts with the region's bank roles replaced. -/
def Still.withRoles (k : Still) (roles : PerBank Role) : Still :=
  { k with kept := { k.kept with run := { k.kept.run with roles := roles } } }

/-- The standing facts, up to the region's bank roles. -/
def State.StillsRoled (k : Still) (s : State) : Prop := ∃ roles, s.Stills (k.withRoles roles)

theorem State.Stills.roled (h : s.Stills k) : s.StillsRoled k := ⟨k.kept.run.roles, h⟩

theorem State.StillsRoled.phase (h : s.StillsRoled k) : s.phase k.region = k.kept.run.phase := by
  obtain ⟨roles, h⟩ := h
  exact (congrArg (fun g : Region => g.run.phase) h.kept :)

theorem State.StillsRoled.lastViewEnded (h : s.StillsRoled k) (hphase : k.kept.run.phase ≠ .pending) (b : Bank) :
    (s.lastViewEnded k.region b).StillsRoled k := by
  have hrest : s.Rested k.region := fun hp => absurd (h.phase.symm.trans hp) hphase
  obtain ⟨roles, h⟩ := h
  rw [State.lastViewEnded_of_rested hrest]
  unfold State.freed
  split
  · exact ⟨_, State.Stills.modRegion (k := k.withRoles roles) h
      (fun g => { g with run := { g.run with roles := g.run.roles.set .free b } }) rfl rfl⟩
  · exact ⟨roles, h⟩

theorem State.StillsRoled.reportBanks (h : s.StillsRoled k) (hphase : k.kept.run.phase ≠ .pending) {gone : List View}
    (hgone : ∀ v ∈ gone, v.region = k.region) : (s.reportBanks gone).StillsRoled k := by
  have hbanks (l : List Bank) {t : State} (ht : t.StillsRoled k) :
      (l.foldl (fun s b => s.lastViewEnded k.region b) t).StillsRoled k := by
    induction l generalizing t with
    | nil => exact ht
    | cons b l ih => exact ih (ht.lastViewEnded hphase b)
  have hregion {t : State} (ht : t.StillsRoled k) (j : RegionIx) : (t.reportRegion gone j).StillsRoled k := by
    by_cases hj : j = k.region
    · subst hj
      rw [State.reportRegion_eq]
      exact hbanks _ ht
    · rw [State.reportRegion_of_none fun v hv heq => hj (heq.symm.trans (hgone v hv))]
      exact ht
  rw [State.reportBanks]
  generalize regionIxs = l
  induction l generalizing s with
  | nil => exact h
  | cons j l ih => exact ih (hregion h j)

theorem State.Stills.removeViews_own (h : s.Stills k) (hphase : k.kept.run.phase ≠ .pending) :
    (s.removeViews fun _ v => v.on k.region).StillsRoled
      { k with views := (s.dropWhere fun _ v => v.on k.region).views } := by
  let test : Nat → View → Bool := fun _ v => v.on k.region
  have hdropped : (s.dropWhere test).StillsRoled { k with views := (s.dropWhere test).views } :=
    (h.setViews (s.dropWhere test).views).roled
  refine State.StillsRoled.reportBanks (k := { k with views := (s.dropWhere test).views }) hdropped hphase fun v hv => ?_
  obtain ⟨i, -, hi⟩ := List.mem_filterMap.mp hv
  obtain ⟨-, hon⟩ := Option.filter_eq_some_iff.mp hi
  simpa [View.on] using hon

/-! ### The acceptance (R127) -/

/-- A region's record at the acceptance of its retirement (R43, R127). -/
def Region.wound (g : Region) : Region := { g with life := g.life.winding, run := g.run.retiring }

/-- The region RETIRING, its FILL entries gone and its dirty lines stale in the DRAFT bank. -/
def State.wound (s : State) (r : RegionIx) : State :=
  let t := (s.modRegion r Region.wound).removeFills r
  t.modRange (t.config r) (LineEntry.abandoned (t.run r).draftBank)

theorem State.retireAccept_eq (s : State) (r : RegionIx) :
    s.retireAccept r =
      (((((s.wound r).parkDiscard r).removeViews fun _ v => v.on r).abortHead r).setTimer r .stopped).foldBack r := by
  have hboth : (s.modLife r Lifecycle.winding).modRun r Runtime.retiring = s.modRegion r Region.wound :=
    s.modRegion_modRegion r _ _
  rw [State.retireAccept, hboth]
  rfl

/-- What the acceptance of a retirement leaves as it was. -/
def State.retireStill (s : State) (r : RegionIx) : Still where
  region := r
  kept := (s.region r).wound
  views := s.views
  link := s.link
  raised := s.notices.queue
  lost := s.notices.lost
  fenced := False
  line := none

theorem State.stills_wound (hactive : (s.phase r).active = true) : ((s.wound r).dropEntries r).Stills (s.retireStill r) := by
  have hleft := State.stills_leaving (s := s) (r := r) (f := Region.wound) (u := s.notices) (fenced := False) (L := none)
    rfl hactive.symm nofun nofun
  exact hleft.setCatchup nofun nofun

end

end Sys2Proof.Machine


/-! SUPPORT. RETIRE_REGION settled. -/

namespace Sys2Proof.Machine

set_option Elab.async false

section
variable {s t : State} {r : RegionIx}

/-- What a fold-back leaves of its region's record: as it was, folding, or ended (R128, R130). -/
theorem State.region_foldBack (s : State) (r : RegionIx) :
    (s.foldBack r).region r = s.region r ∨
      (s.foldBack r).region r = s.foldingRegion r ∨ (s.foldBack r).region r = (s.foldingRegion r).ended := by
  by_cases hready : s.FoldReady r
  · have htaken : (s.folding r).engineTake.region r = s.foldingRegion r :=
      (State.region_congr (State.regions_engineTake _) r).trans (s.region_folding r)
    rw [State.foldBack_of_ready hready]
    unfold State.endIfFolded
    split
    · refine .inr (.inr ?_)
      rw [State.retirementEnd_eq]
      exact ((s.folding r).engineTake.region_modRegion_self r Region.ended).trans (congrArg Region.ended htaken)
    · exact .inr (.inl htaken)
  · exact .inl (by rw [State.foldBack_of_not hready])

/-- A region whose retirement has been accepted: what its record keeps, and what is cleared (R43, R127, R130). -/
structure Region.Leaving (g g' : Region) : Prop where
  moment : g'.run.phase = .retiring ∧ (g'.life.stage = .winding ∨ g'.life.stage = .folding) ∨
    g'.run.phase = .disabled ∧ g'.life.stage = .none
  folded : g'.life.linesFolded = 0
  unfolded : g'.life.linesUnfolded = 0
  frame : g'.run.frame = g.run.frame
  followOn : g'.run.followOn = false
  heldNotice : g'.run.heldNotice = false
  config : g'.config = g.config
  counters : g'.counters = g.counters
  timer : g'.timer = .stopped

/-- The region's record before its fold-back: RETIRING with its timer stopped, the roles as the views left them. -/
def Region.retired (g : Region) (roles : PerBank Role) : Region :=
  { g.wound with run := { g.wound.run with roles := roles }, timer := .stopped }

theorem Region.leaving_foldBack {g : Region} {roles : PerBank Role} (h : s.region r = g.retired roles) :
    g.Leaving ((s.foldBack r).region r) := by
  obtain hsame | hfolding | hended := s.region_foldBack r
  · rw [hsame, h]
    exact ⟨.inl ⟨rfl, .inl rfl⟩, rfl, rfl, rfl, rfl, rfl, rfl, rfl, rfl⟩
  · rw [hfolding, State.foldingRegion, h]
    exact ⟨.inl ⟨rfl, .inr rfl⟩, rfl, rfl, rfl, rfl, rfl, rfl, rfl, rfl⟩
  · rw [hended, State.foldingRegion, h]
    exact ⟨.inr ⟨rfl, rfl⟩, rfl, rfl, rfl, rfl, rfl, rfl, rfl, rfl⟩

/-- What the acceptance of a retirement leaves. -/
structure State.RetireAccepted (s t : State) (r : RegionIx) : Prop where
  region : (s.region r).Leaving (t.region r)
  views : ∀ (k : Slot) (v : View), t.view k = some v → v.region ≠ r
  parked : ∀ e ∈ t.park.entries, e.region ≠ r
  head : ∀ d : Decision, d.region = some r → s.HeadWaits (some d) →
    t.host.head = some ⟨.respond ⟨.waitAborted, []⟩, some d⟩
  link : t.link = s.link

theorem State.retireAccepted (hactive : (s.phase r).active = true) (hw : s.link.waiting = none) (hview : s.NoViewWaits) :
    s.RetireAccepted (s.retireAccept r) r := by
  let discarded := (s.wound r).parkDiscard r
  let unviewed := discarded.removeViews fun _ v => v.on r
  let aborted := unviewed.abortHead r
  have hdiscarded : discarded.Stills (s.retireStill r) :=
    State.Stills.parkDiscard (k := s.retireStill r) (State.stills_wound hactive) hview hw nofun
  obtain ⟨roles, hunviewed⟩ := State.Stills.removeViews_own (k := s.retireStill r) hdiscarded nofun
  have hhost : unviewed.host = discarded.host := (State.removeViews_frame ..).1
  have hwaits : unviewed.NoViewWaits := fun d hd => State.NoViewWaits.parkDiscard (s := s.wound r) hview hw d (hd.congr hhost.symm)
  have hlink : unviewed.link.waiting = none := hunviewed.link ▸ hw
  have haborted := State.Stills.abortHead hunviewed
    (fun hon => let ⟨d, _, hd⟩ := State.headWaitsOn_iff.mp hon; hwaits.serves hd) hlink
  have hstopped := haborted.modRegion (fun g => { g with timer := .stopped }) rfl rfl
  have hleftViews : (aborted.setTimer r .stopped).views = (discarded.dropWhere fun _ v => v.on r).views := hstopped.views
  obtain ⟨hviews, hpark, hfoldHost, -, -, hfoldLink, -⟩ := (aborted.setTimer r .stopped).foldBack_frame r
  rw [State.retireAccept_eq]
  refine ⟨Region.leaving_foldBack (roles := roles) hstopped.kept, fun k v hk => ?_, fun e he => ?_, fun d hd hdwaits => ?_,
    hfoldLink.trans hstopped.link⟩
  · have hleft : (discarded.dropWhere fun _ v => v.on r).view k = some v := by
      rw [← hk, State.view, State.view, hviews, hleftViews]
    rw [State.view_dropWhere] at hleft
    have hnot := (Option.filter_eq_some_iff.mp hleft).2
    simpa [View.on] using hnot
  · rw [hpark] at he
    exact hstopped.parked e he
  · rw [hfoldHost]
    have hon : (s.wound r).headWaitsOn r = true := State.headWaitsOn_iff.mpr ⟨d, hd, hdwaits⟩
    have hdwaits' : unviewed.HeadWaits (some d) := hdwaits.congr (hhost.trans (State.host_parkDiscard hon))
    exact State.head_abortHead hdwaits' hd hwaits hlink

end

/-- Settles O29. -/
theorem regionRetired : Obligations.RegionRetired := by
  intro seq region s hs c
  obtain ⟨hnak, hrun⟩ := CompletesGranting.of_region (run := fun t r => t.retireRegion seq r) (c := c) rfl hs
  refine ⟨hnak, fun r hr => ⟨fun hphase => .of_exec ?_, fun hphase => .of_exec ?_, fun hphase hw hview => ?_⟩⟩
  · have hdisabled : s.executing.phase r = .disabled := hphase
    rw [hrun r hr, State.retireRegion, hdisabled, State.badState, hdisabled]
    rfl
  · have hretiring : s.executing.phase r = .retiring := hphase
    rw [hrun r hr, State.retireRegion, hretiring]
    rfl
  · have hactive : (s.phase r).active = true := by rcases hphase with h | h | h <;> rw [h] <;> rfl
    have haccept := State.retireAccepted (s := s.executing) (r := r) hactive hw hview
    have hexec : exec c s = .next ((s.executing.retireAccept r).ack seq []).grantNext := by
      rw [hrun r hr, State.retireRegion]
      rcases hphase with h | h | h <;> rw [show s.executing.phase r = _ from h]
    obtain ⟨hclock', hstrobes', -⟩ := s.executing.retireAccept_frame r
    generalize s.executing.retireAccept r = u at haccept hexec hclock' hstrobes'
    obtain ⟨hregions, hviews, -, hpark, hhost, hclock, hstrobes, -, hlink, -⟩ := (u.ack seq []).grantNext_frame
    refine ⟨_, hexec, ?_⟩
    have hregion : (s.region r).Leaving ((u.ack seq []).grantNext.region r) := by
      rw [State.region_congr hregions]
      exact haccept.region
    refine ⟨hregion.moment, hregion.folded, hregion.unfolded, hregion.frame, hregion.followOn, hregion.heldNotice,
      hregion.config, hregion.counters, hregion.timer, fun k v hk => haccept.views k v ?_, fun e he => ?_,
      fun d hd hwaits => ?_, hclock.trans hclock', hstrobes.trans hstrobes', hlink.trans ?_⟩
    · rw [← hk, State.view, State.view, hviews]
      rfl
    · rw [hpark] at he
      exact haccept.parked e he
    · rw [hhost]
      exact haccept.head d hd hwaits
    · exact congrArg (fun l : Link => { l with state := .ready, slot := some (ackOf seq []), waiting := none }) haccept.link

end Sys2Proof.Machine


/-! SUPPORT. An enable applied: its region's record, its lines and the engine's first take (R41, R68, R72, R123). -/

namespace Sys2Proof.Machine

set_option Elab.async false

section
variable {s : State} {r : RegionIx}

/-! ### The enable, block by block -/

/-- A region's record after its enable (R41, R114, R119). -/
def Region.enabled (g : Region) : Region :=
  { g with run := .enabled, life := .enabled, timer := g.config.startedTimer }

/-- The enabled region with its lines stale and queued, before the engine takes one. -/
def State.enabling (s : State) (r : RegionIx) : State :=
  ((s.modRegion r Region.enabled).modRange (s.config r) LineEntry.enabled).appended .fill (s.config r).lineIxs

theorem State.enableApply_eq (s : State) (r : RegionIx) (seq : Byte) :
    s.enableApply r seq = (s.enabling r).engineTake.answered (ackOf seq []) := by
  have hregion : (s.modLife r fun _ => .enabled).modRun r (fun _ => .enabled) =
      s.modRegion r fun g => { g with run := .enabled, life := .enabled } := s.modRegion_modRegion r _ _
  have hdone : (s.modRegion r fun g => { g with run := .enabled, life := .enabled }).modRegion r
      (fun g => { g with timer := (s.config r).startedTimer }) = s.modRegion r Region.enabled :=
    s.modRegion_modRegion r _ _
  rw [State.enableApply, hregion]
  show (((((s.modRegion r fun g => { g with run := .enabled, life := .enabled }).modRange (s.config r) LineEntry.enabled).appended
    .fill (s.config r).lineIxs).engineTake).modRegion r fun g => { g with timer := (s.config r).startedTimer }).answered
      (ackOf seq []) = _
  rw [State.modRegion_engineTake _ r rfl rfl rfl]
  refine congrArg (fun t : State => t.engineTake.answered (ackOf seq [])) ?_
  exact congrArg (fun t : State => (t.modRange (s.config r) LineEntry.enabled).appended .fill (s.config r).lineIxs) hdone

theorem State.region_enabling (s : State) (r : RegionIx) : (s.enabling r).region r = (s.region r).enabled :=
  s.region_modRegion_self r Region.enabled

theorem State.region_enabling_ne {j : RegionIx} (hj : j ≠ r) : (s.enabling r).region j = s.region j :=
  s.region_modRegion_ne hj Region.enabled

theorem State.config_enabling (s : State) (r j : RegionIx) : (s.enabling r).config j = s.config j := by
  by_cases hj : j = r
  · subst hj
    exact (congrArg Region.config (s.region_enabling j) :)
  · exact (congrArg Region.config (State.region_enabling_ne hj) :)

theorem State.line_enabling (s : State) (r : RegionIx) (ix : Nat) :
    (s.enabling r).line ix =
      if (s.config r).ownsLine ix = true ∧ ix < 2048 then { (s.line ix).enabled with queued := true } else s.line ix := by
  by_cases hlt : ix < 2048
  · rw [State.enabling, State.line_appended _ _ _ hlt, State.line_modRange _ _ _ _ hlt]
    by_cases howns : (s.config r).ownsLine ix = true
    · have hmem : (s.config r).lineIxs.contains ix = true := List.contains_iff_mem.mpr (RegionConfig.mem_lineIxs.mpr howns)
      rw [if_pos hmem, if_pos howns, if_pos ⟨howns, hlt⟩]
      rfl
    · have hmem : ¬(s.config r).lineIxs.contains ix = true := fun h =>
        howns (RegionConfig.mem_lineIxs.mp (List.contains_iff_mem.mp h))
      rw [if_neg hmem, if_neg howns, if_neg fun h => howns h.1]
      rfl
  · have hge := not_lt.mp hlt
    rw [State.line_of_ge _ hge, if_neg fun h => hlt h.2, State.line_of_ge _ hge]

theorem State.queue_enabling (s : State) (r : RegionIx) :
    (s.enabling r).catchup.queue =
      s.catchup.queue ++ (List.range (s.config r).lines).map fun n => ⟨(s.config r).lineBase + n, .fill⟩ := by
  show s.catchup.queue ++ (s.config r).lineIxs.map _ = _
  rw [RegionConfig.lineIxs, List.map_map]
  rfl

/-- A line the engine takes is no longer queued but busy; every other line stays. -/
theorem State.line_engineTake (s : State) (ix : Nat) :
    s.engineTake.line ix = s.line ix ∨
      ∃ e rest, s.catchup.queue = e :: rest ∧ ix = e.line ∧ s.engineTake.line ix = { s.line ix with queued := false, busy := true } := by
  unfold State.engineTake
  split
  · next e rest _ hqueue =>
    split
    · exact .inl rfl
    · next i _ =>
      by_cases hlt : ix < 2048
      · have hline : (((s.setQueue rest).modLine e.line fun x => { x with queued := false, busy := true }).startReading
            (s.resolveCopy e i) false).line ix =
            if ix = e.line then { s.line ix with queued := false, busy := true } else s.line ix :=
          State.line_modLine (s.setQueue rest) e.line ix _ hlt
        by_cases hix : ix = e.line
        · exact .inr ⟨e, rest, hqueue, hix, hline.trans (if_pos hix)⟩
        · exact .inl (hline.trans (if_neg hix))
      · have hge := not_lt.mp hlt
        exact .inl (by rw [State.line_of_ge _ hge, State.line_of_ge _ hge])
  · exact .inl rfl

/-! ### The enable is as R123 has it -/

theorem State.regionOfLine_of_unique {ix : Nat} (hactive : (s.phase r).active = true) (howns : (s.config r).ownsLine ix = true)
    (hunique : ∀ j, j ≠ r → (s.phase j).active = true → (s.config j).ownsLine ix = false) : s.regionOfLine ix = some r := by
  cases hfound : s.regionOfLine ix with
  | none => simpa [hactive, howns] using List.find?_eq_none.mp hfound r (mem_regionIxs r)
  | some j =>
    have hj := List.find?_some hfound
    rw [Bool.and_eq_true] at hj
    obtain ⟨hjactive, hjowns⟩ := hj
    by_contra hne
    exact Bool.false_ne_true ((hunique j (fun h => hne (h ▸ rfl)) hjactive).symm.trans hjowns)

/-- A region that fails against no active one has its lines for itself (R121). -/
theorem State.ownsLine_of_noConflict (h : s.conflict r = none) {ix : Nat} (howns : (s.config r).ownsLine ix = true) {j : RegionIx}
    (hj : j ≠ r) (hactive : (s.phase j).active = true) : (s.config j).ownsLine ix = false := by
  have hlines := (configsOverlap_eq_false_iff.mp (State.conflict_eq_none_iff.mp h j hj hactive)).2
  simp only [overlaps, RegionConfig.ownsLine, Bool.and_eq_true, Bool.and_eq_false_iff, decide_eq_true_eq,
    decide_eq_false_iff_not] at *
  omega

/-- The first line of an enabled region, taken by an idle engine with nothing else queued. -/
theorem State.engineTake_enabling (hconflict : s.conflict r = none) (hidle : s.catchup.engine = .idle)
    (hqueue : s.catchup.queue = []) (hlines : 1 ≤ (s.config r).lines) :
    (s.enabling r).engineTake =
      (((s.enabling r).setQueue ((List.range ((s.config r).lines - 1)).map fun n => ⟨(s.config r).lineBase + 1 + n, .fill⟩)).modLine
        (s.config r).lineBase fun x => { x with queued := false, busy := true }).startReading
          ⟨(s.config r).lineBase, .fill, r, .bankA, .bankB⟩ false := by
  have hqueue' : (s.enabling r).catchup.queue =
      ⟨(s.config r).lineBase, .fill⟩ ::
        (List.range ((s.config r).lines - 1)).map fun n => ⟨(s.config r).lineBase + 1 + n, .fill⟩ := by
    rw [State.queue_enabling, hqueue, List.nil_append]
    obtain ⟨n, hn⟩ : ∃ n, (s.config r).lines = n + 1 := ⟨_, (Nat.sub_add_cancel hlines).symm⟩
    rw [hn, List.range_succ_eq_map, List.map_cons, List.map_map, Nat.add_sub_cancel]
    refine congrArg _ (List.map_congr_left fun m _ => ?_)
    simp only [Function.comp, Nat.succ_eq_add_one]
    rw [Nat.add_assoc, Nat.add_comm m 1]
  have howns : (s.config r).ownsLine (s.config r).lineBase = true := by
    rw [RegionConfig.ownsLine, Bool.and_eq_true]
    exact ⟨decide_eq_true le_rfl, decide_eq_true (by omega)⟩
  have hregion := s.region_enabling r
  have hof : (s.enabling r).regionOfLine (s.config r).lineBase = some r := by
    refine State.regionOfLine_of_unique ?_ (by rw [State.config_enabling]; exact howns) fun j hj hactive => ?_
    · rw [State.phase, hregion]
      rfl
    · rw [State.config_enabling]
      rw [State.phase, State.region_enabling_ne hj] at hactive
      exact State.ownsLine_of_noConflict hconflict howns hj hactive
  have hcopy : (s.enabling r).resolveCopy ⟨(s.config r).lineBase, .fill⟩ r = ⟨(s.config r).lineBase, .fill, r, .bankA, .bankB⟩ := by
    rw [State.resolveCopy, State.run, hregion]
    rfl
  have hidle' : (s.enabling r).catchup.engine = .idle := hidle
  rw [State.engineTake, hidle', hqueue']
  simp only [hof, hcopy]

theorem State.enabledIn_enableApply (hlines : (s.config r).lineBase + (s.config r).lines ≤ 2048)
    (hconflict : s.conflict r = none) (seq : Byte) : s.EnabledIn (s.enableApply r seq) r seq := by
  let t := (s.enabling r).engineTake
  have hregions : t.regions = (s.enabling r).regions := State.regions_engineTake _
  obtain ⟨-, hviews, hpark, hhost, hclock, hstrobes, hnotices, hlink, hpending⟩ := (s.enabling r).engineTake_frame
  have howns {ix : Nat} : (s.config r).ownsLine ix = true ↔ (s.config r).lineBase ≤ ix ∧ ix < (s.config r).lineBase + (s.config r).lines := by
    rw [RegionConfig.ownsLine, Bool.and_eq_true, decide_eq_true_iff, decide_eq_true_iff]
  have hin (ix : Nat) (hlow : (s.config r).lineBase ≤ ix) (hhigh : ix < (s.config r).lineBase + (s.config r).lines) :
      (s.enabling r).line ix = { (s.line ix).enabled with queued := true } := by
    rw [State.line_enabling, if_pos ⟨howns.mpr ⟨hlow, hhigh⟩, by omega⟩]
  have hout (ix : Nat) (h : ix < (s.config r).lineBase ∨ (s.config r).lineBase + (s.config r).lines ≤ ix) :
      (s.enabling r).line ix = s.line ix := by
    rw [State.line_enabling, if_neg fun hown => by have := howns.mp hown.1; omega]
  rw [State.enableApply_eq]
  refine ⟨?_, fun j hj => ?_, fun ix hlow hhigh => ?_, fun hbusy => ?_, fun hidle hqueue hone => ?_, hviews, hpark, hhost,
    hclock, hstrobes, hnotices, ?_, hpending⟩
  · refine (State.region_congr hregions r).trans ((s.region_enabling r).trans ?_)
    rfl
  · exact (State.region_congr hregions j).trans (State.region_enabling_ne hj)
  · show (t.line ix).stale = _ ∧ (t.line ix).dirty = _ ∧ (t.line ix).queued = !(t.line ix).busy
    obtain hsame | ⟨-, -, -, -, htaken⟩ := (s.enabling r).line_engineTake ix
    · rw [hsame, hin ix hlow hhigh]
      exact ⟨rfl, rfl, rfl⟩
    · rw [htaken, hin ix hlow hhigh]
      exact ⟨rfl, rfl, rfl⟩
  · have htake : t = s.enabling r := State.engineTake_of_busy hbusy
    show (∀ ix, _ → _ → (t.line ix).busy = false) ∧ (∀ ix, _ → t.line ix = _) ∧ t.catchup.queue = _ ∧ t.catchup.engine = _ ∧ t.bus = _
    rw [htake]
    exact ⟨fun ix hlow hhigh => by rw [hin ix hlow hhigh]; rfl, hout, s.queue_enabling r, rfl, rfl⟩
  · have htake : t = _ := State.engineTake_enabling hconflict hidle hqueue hone
    have hline (ix : Nat) : t.line ix = if ix = (s.config r).lineBase then
        { (s.enabling r).line ix with queued := false, busy := true } else (s.enabling r).line ix := by
      rw [htake]
      by_cases hlt : ix < 2048
      · exact State.line_modLine ((s.enabling r).setQueue _) (s.config r).lineBase ix
          (fun x => { x with queued := false, busy := true }) hlt
      · have hge := not_lt.mp hlt
        rw [if_neg (by omega), State.line_of_ge _ hge, State.line_of_ge _ hge]
    refine ⟨fun ix hlow hhigh => ?_, fun ix h => ?_, ?_, ?_, ?_⟩
    · show (t.line ix).busy = true ↔ _
      rw [hline, hin ix hlow hhigh]
      split
      · next h => exact iff_of_true rfl h
      · next h => exact iff_of_false Bool.false_ne_true h
    · show t.line ix = _
      rw [hline, if_neg (by omega), hout ix h]
    · show t.catchup.queue = _
      rw [htake]
      rfl
    · show t.catchup.engine = _
      rw [htake]
      rfl
    · show t.bus = _
      have haddr : ((s.enabling r).config r).lineAddr .bankA (s.config r).lineBase = (s.config r).windowBase := by
        rw [State.config_enabling, RegionConfig.lineAddr, Nat.sub_self]
        exact BitVec.add_zero _
      have htag : ((s.enabling r).config r).writerTag = (s.config r).writerTag := by rw [State.config_enabling]
      rw [htake, State.startReading, State.copyRead]
      show ({ s.bus with catchReq := some ⟨.read, ((s.enabling r).config r).lineAddr .bankA (s.config r).lineBase, 16,
        ((s.enabling r).config r).writerTag, []⟩ } : MemoryBus) = _
      rw [haddr, htag]
  · exact congrArg (fun l : Link => { l with state := .ready, slot := some (ackOf seq []), waiting := none }) hlink

end

end Sys2Proof.Machine


/-! SUPPORT. ENABLE_REGION settled: refused, waiting, or applied (R120 to R123). -/

namespace Sys2Proof.Machine

set_option Elab.async false

section
variable {s : State} {r : RegionIx}

/-! ### The lowest region that fails (R121) -/

/-- Two regions share a byte or a line-state index. -/
def sharesWith (c d : RegionConfig) : Prop :=
  (∃ addr : Nat, c.inAreas addr = true ∧ d.inAreas addr = true) ∨
    ∃ ix : Nat, c.ownsLine ix = true ∧ d.ownsLine ix = true

theorem overlaps_iff {a n b m : Nat} : overlaps a n b m = true ↔ ∃ x, (a ≤ x ∧ x < a + n) ∧ b ≤ x ∧ x < b + m := by
  simp only [overlaps, Bool.and_eq_true, decide_eq_true_eq]
  refine ⟨fun h => ⟨max a b, ?_⟩, ?_⟩
  · omega
  · rintro ⟨x, hx⟩
    omega

theorem configsOverlap_iff {c d : RegionConfig} : configsOverlap c d = true ↔ sharesWith c d := by
  have hlines : overlaps c.lineBase c.lines d.lineBase d.lines = true ↔ ∃ ix, c.ownsLine ix = true ∧ d.ownsLine ix = true := by
    simp only [overlaps_iff, RegionConfig.ownsLine, Bool.and_eq_true, decide_eq_true_eq]
  have hbanks (b e : Bank) : bankOverlap c d b e = true ↔ ∃ addr, c.inBank b addr = true ∧ d.inBank e addr = true := by
    simp only [bankOverlap, overlaps_iff, RegionConfig.inBank, Bool.and_eq_true, decide_eq_true_eq]
  rw [configsOverlap, Bool.or_eq_true, hlines, sharesWith]
  refine or_congr_left ?_
  simp only [List.any_eq_true, mem_banks, true_and, hbanks, RegionConfig.inAreas_iff]
  exact ⟨fun ⟨b, e, addr, hb, he⟩ => ⟨addr, ⟨b, hb⟩, e, he⟩, fun ⟨addr, ⟨b, hb⟩, e, he⟩ => ⟨b, e, addr, hb, he⟩⟩

/-- An active region other than `r` that `r` fails against. -/
def State.FailsAgainst (s : State) (r j : RegionIx) : Prop :=
  j ≠ r ∧ (s.phase j).active = true ∧ sharesWith (s.config r) (s.config j)

theorem State.conflict_test {j : RegionIx} :
    (j != r && (s.phase j).active && configsOverlap (s.config r) (s.config j)) = true ↔ s.FailsAgainst r j := by
  rw [Bool.and_eq_true, Bool.and_eq_true, bne_iff_ne, configsOverlap_iff, and_assoc]
  rfl

theorem State.conflict_none (h : ∀ j, ¬s.FailsAgainst r j) : s.conflict r = none :=
  List.find?_eq_none.mpr fun j _ => mt State.conflict_test.mp (h j)

theorem State.conflict_lowest {j : RegionIx} (h : s.FailsAgainst r j) (hlow : ∀ i, i < j → ¬s.FailsAgainst r i) :
    s.conflict r = some j := by
  have hsorted : regionIxs.Pairwise (· < ·) := by decide
  cases hfound : s.conflict r with
  | none => exact absurd (State.conflict_test.mpr h) (List.find?_eq_none.mp hfound j (mem_regionIxs j))
  | some i =>
    obtain ⟨hi, before, after, hsplit, hbefore⟩ := List.find?_eq_some_iff_append.mp hfound
    have hle : ¬i < j := fun hlt => hlow i hlt (State.conflict_test.mp hi)
    have hmem : j ∈ before ++ i :: after := hsplit ▸ mem_regionIxs j
    rw [hsplit] at hsorted
    rcases List.mem_append.mp hmem with hb | ha
    · exact Bool.noConfusion ((State.conflict_test.mpr h).symm.trans ((Bool.not_eq_true' _).mp (hbefore j hb)))
    · rcases List.mem_cons.mp ha with rfl | ha
      · rfl
      · exact absurd ((List.pairwise_cons.mp (List.pairwise_append.mp hsorted).2.1).1 j ha) hle

/-! ### A PASS access of the head into one of the region's areas (R122) -/

theorem State.passInto_iff :
    s.passInto r = true ↔ ∃ (q : HostRequest) (d : Decision), s.host.head = some ⟨.waitMemory, some d⟩ ∧
      s.headRequest = some q ∧ d.cls = .pass ∧ (s.config r).inAreas (4 * q.addr.toNat) = true := by
  unfold State.passInto
  split
  · next d q hhead hreq =>
    rw [Bool.and_eq_true, beq_iff_eq]
    refine ⟨fun ⟨hcls, hin⟩ => ⟨q, d, hhead, hreq, hcls, hin⟩, ?_⟩
    rintro ⟨q', d', hhead', hreq', hcls, hin⟩
    cases hhead.symm.trans hhead'
    cases hreq.symm.trans hreq'
    exact ⟨hcls, hin⟩
  · next hno =>
    refine ⟨nofun, ?_⟩
    rintro ⟨q, d, hhead, hreq, -⟩
    exact absurd hreq (hno d q hhead)

theorem State.passInto_eq_false
    (h : ∀ (q : HostRequest) (d : Decision), s.host.head = some ⟨.waitMemory, some d⟩ → s.headRequest = some q →
      d.cls = .pass → (s.config r).inAreas (4 * q.addr.toNat) = false) : s.passInto r = false := by
  rw [← Bool.not_eq_true, State.passInto_iff]
  rintro ⟨q, d, hhead, hreq, hcls, hin⟩
  exact Bool.false_ne_true ((h q d hhead hreq hcls).symm.trans hin)

theorem State.enableRegion_of_stored {seq : Byte} (hphase : s.phase r = .disabled) (hwritten : (s.region r).written = true) :
    s.executing.enableRegion seq r =
      match s.executing.conflict r with
      | some j => s.executing.nak seq ⟨.badArgument, BitVec.ofNat 8 j.val⟩
      | none => s.executing.enableOrWait r seq := by
  have hcond : ¬((s.executing.phase r).active || !(s.executing.region r).written) = true := by
    show ¬((s.phase r).active || !(s.region r).written) = true
    rw [hphase, hwritten]
    exact Bool.false_ne_true
  exact if_neg hcond

end

/-- Settles O27: the checks in their order, then the wait or the enable. -/
theorem regionEnabled : Obligations.RegionEnabled := by
  intro seq region s hs c shares fails
  obtain ⟨hnak, hrun⟩ := CompletesGranting.of_region (run := fun t r => t.enableRegion seq r) (c := c) rfl hs
  refine ⟨hnak, fun r hr => ⟨fun hrefused => .of_exec ?_, fun hphase hwritten => ⟨fun j hj hlow => .of_exec ?_,
    fun hnone => ⟨fun q d hhead hreq hcls hin => .of_exec ?_, fun hlines hpass => ?_⟩⟩⟩⟩
  · have hcond : ((s.executing.phase r).active || !(s.executing.region r).written) = true := by
      rw [Bool.or_eq_true]
      refine hrefused.imp (fun h => Phase.active_of_ne h) fun h => ?_
      show (!(s.region r).written) = true
      rw [h]
      rfl
    rw [hrun r hr, State.enableRegion, if_pos hcond]
    rfl
  · rw [hrun r hr, State.enableRegion_of_stored hphase hwritten, State.conflict_lowest (s := s.executing) hj hlow]
    rfl
  · have hpass : s.executing.passInto r = true := State.passInto_iff.mpr ⟨q, d, hhead, hreq, hcls, hin⟩
    rw [hrun r hr, State.enableRegion_of_stored hphase hwritten, State.conflict_none (s := s.executing) hnone,
      State.enableOrWait, if_pos hpass]
    rfl
  · have hconflict : s.executing.conflict r = none := State.conflict_none (s := s.executing) hnone
    have hclear : s.executing.passInto r = false := State.passInto_eq_false (s := s.executing) hpass
    refine ⟨s.executing.enableApply r seq, .of_exec ?_, State.enabledIn_enableApply (s := s.executing) hlines hconflict seq⟩
    rw [hrun r hr, State.enableRegion_of_stored hphase hwritten, hconflict, State.enableOrWait, hclear]
    rfl

end Sys2Proof.Machine


/-! SUPPORT. A waiting enable applied, by its own happening and by the answers that end what it waited for (R122, R123,
R136, R141). -/

namespace Sys2Proof.Machine

set_option Elab.async false

section
variable {s u : State} {r : RegionIx} {seq : Byte}

theorem State.EntriesLaw.noConflict (h : s.EntriesLaw) {o : Bool} (hw : s.link.waiting = some (.enable r seq o)) :
    s.conflict r = none := (h.2.2 r seq o hw).2

theorem State.EntriesLaw.lines_le (h : s.EntriesLaw) {o : Bool} (hw : s.link.waiting = some (.enable r seq o)) :
    (s.config r).lineBase + (s.config r).lines ≤ 2048 := (h.1 r (h.2.2 r seq o hw).1).2.2

/-- The enable that waits, applied as R123 has it. -/
theorem State.EntriesLaw.enabledIn (h : s.EntriesLaw) {o : Bool} (hw : s.link.waiting = some (.enable r seq o)) :
    s.EnabledIn (s.enableApply r seq) r seq := State.enabledIn_enableApply (h.lines_le hw) (h.noConflict hw) seq

theorem State.enableDue_applies (hw : s.link.waiting = some (.enable r seq false)) (hpass : s.passInto r = false) :
    s.enableDue = s.enableApply r seq := by
  rw [State.enableDue, hw]
  exact if_neg (by rw [hpass]; exact Bool.false_ne_true)

theorem exec_enableApplied (hw : s.link.waiting = some (.enable r seq false)) (hpass : s.passInto r = false) :
    exec .enableApplied s = .next ((s.enableApply r seq).decideHead).grantNext := by
  show execEnableApplied s = _
  rw [execEnableApplied, hw]
  exact if_neg (by rw [hpass]; exact Bool.false_ne_true)

theorem State.decideHead_of_not_decide (h : s.progress ≠ some .decide) : s.decideHead = s := by
  unfold State.decideHead
  split
  · next d q hhead _ => exact absurd (by rw [State.progress, hhead]; rfl) h
  · rfl

/-- A head in DECIDE is decided as the next head is once a response has been taken. -/
theorem CompletesDeciding.of_exec {c : Instr} (h : exec c s = .next u.decideHead.grantNext)
    (hhead : u.host.head = some ⟨.decide, none⟩) (hqueue : u.host.queue ≠ []) : CompletesDeciding c s u := by
  refine ⟨_, h, fun gone resp d => ?_⟩
  have hnext : (HostPort.next { u.host with queue := gone :: u.host.queue, head := some ⟨.respond resp, d⟩ }) = u.host := by
    have hempty : u.host.queue.isEmpty = false := List.isEmpty_eq_false_iff.mpr hqueue
    rw [HostPort.next, List.tail_cons, hempty, ← hhead]
    rfl
  rw [exec_hostResponseTaken]
  show Host.Outcome.next (State.grantNext (State.decideHead (u.setHost (HostPort.next _)))) = _
  rw [hnext]
  rfl

theorem State.link_enableApply (s : State) (r : RegionIx) (seq : Byte) :
    (s.enableApply r seq).link = (s.answered (ackOf seq [])).link := s.enableApply_link r seq

theorem State.drainRelease_of_free (h : ∀ k x, s.park.slot ≠ .waiting k x) : s.drainRelease = s := by
  unfold State.drainRelease
  split
  · next k x hslot => exact absurd hslot (h k x)
  · rfl

/-- A write that no view serves is answered OKAY: its response, then an enable that waited, then the slot. -/
theorem State.answerHead_write {q : HostRequest} {d : Decision} (hhead : s.host.head = some ⟨.waitMemory, some d⟩)
    (hreq : s.headRequest = some q) (hview : d.view = none) (hkind : q.kind = .write) :
    s.answerHead (.okay []) =
      ({ s with host := { s.host with head := some ⟨.respond ⟨.okay, []⟩, some d⟩ } } : State).enableDue.drainRelease := by
  have hdec : s.decision = some d := by rw [State.decision, hhead]; rfl
  have hset : s.setProgress (.respond (.okay [])) =
      { s with host := { s.host with head := some ⟨.respond ⟨.okay, []⟩, some d⟩ } } := by
    rw [State.setProgress, hhead]
    rfl
  have huse : (s.setProgress (.respond (.okay []))).endDecisionUse s.decision = s.setProgress (.respond (.okay [])) :=
    State.endDecisionUse_of_none fun x hx => Option.some.inj (hdec.symm.trans hx) ▸ hview
  rw [State.answerHead, hhead, hreq]
  show s.giveResponse (s.memoryResponse q d (.okay [])) = _
  rw [State.memoryResponse, hkind]
  show (((s.setProgress (.respond (.okay []))).endDecisionUse s.decision).enableDue).drainRelease = _
  rw [huse, hset]

end

/-- Settles O28: the enable applied, the head held back decided after it, and the answers that free it. -/
theorem enableApplied : Obligations.EnableApplied := by
  refine ⟨fun s r seq hw hentries => ⟨fun hdecide hpass => ?_, fun hhead hqueue => ?_, ?_⟩, ?_⟩
  · have hclear := State.passInto_eq_false hpass
    refine ⟨_, .of_exec ((exec_enableApplied hw hclear).trans ?_), hentries.enabledIn hw⟩
    rw [State.decideHead_of_not_decide]
    rw [State.progress, (s.enableApply_frame r seq).2.2.1]
    exact hdecide
  · have hclear : s.passInto r = false := by
      rw [State.passInto, hhead]
    have hhost : (s.enableApply r seq).host = s.host := (s.enableApply_frame r seq).2.2.1
    exact ⟨_, .of_exec (exec_enableApplied hw hclear) (by rw [hhost, hhead]) (by rwa [hhost]), hentries.enabledIn hw⟩
  · intro q d a timer hhead hreq hcls hview hkind hport hwrite hslot
    let s₀ := s.setBus { s.bus with port := .idle }
    let ended : State :=
      { s with
        host := { s.host with head := some ⟨.respond ⟨.okay, []⟩, some d⟩ }
        bus := { s.bus with port := .idle } }
    have hover : s₀.handOver (.host .pass false) (.okay []) = ended.enableApply r seq := by
      have hclear : ended.passInto r = false := rfl
      have hfree : (ended.enableApply r seq).drainRelease = ended.enableApply r seq := by
        refine State.drainRelease_of_free fun k x => ?_
        rw [(ended.enableApply_frame r seq).2.1]
        exact hslot k x
      rw [← hfree, ← State.enableDue_applies (s := ended) hw hclear]
      exact State.answerHead_write (s := s₀) hhead hreq hview hkind
    have hexec : exec (.memoryAnswer (.okay [])) s = .next (ended.enableApply r seq).grantNext := by
      rw [exec_answer_write ⟨a, timer, hport, hwrite, rfl⟩, State.endTransaction_eq, hover]
      rw [hover]
      exact State.noRestart_of_none (congrArg Link.waiting (ended.link_enableApply r seq))
    exact ⟨_, .of_exec hexec, State.enabledIn_enableApply (s := ended) (hentries.lines_le hw) (hentries.noConflict hw) seq⟩
  · intro s r seq n hw hentries hflight hhead hqueue
    let freed := (s.setBus { s.bus with port := .idle }).setLink { s.link with waiting := some (.enable r seq false) }
    have hclear : freed.passInto r = false := by
      rw [State.passInto, show freed.host.head = _ from hhead]
    have hover : (s.setBus { s.bus with port := .idle }).handOver (.host .pass true) (.okay []) =
        (freed.enableApply r seq).decideHead := by
      rw [← State.enableDue_applies (s := freed) rfl hclear]
      show (s.setBus { s.bus with port := .idle }).orphanEnded = _
      rw [State.orphanEnded, show (s.setBus { s.bus with port := .idle }).link.waiting = _ from hw]
      rfl
    have hlink : (freed.enableApply r seq).link.waiting = none := congrArg Link.waiting (freed.link_enableApply r seq)
    have hexec : exec (.memoryAnswer (.okay [])) s = .next (freed.enableApply r seq).decideHead.grantNext := by
      rw [exec_answer_write hflight, State.endTransaction_eq, hover]
      rw [hover]
      exact State.noRestart_of_none (by rw [State.link_decideHead hlink]; exact hlink)
    have hhost : (freed.enableApply r seq).host = s.host := (freed.enableApply_frame r seq).2.2.1
    exact ⟨_, .of_exec hexec (by rw [hhost, hhead]) (by rwa [hhost]),
      State.enabledIn_enableApply (s := freed) (hentries.lines_le hw) (hentries.noConflict hw) seq⟩

end Sys2Proof.Machine


/-! SUPPORT. RESTART: taken while a transaction is in flight, and applied (R132, R133, R150, R163). -/

namespace Sys2Proof.Machine

set_option Elab.async false

section
variable {s u : State} {seq : Byte}

/-! ### What the restart leaves -/

theorem State.restartCleared_of_aborts (h : s.restartAborts = true) :
    s.restartCleared = s.restartBlocks.setProgress (.respond (.failed .waitAborted)) := if_pos h

theorem State.restartCleared_of_stays (h : s.restartAborts = false) : s.restartCleared = s.restartBlocks :=
  if_neg (by rw [h]; exact Bool.false_ne_true)

/-- The restart and the abort of the head change the head alone beside the blocks. -/
theorem State.restartCleared_rest (s : State) :
    s.restartCleared = s.restartBlocks.setHead s.restartCleared.host.head := by
  unfold State.restartCleared
  split <;> rfl

theorem State.line_empty (s : State) (ix : Nat) : (s.setCatchup .empty).line ix = LineEntry.clear := by
  by_cases hlt : ix < 2048
  · rw [State.line, dif_pos hlt]
    exact Vector.getElem_replicate ..
  · exact State.line_of_ge _ (not_lt.mp hlt)

theorem HostAccess.isPass_iff (a : HostAccess) : a.isPass = true ↔ a.purpose = .pass := beq_iff_eq

/-- The head's ungranted access that is no PASS access is withdrawn, and the head answered. -/
theorem State.aborts_of_awaits (h : s.awaitsGrant false) :
    s.restartAborts = true ∧ s.bus.restarted.hostReq = none := by
  obtain ⟨hprogress, a, hreq, hpass⟩ := h
  have hnot : a.isPass = false := by
    rw [← Bool.not_eq_true, HostAccess.isPass_iff]
    exact fun hp => Bool.false_ne_true (hpass.mp hp)
  refine ⟨?_, ?_⟩
  · rw [State.restartAborts, hprogress]
    show s.bus.hostReq.any _ = true
    rw [hreq]
    show (!a.isPass) = true
    rw [hnot]
    rfl
  · show s.bus.hostReq.filter _ = none
    rw [hreq]
    exact Option.filter_eq_none_iff.mpr fun x hx => by
      obtain rfl := Option.some.inj hx
      rw [hnot]
      exact Bool.false_ne_true

/-- A PASS access that waits for its grant is kept, and so is its head. -/
theorem State.stays_of_awaits (h : s.awaitsGrant true) :
    s.restartAborts = false ∧ s.bus.restarted.hostReq = s.bus.hostReq := by
  obtain ⟨hprogress, a, hreq, hpass⟩ := h
  have hyes : a.isPass = true := a.isPass_iff.mpr (hpass.mpr rfl)
  refine ⟨?_, ?_⟩
  · rw [State.restartAborts, hprogress]
    show s.bus.hostReq.any _ = false
    rw [hreq]
    show (!a.isPass) = false
    rw [hyes]
    rfl
  · show s.bus.hostReq.filter _ = _
    rw [hreq]
    exact Option.filter_eq_some_iff.mpr ⟨rfl, hyes⟩

theorem State.stays_of_progress
    (h : (∃ resp, s.progress = some (.respond resp)) ∨ s.progress = some .decide ∨ s.host.head = none) :
    s.restartAborts = false := by
  obtain ⟨resp, h⟩ | h | h := h
  · rw [State.restartAborts, h]
  · rw [State.restartAborts, h]
  · rw [State.restartAborts, State.progress, h]
    rfl

/-- A head that the restart aborts is there to be answered. -/
theorem State.restartCleared_progress (h : s.restartAborts = true) :
    s.restartCleared.progress = some (.respond ⟨.waitAborted, []⟩) := by
  rw [State.restartCleared_of_aborts h]
  cases hhead : s.host.head with
  | none =>
    rw [State.restartAborts, State.progress, hhead] at h
    cases h
  | some x =>
    show (s.host.head.map _).map _ = _
    rw [hhead]
    rfl

theorem State.restartedIn_cleared (s : State) (seq : Byte) : s.RestartedIn (s.restartCleared.ack seq []) seq := by
  have hprogress (h : s.restartAborts = true) := State.restartCleared_progress h
  have hhead (h : s.restartAborts = false) : s.restartCleared.host.head = s.host.head := by
    rw [State.restartCleared_of_stays h]
    rfl
  have hrest := s.restartCleared_rest
  generalize s.restartCleared = t at hprogress hhead hrest
  have hregion (r : RegionIx) : t.region r = (s.region r).restarted := by
    rw [hrest]
    exact s.region_modRegions Region.restarted r
  have hreq : t.bus.hostReq = s.bus.restarted.hostReq := by
    rw [hrest]
    rfl
  refine ⟨hregion, fun k => ?_, fun ix => ?_, ?_, ?_, ?_, ?_, ?_, ?_, ?_, ?_, ?_, ?_, ?_, fun h => ⟨hprogress ?_, fun hawaits => ?_⟩,
    fun h => ⟨hhead (State.stays_of_awaits h).1, hreq.trans (State.stays_of_awaits h).2⟩,
    fun h => hhead (State.stays_of_progress h), fun h => hreq.trans ?_, ?_, ?_, ?_, ?_, ?_, ?_, ?_, ?_, ?_⟩
  · rw [hrest]
    exact Vector.getElem_replicate ..
  · rw [hrest]
    exact State.line_empty s.restartBlocks ix
  iterate 11
    · rw [hrest]
      rfl
  · obtain h | ⟨timer, k, h⟩ | h := h
    · rw [State.restartAborts, h]
    · rw [State.restartAborts, h]
    · exact (State.aborts_of_awaits h).1
  · exact hreq.trans (State.aborts_of_awaits hawaits).2
  · refine Option.filter_eq_none_iff.mpr fun a ha hp => h a ha (a.isPass_iff.mp hp)
  iterate 5
    · rw [hrest]
      rfl
  · rw [hrest]
    exact Bool.and_false _
  iterate 3
    · rw [hrest]
      rfl

/-! ### The restart applied, and the head after it (R132, R141, R150) -/

theorem Port.busy_eq_false {p : Port} (h : ∀ txn timer, p ≠ .inFlight txn timer) : p.busy = false := by
  unfold Port.busy
  split
  · exact absurd rfl (h _ _)
  · rfl

/-- The restart that waits is applied where no transaction is in flight. -/
theorem State.restartDue_applies (hw : s.link.waiting = some (.restart seq)) (hport : ∀ txn timer, s.bus.port ≠ .inFlight txn timer) :
    s.restartDue = (s.restartCleared.ack seq []).decideHead := by
  rw [State.restartDue, hw]
  refine (if_neg ?_).trans (State.restartApply_eq hw)
  rw [Port.busy_eq_false hport]
  exact Bool.false_ne_true

theorem exec_restartApplied (hw : s.link.waiting = some (.restart seq)) (hport : ∀ txn timer, s.bus.port ≠ .inFlight txn timer) :
    exec .restartApplied s = .next (s.restartCleared.ack seq []).decideHead.grantNext := by
  show execRestartApplied s = _
  rw [execRestartApplied, hw]
  refine (if_neg ?_).trans ?_
  · rw [Port.busy_eq_false hport]
    exact Bool.false_ne_true
  · rw [State.restartApply_eq hw]

theorem State.progress_restartCleared (h : s.progress ≠ some .decide) : s.restartCleared.progress ≠ some .decide := by
  cases habort : s.restartAborts with
  | true =>
    rw [State.restartCleared_progress habort]
    nofun
  | false =>
    rw [State.restartCleared_of_stays habort]
    exact h

/-- A command that ends in an applied restart, where no head is held in DECIDE. -/
theorem CompletesGranting.of_restart {c : Instr} {t : State} (h : exec c t = .next (s.restartCleared.ack seq []).decideHead.grantNext)
    (hdecide : s.progress ≠ some .decide) : CompletesGranting c t (s.restartCleared.ack seq []) := by
  refine .of_exec (h.trans ?_)
  rw [State.decideHead_of_not_decide]
  exact State.progress_restartCleared hdecide

/-- A command that ends in an applied restart, with a head held in DECIDE. -/
theorem CompletesDeciding.of_restart {c : Instr} {t : State} (h : exec c t = .next (s.restartCleared.ack seq []).decideHead.grantNext)
    (hhead : s.host.head = some ⟨.decide, none⟩) (hqueue : s.host.queue ≠ []) :
    CompletesDeciding c t (s.restartCleared.ack seq []) := by
  have hstays : s.restartCleared = s.restartBlocks := by
    refine State.restartCleared_of_stays (State.stays_of_progress (.inr (.inl ?_)))
    rw [State.progress, hhead]
    rfl
  refine .of_exec h ?_ ?_
  · rw [hstays]
    exact hhead
  · rw [hstays]
    exact hqueue

/-- RESTART taken by the link: it waits. -/
def State.restartTaken (s : State) (seq : Byte) : State :=
  s.executing.setLink { s.executing.link with waiting := some (.restart seq) }

theorem exec_restart (hs : s.Receiving) : exec (.restart seq) s = .next (s.restartTaken seq).restartDue.grantNext := by
  show execRestart seq s = _
  rw [execRestart, State.endFrame_executing hs]
  rfl

theorem exec_restart_applies (hs : s.Receiving) (hport : ∀ txn timer, s.bus.port ≠ .inFlight txn timer) :
    exec (.restart seq) s = .next ((s.restartTaken seq).restartCleared.ack seq []).decideHead.grantNext := by
  rw [exec_restart hs, State.restartDue_applies (s := s.restartTaken seq) rfl hport]

end

/-- Settles O33: RESTART waits for the transaction in flight, and is applied at once, by its own happening, or as a
copy's read ends. -/
theorem restartApplied : Obligations.RestartApplied := by
  refine fun seq s => ⟨fun hs ⟨txn, timer, hport⟩ => ?_, fun hs hport hdecide => ?_, fun hw hport hdecide => ?_,
    fun hhead hqueue hport => ⟨fun hs => ?_, fun hw => ?_⟩, ?_⟩
  · have hwaits : (s.restartTaken seq).restartDue = s.restartTaken seq := by
      show (if (s.restartTaken seq).bus.port.busy then _ else _) = _
      refine if_pos ?_
      show s.bus.port.busy = true
      rw [hport]
      rfl
    rw [exec_restart hs, hwaits, State.grantNext_of_not_grantable]
    · rfl
    · rw [State.grantable, show (s.restartTaken seq).bus.port = _ from hport]
      exact Bool.false_ne_true
  · exact ⟨_, .of_restart (exec_restart_applies hs hport) hdecide, (s.restartTaken seq).restartedIn_cleared seq⟩
  · exact ⟨_, .of_restart (exec_restartApplied hw hport) hdecide, s.restartedIn_cleared seq⟩
  · exact ⟨_, .of_restart (exec_restart_applies hs hport) hhead hqueue, (s.restartTaken seq).restartedIn_cleared seq⟩
  · exact ⟨_, .of_restart (exec_restartApplied hw hport) hhead hqueue, s.restartedIn_cleared seq⟩
  · intro y retried words hw hengine hflight hlen c ended
    let read := (s.setBus { s.bus with port := .idle }).copyReadDone y retried words
    have hover : (s.setBus { s.bus with port := .idle }).handOver .catchup (.okay words) = read :=
      State.deliverCatchup_read (s := s.setBus { s.bus with port := .idle }) hengine words
    have hexec : exec c s = .next (read.restartCleared.ack seq []).decideHead.grantNext := by
      rw [exec_answer_read hflight hlen, State.endTransaction, hover,
        State.restartDue_applies (s := read) hw fun _ _ => by nofun]
    exact ⟨fun hdecide => ⟨_, .of_restart hexec hdecide, read.restartedIn_cleared seq⟩,
      fun hhead hqueue => ⟨_, .of_restart hexec hhead hqueue, read.restartedIn_cleared seq⟩⟩

end Sys2Proof.Machine


/-! SUPPORT. The end of one view's use: the view kept, dropped or expired, and the report of its bank (R39, R51, R52,
R55, R57, R61). -/

namespace Sys2Proof.Machine

set_option Elab.async false

section
variable {s : State} {k : Slot} {v : View} {close : Bool}

/-! ### The report of one view gone -/

theorem banks_filter_single (b : Bank) (test : Bank → Bool) :
    banks.filter (fun x => (b == x) && test x) = if test b then [b] else [] := by
  cases b <;> cases h : test _ <;> simp [banks, h]

theorem State.lostBanks_single (s : State) (v : View) :
    s.lostBanks [v] v.region = if s.viewed v.region v.bank then [] else [v.bank] := by
  have hfilter : banks.filter (fun b => ([v].any fun w => w.on v.region && w.bank == b) && !s.viewed v.region b) =
      if !s.viewed v.region v.bank then [v.bank] else [] := by
    rw [← banks_filter_single v.bank fun b => !s.viewed v.region b]
    simp [View.on]
  rw [State.lostBanks, hfilter]
  cases s.viewed v.region v.bank with
  | true => rfl
  | false => cases hheld : (s.run v.region).roles.get v.bank == .held <;> simp [hheld]

/-- The reports of one view gone are at most the one of its bank. -/
theorem State.reportBanks_single (s : State) (v : View) :
    s.reportBanks [v] = if s.viewed v.region v.bank then s else s.lastViewEnded v.region v.bank := by
  have hother (l : List RegionIx) (hl : v.region ∉ l) (t : State) : l.foldl (fun s r => s.reportRegion [v] r) t = t := by
    induction l generalizing t with
    | nil => rfl
    | cons r l ih =>
      rw [List.mem_cons, not_or] at hl
      rw [List.foldl_cons, State.reportRegion_of_none (by simpa using hl.1), ih hl.2]
  obtain ⟨before, after, hsplit⟩ := List.append_of_mem (mem_regionIxs v.region)
  have hnodup : regionIxs.Nodup := by decide
  rw [hsplit, List.nodup_middle, List.nodup_cons, List.mem_append, not_or] at hnodup
  rw [State.reportBanks, hsplit, List.foldl_append, List.foldl_cons, hother _ hnodup.1.1, hother _ hnodup.1.2,
    State.reportRegion_eq, State.lostBanks_single]
  split <;> rfl

/-! ### The end of a use (R51, R52, R55) -/

/-- The state with a slot of the View Table empty. -/
def State.unviewed (s : State) (k : Slot) : State := s.setViews (s.views.set k.val none k.isLt)

theorem State.view_unviewed (s : State) (k j : Slot) : (s.unviewed k).view j = if j = k then none else s.view j :=
  s.view_setView k j none

theorem State.dropWhere_slot (hk : s.view k = some v) (x : View) :
    ((s.setView k (some x)).dropWhere fun i _ => i == k.val) = s.unviewed k := by
  have hviews : ((s.setView k (some x)).dropWhere fun i _ => i == k.val).views = (s.unviewed k).views :=
    State.views_ext fun j => by
      rw [State.view_dropWhere, State.view_setView, State.view_unviewed]
      by_cases hj : j = k
      · subst hj
        simp
      · have hne : j.val ≠ k.val := fun h => hj (Fin.ext h)
        rw [if_neg hj, if_neg hj]
        cases s.view j <;> simp [hne]
  exact congrArg s.setViews hviews

theorem State.viewsWhere_slot (x : View) : ((s.setView k (some x)).viewsWhere fun i _ => i == k.val) = [x] :=
  State.viewsWhere_eq_single _ _ (k := k) (by rw [State.view_setView, if_pos rfl]) (beq_self_eq_true _)
    fun j _ _ ht => Fin.ext (beq_iff_eq.mp ht)

/-- A view no longer in use. -/
def View.released (v : View) : View := { v with inUse := false }

/-- A use ends with the view dropped, expired or kept. -/
theorem State.endUse_drops (hk : s.view k = some v) (huse : v.inUse = true) (h : v.dropDue = true ∨ close = true) :
    s.endUse k close = (s.unviewed k).reportBanks [v.released] := by
  have hcond : (v.dropDue || close) = true := (Bool.or_eq_true _ _).mpr h
  rw [State.endUse, hk]
  simp only [huse, hcond, if_true]
  rw [State.removeViews, State.dropWhere_slot hk, State.viewsWhere_slot]
  rfl

theorem View.spent_iff : v.spent = true ↔ v.idle = 0 ∨ v.age = 0 := by
  rw [View.spent, Bool.or_eq_true, beq_iff_eq, beq_iff_eq]

theorem State.endUse_expires (hk : s.view k = some v) (huse : v.inUse = true) (h : ¬(v.dropDue = true ∨ close = true))
    (hspent : v.idle = 0 ∨ v.age = 0) : s.endUse k close = ((s.unviewed k).chargeExpiry v).reportBanks [v.released] := by
  have hcond : (v.dropDue || close) = false := Bool.eq_false_iff.mpr (mt (Bool.or_eq_true _ _).mp h)
  rw [State.endUse, hk]
  simp only [huse, hcond, View.spent_iff.mpr hspent, if_true, Bool.false_eq_true, if_false]
  rw [State.expireViews, State.dropWhere_slot hk, State.viewsWhere_slot]
  rfl

theorem State.endUse_keeps (hk : s.view k = some v) (huse : v.inUse = true) (h : ¬(v.dropDue = true ∨ close = true))
    (hspent : ¬(v.idle = 0 ∨ v.age = 0)) : s.endUse k close = s.setView k (some v.released) := by
  have hcond : (v.dropDue || close) = false := Bool.eq_false_iff.mpr (mt (Bool.or_eq_true _ _).mp h)
  have hnot : v.spent = false := Bool.eq_false_iff.mpr (mt View.spent_iff.mp hspent)
  rw [State.endUse, hk]
  simp only [huse, hcond, hnot, if_true, Bool.false_eq_true, if_false]
  rfl

end

end Sys2Proof.Machine


/-! SUPPORT. A read through a view answered: its use ended, and what its bank's report brings about (R39, R51, R52,
R55, R144). -/

namespace Sys2Proof.Machine

set_option Elab.async false

section
variable {s t : State} {k : Slot} {v : View}

/-! ### The bank of a view gone -/

/-- No other view refers to the view's bank. -/
def State.LastOn (s : State) (k : Slot) (v : View) : Prop :=
  ∀ (j : Slot) (w : View), s.view j = some w → w.region = v.region → w.bank = v.bank → j = k

/-- `t` is `s` with one view gone from its slot, and nothing that a publication is made of changed. -/
structure State.Unviewed (s t : State) (k : Slot) : Prop where
  drafts : s.SameDrafts t
  views : ∀ j, t.view j = if j = k then none else s.view j

theorem State.unviewed_unviewed (s : State) (k : Slot) : s.Unviewed (s.unviewed k) k :=
  ⟨.setViews s _, s.view_unviewed k⟩

theorem State.Unviewed.chargeExpiry (h : s.Unviewed t k) (w : View) : s.Unviewed (t.chargeExpiry w) k :=
  ⟨h.drafts.trans (.chargeExpiry t w), fun j => by
    rw [← h.views j, State.view, State.view]
    simp [State.chargeExpiry]⟩

theorem State.Unviewed.viewed (h : s.Unviewed t k) : t.viewed v.region v.bank = true ↔ ¬s.LastOn k v := by
  rw [State.viewed_iff]
  simp only [State.ViewOn, h.views, State.LastOn, not_forall, exists_prop]
  refine ⟨fun ⟨j, w, hj, hr, hb⟩ => ?_, fun ⟨j, w, hj, hr, hb, hne⟩ => ⟨j, w, (if_neg hne).trans hj, hr, hb⟩⟩
  by_cases hjk : j = k
  · rw [if_pos hjk] at hj
    cases hj
  · rw [if_neg hjk] at hj
    exact ⟨j, w, hj, hr, hb, hjk⟩

theorem State.modRun_of_same {r : RegionIx} {f : Runtime → Runtime} (h : f (s.run r) = s.run r) : s.modRun r f = s := by
  have hregions : (s.modRun r f).regions = s.regions := by
    refine Eq.trans ?_ (s.regions_modRun_run r)
    exact congrArg (fun x : Runtime => s.regions.set r.val { s.region r with run := x } r.isLt) h
  exact congrArg (fun x => ({ s with regions := x } : State)) hregions

theorem State.modRun_congr {r : RegionIx} {f g : Runtime → Runtime} (h : f (s.run r) = g (s.run r)) :
    s.modRun r f = s.modRun r g :=
  congrArg (fun x : Runtime => ({ s with regions := s.regions.set r.val { s.region r with run := x } r.isLt } : State)) h

/-- The report of a view gone, where its region does not publish: a HELD bank it was the last on becomes FREE. -/
theorem State.Unviewed.report (h : s.Unviewed t k)
    (hquiet : s.phase v.region ≠ .pending ∨ ¬s.LastOn k v ∨ ¬s.DraftComplete v.region) {roles : PerBank Role}
    (hroles : s.RolesAfter k v roles) :
    t.reportBanks [v.released] = t.modRun v.region fun x => { x with roles := roles } := by
  obtain ⟨hfree, hkeep⟩ := hroles
  have hrun : t.run v.region = s.run v.region := h.drafts.run _
  have hsame (hr : roles = (s.run v.region).roles) : t.modRun v.region (fun x => { x with roles := roles }) = t := by
    refine State.modRun_of_same ?_
    rw [hr, hrun]
  refine (t.reportBanks_single v.released).trans ?_
  by_cases hlast : s.LastOn k v
  · have hnot : ¬t.viewed v.region v.bank = true := fun hv => (h.viewed (v := v)).mp hv hlast
    have hrest : t.Rested v.region := by
      rintro hp hc
      rw [h.drafts.phase] at hp
      exact (hquiet.resolve_left fun hne => hne hp).elim (fun hl => hl hlast) fun hl => hl ((h.drafts.draftComplete _).mp hc)
    refine (if_neg hnot).trans ?_
    refine (State.lastViewEnded_of_rested hrest v.bank).trans ?_
    by_cases hheld : (s.run v.region).roles.get v.bank = .held
    · rw [State.freed, hrun, if_pos (beq_iff_eq.mpr hheld), hfree hheld hlast, ← hrun]
      exact State.modRun_congr rfl
    · rw [State.freed, hrun, if_neg (mt beq_iff_eq.mp hheld), hsame (hkeep (.inl hheld))]
  · exact (if_pos ((h.viewed (v := v)).mpr hlast)).trans (hsame (hkeep (.inr hlast))).symm

/-- The report of the last view on a bank that the region's publication waits for. -/
theorem State.Unviewed.publishes (h : s.Unviewed t k) (hp : s.phase v.region = .pending) (hc : s.DraftComplete v.region)
    (hlast : s.LastOn k v)
    (hb : v.bank = (s.run v.region).liveBank ∨
      v.bank = (s.run v.region).thirdBank ∧ (s.run v.region).roles.get v.bank = .held) :
    ((t.reportBanks [v.released]).run v.region).frame = (s.run v.region).frame + 1 := by
  have hrun : t.run v.region = s.run v.region := h.drafts.run _
  have hnot : ¬t.viewed v.region v.bank = true := fun hv => h.viewed.mp hv hlast
  have hnoView : ¬t.ViewOn v.region v.bank := mt State.viewed_iff.mpr hnot
  have havail : (t.freed v.region v.bank).BankAvailable v.region := by
    obtain hlive | ⟨hthird, hheld⟩ := hb
    · obtain ⟨roles, hfreed, -, hfind⟩ := t.run_freed (r := v.region) v.bank
      refine .inl ?_
      rw [State.viewOn_freed, hfreed, Runtime.liveBank, hfind _ rfl]
      show ¬t.ViewOn v.region (t.run v.region).liveBank
      rwa [hrun, ← hlive]
    · exact State.bankAvailable_freed (hrun ▸ hthird) (hrun ▸ hheld)
  have hcomplete := (t.draftComplete_freed v.bank).mpr ((h.drafts.draftComplete _).mpr hc)
  rw [(t.reportBanks_single v.released).trans (if_neg hnot)]
  show (((t.freed v.region v.bank).evaluate v.region).run v.region).frame = _
  rw [State.evaluate_publishes ((t.phase_freed v.bank).trans ((h.drafts.phase _).trans hp)) hcomplete havail,
    State.frame_publish hcomplete.2.1]
  obtain ⟨roles, hfreed, -, -⟩ := t.run_freed (r := v.region) v.bank
  rw [hfreed, hrun]

end

end Sys2Proof.Machine


/-! SUPPORT. A read answered through a view: the view's use ends with the response (R51, R52, R144). -/

namespace Sys2Proof.Machine

set_option Elab.async false

section
variable {s t u : State} {k : Slot} {v : View} {c : Instr} {q : HostRequest} {rest : List HostRequest} {d : Decision}
  {bus : MemoryBus} {r : RegionIx}

/-! ### What the slot's release leaves -/

theorem State.ViewsCounted.countIssue (s : State) (j : RegionIx) (ix : Nat) : s.ViewsCounted (s.countIssue j ix) := by
  refine .trans (t := s.markDirty j ix) ?_ (.modRun _ _ _)
  unfold State.markDirty
  split
  · exact .refl s
  · have hline : s.ViewsCounted (s.modLine ix fun e => { e with dirty := true }) := .of_regions rfl
    exact hline.trans (.modRun ..)

theorem State.ViewsCounted.issueDrain (s : State) (key : ParkKey) (x : Bool) : s.ViewsCounted (s.issueDrain key x) := by
  unfold State.issueDrain
  split
  · exact .of_regions rfl
  · next e _ =>
    have hrequest : s.ViewsCounted (s.requestDrain (s.drainAccess e)) := .of_regions rfl
    exact (hrequest.trans (.countIssue ..)).trans (.of_regions rfl)

theorem State.ViewsCounted.drainRelease (s : State) : s.ViewsCounted s.drainRelease := by
  unfold State.drainRelease
  split
  · split
    · exact .issueDrain s _ _
    · exact .refl s
  · exact .refl s

/-- The slot stays settled while a region keeps its phase, its frame and its DRAFT bank. -/
theorem State.DrainSettled.of_drafts (h : s.DrainSettled) (hpark : t.park = s.park)
    (hlines : t.catchup.lines = s.catchup.lines)
    (hrun : ∀ j, t.phase j = s.phase j ∧ (t.run j).frame = (s.run j).frame ∧ (t.run j).draftBank = (s.run j).draftBank)
    (hconfig : ∀ j, t.config j = s.config j) : t.DrainSettled := by
  refine ⟨fun hslot e he => ?_, fun key x hslot => ?_⟩
  · rw [hpark] at hslot he
    have hnot := h.1 hslot e he
    obtain ⟨hphase, hframe, -⟩ := hrun e.region
    rw [State.eligible, Runtime.draftFrame, hphase, hframe]
    exact hnot
  · rw [hpark] at hslot
    have hstale := h.2 key x hslot
    rw [State.draftStale] at hstale ⊢
    rwa [hconfig, State.line_congr hlines, (hrun key.region).2.2]

/-! ### The read's end -/

/-- A READ of the head ends by `c`: by a failure, or by an OKAY answer with its words. -/
def State.ReadEnds (s : State) (c : Instr) (bus : MemoryBus) : Prop :=
  s.FailsBy c (.host .read false) false bus ∨ s.FailsBy c (.host .read false) true bus ∨
    ∃ words : List Word, c = .memoryAnswer (.okay words) ∧ words.length ≤ 16 ∧
      s.InFlight (.host .read false) .read words.length ∧ bus = { s.bus with port := .idle }

theorem State.ReadEnds.delivers (h : s.ReadEnds c bus) (hkind : q.kind = .read) (d : Decision) :
    ∃ x, exec c s = .next ((s.setBus bus).endTransaction (.host .read false) x) ∧
      s.ReadResponse c q d ((s.setBus bus).memoryResponse q d x) := by
  have hfails {expired : Bool} (hf : s.FailsBy c (.host .read false) expired bus) :
      s.ReadResponse c q d ((s.setBus bus).memoryResponse q d (failure expired)) := by
    obtain ⟨a, timer, -, ⟨rfl, rfl, -⟩ | ⟨rfl, -, rfl, -⟩⟩ := hf
    · exact ⟨nofun, fun _ => rfl, nofun⟩
    · exact ⟨nofun, nofun, fun _ => rfl⟩
  obtain h | h | ⟨words, rfl, hlen, hflight, rfl⟩ := h
  · exact ⟨_, exec_failsBy h, hfails h⟩
  · exact ⟨_, exec_failsBy h, hfails h⟩
  · refine ⟨_, exec_answer_read hflight hlen, fun words' hwords => ?_, nofun, nofun⟩
    cases hwords
    rw [State.memoryResponse, hkind]
    exact ⟨rfl, State.dataOf_assemble (s.setBus _) q d words⟩

/-- The head's response ends the use of its view, and lets the drain slot go on. -/
theorem State.ReadEnds.exec_eq (h : s.ReadEnds c bus) (hqueue : s.host.queue = q :: rest)
    (hhead : s.host.head = some ⟨.waitMemory, some d⟩) (hkind : q.kind = .read) (hview : d.view = some k)
    (hw : s.link.waiting = none) :
    ∃ resp, s.ReadResponse c q d resp ∧
      exec c s =
        .next (({ s with host := s.hostWith q rest ⟨.respond resp, some d⟩, bus := bus } : State).endUse k
          d.close).drainRelease.grantNext := by
  obtain ⟨x, hexec, hresp⟩ := h.delivers hkind d
  refine ⟨_, hresp, ?_⟩
  have hover : (s.setBus bus).handOver (.host .read false) x =
      (({ s with host := s.hostWith q rest ⟨.respond ((s.setBus bus).memoryResponse q d x), some d⟩, bus := bus } :
        State).endUse k d.close).drainRelease := by
    have hreq : (s.setBus bus).headRequest = some q := by
      show s.host.queue.head? = some q
      rw [hqueue]
      rfl
    have hdecision : (s.setBus bus).decision = some d := by
      show (s.host.head.bind Head.decision) = some d
      rw [hhead]
      rfl
    show (s.setBus bus).answerHead x = _
    rw [State.answerHead, show (s.setBus bus).host.head = some ⟨.waitMemory, some d⟩ from hhead, hreq]
    show State.giveResponse _ _ = _
    rw [State.giveResponse, hdecision, State.setProgress_eq (t := s.setBus bus) hqueue hhead rfl, State.endDecisionUse, hview]
    refine congrArg State.drainRelease (State.enableDue_of_none ?_)
    rw [(State.endUse_frame _ _ _).2.2.2.1]
    exact hw
  rw [hexec, State.endTransaction_eq, hover]
  rw [hover]
  refine State.noRestart_of_none ?_
  rw [(State.drainRelease_frame _).2.2.2.2.2.1, (State.endUse_frame _ _ _).2.2.2.1]
  exact hw

/-! ### The roles of a view gone -/

/-- A HELD bank that becomes FREE leaves the DRAFT bank. -/
theorem State.RolesAfter.draftBank {roles : PerBank Role} (h : s.RolesAfter k v roles) :
    ({ s.run v.region with roles := roles } : Runtime).draftBank = (s.run v.region).draftBank := by
  obtain ⟨hfree, hkeep⟩ := h
  by_cases hcase : (s.run v.region).roles.get v.bank = .held ∧ s.LastOn k v
  · obtain ⟨hheld, hlast⟩ := hcase
    rw [hfree hheld hlast]
    rw [Runtime.draftBank, Runtime.draftBank]
    exact congrArg (fun x : Option Bank => x.getD .bankB) (PerBank.find_set_free (test := fun x => x == .draft) hheld rfl)
  · rw [hkeep (not_and_or.mp hcase)]

theorem State.DrainSettled.roled (h : s.DrainSettled) {roles : PerBank Role} (hroles : s.RolesAfter k v roles)
    (hpark : t.park = s.park) (hlines : t.catchup.lines = s.catchup.lines)
    (hself : t.run v.region = { s.run v.region with roles := roles })
    (hother : ∀ j, j ≠ v.region → t.run j = s.run j) (hconfig : ∀ j, t.config j = s.config j) : t.DrainSettled := by
  refine h.of_drafts hpark hlines (fun j => ?_) hconfig
  by_cases hj : j = v.region
  · subst hj
    rw [State.phase, ← State.run, hself]
    exact ⟨rfl, rfl, hroles.draftBank⟩
  · rw [State.phase, ← State.run, hother j hj]
    exact ⟨rfl, rfl, rfl⟩

end

end Sys2Proof.Machine


/-! CLAIM. What the end of a view's use brings about. -/

namespace Sys2Proof.Machine

set_option Elab.async false

/-- Settles O46: the view's use ends as V1's three cases have it, its bank is reported, and the slot goes on. -/
theorem viewUseEnds : Obligations.ViewUseEnds := by
  intro c s q rest d k v bus hends hqueue hhead hkind hview hk huse hw hsettled g dropped spent last
  obtain ⟨resp, hresp, hexec⟩ := State.ReadEnds.exec_eq hends hqueue hhead hkind hview hw
  refine ⟨resp, hresp, ?_⟩
  intro ends gone
  let t₀ : State := { s with host := s.hostWith q rest ⟨.respond resp, some d⟩, bus := bus }
  have hdrops (h : dropped) : t₀.endUse k d.close = (t₀.unviewed k).reportBanks [v.released] :=
    State.endUse_drops hk huse h
  have hexpires (h : ¬dropped) (hs : spent) :
      t₀.endUse k d.close = ((t₀.unviewed k).chargeExpiry v).reportBanks [v.released] :=
    State.endUse_expires hk huse h hs
  have hgone : t₀.Unviewed (t₀.unviewed k) k := State.unviewed_unviewed t₀ k
  have hcharged : t₀.Unviewed ((t₀.unviewed k).chargeExpiry v) k := hgone.chargeExpiry v
  have hcompletes (u : State) (hu : t₀.endUse k d.close = u) (hset : u.DrainSettled) : CompletesGranting c s u := by
    refine .of_exec (hexec.trans ?_)
    show Host.Outcome.next (t₀.endUse k d.close).drainRelease.grantNext = _
    rw [hu, State.drainRelease_of_settled hset]
  have hregion (x : Region) (views : Vector (Option View) 32) (n : NoticeUnit) :
      (ends views x n).region v.region = x := s.region_modRegion_self v.region fun _ => x
  have hother (x : Region) (views : Vector (Option View) 32) (n : NoticeUnit) (j : RegionIx) (hj : j ≠ v.region) :
      (ends views x n).region j = s.region j := s.region_modRegion_ne hj fun _ => x
  refine ⟨fun hnot hlive => ?_, fun hquiet roles hroles => ?_, fun hp hcase hcomplete hlast hbank => ?_⟩
  · have hregions : s.regions.set v.region.val g v.region.isLt = s.regions := s.regions_modRun_run v.region
    refine hcompletes _ ?_ ?_
    · refine (State.endUse_keeps (s := t₀) hk huse hnot hlive).trans ?_
      show _ = ({ t₀ with
        views := s.views.set k.val (some v.released) k.isLt
        regions := s.regions.set v.region.val g v.region.isLt } : State)
      rw [hregions]
      rfl
    · refine hsettled.congr rfl rfl (fun j => ?_) fun j => ?_
      · exact congrArg Region.run (State.region_congr (t := ends _ g _) hregions j)
      · exact congrArg Region.config (State.region_congr (t := ends _ g _) hregions j)
  · have hset (x : Region) (n : NoticeUnit) (hrun : x.run = { g.run with roles := roles }) (hconfig : x.config = g.config) :
        (ends gone x n).DrainSettled := by
      refine hsettled.roled hroles rfl rfl ?_ (fun j hj => ?_) fun j => ?_
      · rw [State.run, hregion, hrun]
        rfl
      · rw [State.run, hother _ _ _ j hj]
        rfl
      · by_cases hj : j = v.region
        · rw [hj, State.config, hregion, hconfig]
          rfl
        · rw [State.config, hother _ _ _ j hj]
          rfl
    refine ⟨fun h => hcompletes _ ?_ (hset _ _ rfl rfl), fun h hs => hcompletes _ ?_ (hset _ _ rfl rfl)⟩
    · exact (hdrops h).trans (hgone.report hquiet hroles)
    · refine ((hexpires h hs).trans (hcharged.report hquiet hroles)).trans ?_
      rw [State.chargeExpiry, State.raiseNotice_modCounters]
      have hmod := congrArg State.regions (t₀.modRegion_modRegion v.region
        (fun g => { g with counters := { g.counters with expired := satInc g.counters.expired } })
        fun g => { g with run := { g.run with roles := roles } })
      exact congrArg (fun x => ({ t₀ with
        views := gone
        regions := x
        notices := s.notices.raised g.config.noticeMask
          (s.noticeOf v.region .viewExpired (some v.tag) (if v.age = 0 then 1 else 0)) } : State)) hmod
  · have hpublishes (w : State) (hu : t₀.endUse k d.close = w.reportBanks [v.released]) (hw : t₀.Unviewed w k)
        (hhost : w.host = t₀.host) :
        Completes c s fun t =>
          t.view k = none ∧ (t.run v.region).frame = g.run.frame + 1 ∧ t.progress = some (.respond resp) ∧
            (t.region v.region).counters.expired = (w.region v.region).counters.expired := by
      let x := (w.reportBanks [v.released]).drainRelease
      have hexec' : exec c s = .next x.grantNext := by
        rw [hexec]
        show Host.Outcome.next (t₀.endUse k d.close).drainRelease.grantNext = _
        rw [hu]
      obtain ⟨hregions, hviewsG, -, -, hhostG, -⟩ := State.grantNext_frame x
      obtain ⟨hviewsD, hhostD, -⟩ := State.drainRelease_frame (w.reportBanks [v.released])
      obtain ⟨hviewsR, hhostR, -⟩ := State.reportBanks_frame w [v.released]
      refine ⟨_, hexec', ?_, ?_, ?_, ?_⟩
      · rw [State.view, hviewsG.trans (hviewsD.trans hviewsR)]
        exact (hw.views k).trans (if_pos rfl)
      · rw [State.run_congr hregions, State.frame_drainRelease]
        exact hw.publishes hp hcomplete hlast hbank
      · rw [State.progress, hhostG.trans (hhostD.trans (hhostR.trans hhost))]
        rfl
      · rw [State.region_congr hregions]
        have hcounts := ((State.ViewsCounted.reportBanks w [v.released]).trans (.drainRelease _)).counts v.region
        exact congrArg (fun y => y.2.1) hcounts
    by_cases h : dropped
    · obtain ⟨t, hexec', hnone, hframe, hprogress, hcount⟩ := hpublishes _ (hdrops h) hgone rfl
      exact ⟨t, hexec', hnone, hframe, hprogress, fun _ => hcount, fun hnot => absurd h hnot⟩
    · obtain ⟨t, hexec', hnone, hframe, hprogress, hcount⟩ :=
        hpublishes _ (hexpires h (hcase.resolve_left h)) hcharged (State.chargeExpiry_frame ..).2.2.2.1
      refine ⟨t, hexec', hnone, hframe, hprogress, fun hd => absurd hd h, fun _ => hcount.trans ?_⟩
      rw [State.expired_chargeExpiry, if_pos rfl]
      rfl

end Sys2Proof.Machine


/-! SUPPORT. Host-port reset block by block, and the end of the transaction that a dropped head left behind (R61, R136,
R151, R160, R164). -/

namespace Sys2Proof.Machine

set_option Elab.async false

section
variable {s u w : State} {r : RegionIx} {seq : Byte} {c : Instr} {p : HostPurpose} {bus : MemoryBus} {k : Slot} {v : View}

/-! ### The reset, in its parts -/

/-- The host port emptied, its ungranted access withdrawn and the one in flight left without a head (R151, R164). -/
def State.disconnected (s : State) : State :=
  { s with
    host := ⟨[], none, true, s.host.burstSpan⟩
    bus := { s.bus with hostReq := none, port := s.bus.port.orphaned } }

/-- The waiting command told that the head is dropped (R136). -/
def State.waitsOn (s : State) (inFlight : Bool) : State :=
  s.setLink { s.link with waiting := s.link.waiting.map fun x => x.headDropped inFlight }

theorem State.hostPortReset_eq (s : State) :
    s.hostPortReset =
      ((s.dropUse.disconnected.waitsOn s.bus.port.holdsHead).withdrawnDone s.bus.hostReq).enableDue.drainRelease := rfl

theorem State.dropUse_of_noView (h : ∀ d : Decision, s.decision = some d → d.view = none) : s.dropUse = s := by
  unfold State.dropUse
  split
  · rfl
  · next k hk =>
    obtain ⟨d, hd, hview⟩ := Option.bind_eq_some_iff.mp hk
    cases (h d hd).symm.trans hview

theorem State.withdrawnDone_of_none (h : ∀ a r, s.bus.hostReq ≠ some ⟨a, .draftWrite r⟩) (t : State) :
    t.withdrawnDone s.bus.hostReq = t := by
  unfold State.withdrawnDone
  split
  · next a r hreq => exact absurd hreq (h a r)
  · rfl

theorem State.waitsOn_of_noEnable (h : ∀ r seq o, s.link.waiting ≠ some (.enable r seq o)) (inFlight : Bool) :
    s.waitsOn inFlight = s := by
  have hsame : (s.link.waiting.map fun x => x.headDropped inFlight) = s.link.waiting := by
    cases hw : s.link.waiting with
    | none => rfl
    | some x =>
      cases x with
      | enable r seq o => exact absurd hw (h r seq o)
      | restart seq => rfl
  rw [State.waitsOn, hsame]
  rfl

theorem State.enableDue_of_noEnable (h : ∀ r seq o, s.link.waiting ≠ some (.enable r seq o)) : s.enableDue = s := by
  unfold State.enableDue
  split
  · next r seq o hw => exact absurd hw (h r seq o)
  · rfl

/-- With no view in use and no enable waiting, a draft write withdrawn is done and the slot goes on. -/
theorem exec_hostPortReset (hview : ∀ d : Decision, s.decision = some d → d.view = none)
    (henable : ∀ r seq o, s.link.waiting ≠ some (.enable r seq o)) (hdone : s.disconnected.withdrawnDone s.bus.hostReq = w)
    (hlink : w.link = s.link) : exec .hostPortReset s = .next w.drainRelease.grantNext := by
  have hreset : s.hostPortReset = w.drainRelease := by
    rw [State.hostPortReset_eq, State.dropUse_of_noView hview,
      State.waitsOn_of_noEnable (s := s.disconnected) henable, hdone,
      State.enableDue_of_noEnable (by rw [hlink]; exact henable)]
  show Host.Outcome.next s.hostPortReset.grantNext = _
  rw [hreset]

theorem Port.holdsHead_iff {x : Port} :
    x.holdsHead = true ↔ ∃ p a timer, x = .inFlight ⟨.host p false, a⟩ timer := by
  unfold Port.holdsHead
  split
  · next p a timer => exact iff_of_true rfl ⟨p, a, timer, rfl⟩
  · next hno => exact iff_of_false Bool.false_ne_true fun ⟨p, a, timer, h⟩ => hno p a timer h

/-! ### The enable that waited on the head (R136) -/

theorem State.drainRelease_of_stale
    (h : ∀ key x, s.park.slot = .waiting key x → s.draftStale key.region ((s.config key.region).lineOfWord key.word) = true) :
    s.drainRelease = s := by
  unfold State.drainRelease
  split
  · next key x hslot =>
    refine if_neg ?_
    rw [State.drainReady, h key x hslot]
    exact Bool.false_ne_true
  · rfl

/-- An enable leaves what the slot waits for stale: its own lines become stale, and no other changes. -/
theorem State.drainRelease_enableApply (hstale : s.DrainSettled) (hworks : s.SlotWorks) (hconflict : s.conflict r = none)
    (hlines : (s.config r).lineBase + (s.config r).lines ≤ 2048) (seq : Byte) :
    (s.enableApply r seq).drainRelease = s.enableApply r seq := by
  refine State.drainRelease_of_stale fun key x hslot => ?_
  rw [(s.enableApply_frame r seq).2.1] at hslot
  obtain ⟨hphase, hword⟩ := hworks key x hslot
  have hactive : (s.phase key.region).active = true := by
    rcases hphase with hp | hp <;> rw [hp] <;> rfl
  have howns := State.Fits.ownsLine (s := s) ⟨hactive, hword⟩
  have hold := hstale.2 key x hslot
  have hconfig : (s.enableApply r seq).config key.region = s.config key.region := by
    rw [State.enableApply_eq]
    exact (State.config_congr (State.regions_engineTake (s.enabling r)) _).trans (s.config_enabling r _)
  rw [hconfig, State.enableApply_eq]
  show ((s.enabling r).engineTake.line _).stale.get ((s.enabling r).engineTake.run key.region).draftBank = true
  rw [State.stale_engineTake, State.run_congr (State.regions_engineTake _), State.line_enabling]
  by_cases hr : key.region = r
  · rw [hr] at howns ⊢
    have hlt : (s.config r).lineOfWord key.word < 2048 := by
      rw [RegionConfig.ownsLine, Bool.and_eq_true, decide_eq_true_iff, decide_eq_true_iff] at howns
      omega
    rw [if_pos ⟨howns, hlt⟩, State.run, State.region_enabling]
    rfl
  · have hnot : ¬(s.config r).ownsLine ((s.config key.region).lineOfWord key.word) = true := fun hown =>
      Bool.false_ne_true ((State.ownsLine_of_noConflict hconflict hown hr hactive).symm.trans howns)
    rw [if_neg fun hown => hnot hown.1, State.run, State.region_enabling_ne hr]
    exact hold

/-! ### The transaction that a dropped head left behind (R164) -/

theorem State.OrphanEnds.delivers (h : s.OrphanEnds c p bus) :
    ∃ x, exec c s = .next ((s.setBus bus).endTransaction (.host p true) x) := by
  obtain ⟨words, rfl, hlen, rfl, hflight | ⟨rfl, n, hflight⟩⟩ | hfails | hfails := h
  · exact ⟨_, exec_answer_read hflight hlen⟩
  · exact ⟨_, exec_answer_write hflight⟩
  · exact ⟨_, exec_failsBy hfails⟩
  · exact ⟨_, exec_failsBy hfails⟩

theorem State.OrphanEnds.exec_eq (h : s.OrphanEnds c p bus) (hw : s.link.waiting = none)
    (hdone : (s.setBus bus).hostWriteDone p = w) : exec c s = .next w.grantNext := by
  obtain ⟨x, hexec⟩ := h.delivers
  have hlink : w.link = s.link := hdone ▸ (State.hostWriteDone_frame (s.setBus bus) p).2.2.2.2.1
  have hover : (s.setBus bus).handOver (.host p true) x = w := by
    show ((s.setBus bus).hostWriteDone p).orphanEnded = _
    rw [hdone, State.orphanEnded, hlink, hw]
  rw [hexec, State.endTransaction_eq, hover]
  rw [hover]
  exact State.noRestart_of_none (hlink ▸ hw)

end

end Sys2Proof.Machine


/-! SUPPORT. The view in use at a host-port reset (R61). -/

namespace Sys2Proof.Machine

set_option Elab.async false

section
variable {s w : State} {k : Slot} {v : View} {r : RegionIx}

/-- What a view abandoned leaves in the View Table and in its region's count. -/
theorem State.abandonUse_views (hk : s.view k = some v) (huse : v.inUse = true) :
    (v.dropDue = true ∨ v.idle = 0 ∨ v.age = 0 → (s.endUse k false).view k = none) ∧
      (v.dropDue = false → v.idle ≠ 0 → v.age ≠ 0 → (s.endUse k false).view k = some v.released) ∧
      (∀ j, j ≠ k → (s.endUse k false).view j = s.view j) ∧
      ((s.endUse k false).region v.region).counters.expired =
        if v.dropDue = false ∧ (v.idle = 0 ∨ v.age = 0) then satInc (s.region v.region).counters.expired
        else (s.region v.region).counters.expired := by
  have hviews (t : State) (ht : s.Unviewed t k) (j : Slot) :
      (t.reportBanks [v.released]).view j = if j = k then none else s.view j := by
    rw [State.view, (State.reportBanks_frame t _).1]
    exact ht.views j
  have hcount (t : State) :
      ((t.reportBanks [v.released]).region v.region).counters.expired = (t.region v.region).counters.expired :=
    congrArg (fun y => y.2.1) ((State.ViewsCounted.reportBanks t [v.released]).counts v.region)
  have hgone := State.unviewed_unviewed s k
  by_cases hdrop : v.dropDue = true ∨ false = true
  · have hdue : v.dropDue = true := hdrop.resolve_right Bool.false_ne_true
    rw [State.endUse_drops hk huse hdrop]
    refine ⟨fun _ => (hviews _ hgone k).trans (if_pos rfl), fun h => ?_, fun j hj => (hviews _ hgone j).trans (if_neg hj), ?_⟩
    · exact Bool.noConfusion (h.symm.trans hdue)
    · rw [hcount, if_neg fun h => Bool.noConfusion (h.1.symm.trans hdue)]
      rfl
  · have hdue : v.dropDue = false := Bool.eq_false_iff.mpr fun h => hdrop (.inl h)
    by_cases hspent : v.idle = 0 ∨ v.age = 0
    · rw [State.endUse_expires hk huse hdrop hspent]
      have hcharged := hgone.chargeExpiry v
      refine ⟨fun _ => (hviews _ hcharged k).trans (if_pos rfl), fun _ hi ha => ?_,
        fun j hj => (hviews _ hcharged j).trans (if_neg hj), ?_⟩
      · exact absurd hspent (not_or.mpr ⟨hi, ha⟩)
      · rw [hcount, State.expired_chargeExpiry, if_pos rfl, if_pos ⟨hdue, hspent⟩]
        rfl
    · rw [State.endUse_keeps hk huse hdrop hspent]
      refine ⟨fun h => ?_, fun _ _ _ => ?_, fun j hj => ?_, ?_⟩
      · exact absurd h (not_or.mpr ⟨fun h' => hdrop (.inl h'), hspent⟩)
      · rw [State.view_setView, if_pos rfl]
      · rw [State.view_setView, if_neg hj]
      · rw [if_neg fun h => hspent h.2]
        rfl

theorem State.hostReq_grantNext (h : s.bus.hostReq = none) : s.grantNext.bus.hostReq = none := by
  unfold State.grantNext
  split
  · split
    · exact h
    · next x _ =>
      split
      · exact h
      · cases x
        · rfl
        · exact h
        · exact h
  · exact h

end

end Sys2Proof.Machine


/-! CLAIM. Host-port reset, what it brings about, and the end of the transaction it left behind. -/

namespace Sys2Proof.Machine

set_option Elab.async false

section
variable {s x u : State} {r : RegionIx} {c : Instr} {seq : Byte}

/-- A write done that publishes: what it leaves of the frame, of the Host Bus Port and of the head's access. -/
theorem State.written_publishes (hcomplete : (x.written r).DraftComplete r) :
    (((x.written r).publish r).run r).frame = (x.run r).frame + 1 ∧ ((x.written r).publish r).host = x.host ∧
      ((x.written r).publish r).bus.hostReq = x.bus.hostReq := by
  refine ⟨?_, (State.publish_frame _ r).2.1, congrArg Prod.fst ((x.written r).hostAsk_publish r)⟩
  exact (State.frame_publish hcomplete.2.1).trans (congrArg (· + 1) (x.run_written r r).1)

/-- A write done in RETIRING, with the engine's take and the slot settled. -/
theorem State.written_retires (hphase : x.phase r = .retiring) (htaken : x.catchup.Taken) (hsettled : x.DrainSettled)
    (hworks : x.SlotWorks) (hareas : x.AreasLaw) :
    (x.written r).FoldBackIn ((x.written r).foldQueued r) r ∧
      x.draftWriteDone r = ((x.written r).foldQueued r).engineTake ∧ (x.draftWriteDone r).DrainSettled := by
  have hback : (x.written r).FoldBackIn ((x.written r).foldQueued r) r := State.foldBackIn_foldQueued ..
  have heq : x.draftWriteDone r = ((x.written r).foldQueued r).engineTake := by
    rw [State.draftWriteDone_retiring hphase, State.foldBack_eq (s := x.written r) (.inl htaken)]
  refine ⟨hback, heq, ?_⟩
  rw [heq]
  exact (hback.settled (hsettled.written r) (State.SlotWorks.apart (hworks.written r) (State.areasLaw_written hareas)
    ((x.phase_written r r).trans hphase))).engineTake

/-- The orphan's end applies the enable that waited for it (R136). -/
theorem State.OrphanEnds.enables {bus : MemoryBus} (h : s.OrphanEnds c .pass bus)
    (hw : s.link.waiting = some (.enable r seq true)) (hentries : s.EntriesLaw) (hhead : s.host.head = none) :
    ∃ u, CompletesGranting c s u ∧ (s.setBus bus).EnabledIn u r seq := by
  obtain ⟨x, hexec⟩ := h.delivers
  let freed := (s.setBus bus).setLink { s.link with waiting := some (.enable r seq false) }
  have hclear : freed.passInto r = false := by
    rw [State.passInto, show freed.host.head = none from hhead]
  have hhost : (freed.enableApply r seq).host = s.host := (freed.enableApply_frame r seq).2.2.1
  have hidle : (freed.enableApply r seq).decideHead = freed.enableApply r seq := by
    refine State.decideHead_of_not_decide ?_
    rw [State.progress, hhost, hhead]
    nofun
  have hover : (s.setBus bus).handOver (.host .pass true) x = freed.enableApply r seq := by
    rw [← hidle, ← State.enableDue_applies (s := freed) rfl hclear]
    show (s.setBus bus).orphanEnded = _
    rw [State.orphanEnded, show (s.setBus bus).link.waiting = _ from hw]
    rfl
  refine ⟨freed.enableApply r seq, .of_exec ?_,
    State.enabledIn_enableApply (s := freed) (hentries.lines_le hw) (hentries.noConflict hw) seq⟩
  rw [hexec, State.endTransaction_eq, hover]
  rw [hover]
  exact State.noRestart_of_none (congrArg Link.waiting (freed.link_enableApply r seq))

/-- An enable that waited on the dropped head is applied at the reset (R136). -/
theorem State.hostPortReset_enables (hw : s.link.waiting = some (.enable r seq false)) (hheld : s.bus.port.holdsHead = false)
    (hview : ∀ d : Decision, s.decision = some d → d.view = none) (hreq : ∀ a r, s.bus.hostReq ≠ some ⟨a, .draftWrite r⟩)
    (hsettled : s.DrainSettled) (hentries : s.EntriesLaw) (hwaits : s.WaitsLaw) :
    s.hostPortReset = s.disconnected.enableApply r seq := by
  have hwaiting : s.disconnected.waitsOn false = s.disconnected := by
    have hlink : s.disconnected.link.waiting.map (fun x => x.headDropped false) = s.disconnected.link.waiting := by
      show s.link.waiting.map _ = s.link.waiting
      rw [hw]
      rfl
    rw [State.waitsOn, hlink]
    rfl
  rw [State.hostPortReset_eq, State.dropUse_of_noView hview, hheld, hwaiting, State.withdrawnDone_of_none hreq,
    State.enableDue_applies (s := s.disconnected) hw rfl]
  exact State.drainRelease_enableApply (s := s.disconnected)
    (hsettled.congr (t := s.disconnected) rfl rfl (fun _ => rfl) fun _ => rfl) hwaits.slotWorks (hentries.noConflict hw)
    (hentries.lines_le hw) seq

end

/-- Settles O59: the reset's parts one by one, the end of the transaction it left, and the release of HRST_N. -/
theorem hostPortReset : Obligations.HostPortReset := by
  refine ⟨?_, ?_, fun s => rfl⟩
  · intro s emptied bus reset noView noEnable heldInFlight counted
    have hsame (hsettled : s.DrainSettled) : reset.DrainSettled := hsettled.congr rfl rfl (fun _ => rfl) fun _ => rfl
    have hplain (hview : noView) (henable : noEnable) (hreq : ∀ a r, s.bus.hostReq ≠ some ⟨a, .draftWrite r⟩) :
        exec .hostPortReset s = .next reset.drainRelease.grantNext :=
      exec_hostPortReset hview henable (State.withdrawnDone_of_none hreq s.disconnected) rfl
    refine ⟨fun hsettled => ⟨fun hview henable hreq => ?_, fun hview henable a r hreq => ?_,
      fun hview hreq r seq hw => ⟨fun hheld => ?_, fun hheld hareas hentries hwaits => ?_⟩⟩,
      fun hview henable hreq hrestart e retried hslot hsound hmem hrange hcurrent => ?_,
      fun henable hreq d k v hdecision hdview hk huse => ?_⟩
    · refine .of_exec ((hplain hview henable hreq).trans ?_)
      rw [State.drainRelease_of_settled (hsame hsettled)]
    · have hdone : s.disconnected.withdrawnDone s.bus.hostReq = reset.draftWriteDone r := by
        rw [hreq]
        rfl
      have hexec := exec_hostPortReset hview henable hdone (State.draftWriteDone_frame reset r).2.2.2.2.1
      have hrests (w : State) (hw : reset.draftWriteDone r = w) (hset : w.DrainSettled) :
          exec .hostPortReset s = .next w.grantNext := by
        rw [hexec, hw, State.drainRelease_of_settled hset]
      have hwritten := (hsame hsettled).written r
      refine ⟨fun hphase hcomplete => ?_, fun hphase hcomplete hbank => ?_, fun hphase hcomplete hbank => ?_,
        fun hphase htaken hareas hwaits => ?_⟩
      · exact .of_exec (hrests _ (State.draftWriteDone_plain hphase hcomplete) hwritten)
      · exact .of_exec (hrests _ (State.draftWriteDone_held hphase hcomplete hbank) (hwritten.heldNoted r))
      · rw [State.draftWriteDone_publishes (s := reset) hphase hcomplete hbank] at hexec
        obtain ⟨hframe, hhost, hask⟩ := State.written_publishes (x := reset) hcomplete
        refine ⟨_, hexec, ?_, ?_, State.hostReq_grantNext ?_⟩
        · rw [State.run_congr (State.grantNext_frame _).1, State.frame_drainRelease]
          exact hframe
        · rw [(State.grantNext_frame _).2.2.2.2.1, (State.drainRelease_frame _).2.1, hhost]
        · exact (congrArg Prod.fst (State.hostAsk_drainRelease _)).trans hask
      · obtain ⟨hback, heq, hset⟩ := State.written_retires (x := reset) hphase htaken (hsame hsettled) hwaits.slotWorks hareas
        exact ⟨_, .of_exec (hrests _ heq (heq ▸ hset)), hback⟩
    · have hholds : s.bus.port.holdsHead = true := Port.holdsHead_iff.mpr hheld
      have hwaiting : s.disconnected.waitsOn true =
          { reset with link := { s.link with waiting := some (.enable r seq true) } } := by
        have hlink : s.link.waiting.map (fun x => x.headDropped true) = some (.enable r seq true) := by
          rw [hw]
          rfl
        rw [← hlink]
        rfl
      refine .of_exec (congrArg (fun t : State => Host.Outcome.next t.grantNext) ?_ : exec .hostPortReset s = _)
      rw [State.hostPortReset_eq, State.dropUse_of_noView hview, hholds, hwaiting, State.withdrawnDone_of_none hreq]
      exact State.drainRelease_of_settled (hsettled.congr rfl rfl (fun _ => rfl) fun _ => rfl)
    · have hholds : s.bus.port.holdsHead = false := Bool.eq_false_iff.mpr (mt Port.holdsHead_iff.mp hheld)
      refine ⟨reset.enableApply r seq, .of_exec ?_,
        State.enabledIn_enableApply (s := reset) (hentries.lines_le hw) (hentries.noConflict hw) seq⟩
      exact congrArg (fun t : State => Host.Outcome.next t.grantNext)
        (State.hostPortReset_enables hw hholds hview hreq hsettled hentries hwaits)
    · have hready : reset.drainReady e.key = true := by
        rw [State.drainReady_iff]
        refine ⟨?_, ?_, hrestart⟩
        · show ¬(s.line (s.lineOfEntry e)).stale.get (s.run e.region).draftBank = true
          rw [hcurrent]
          exact Bool.false_ne_true
        · rintro ⟨d', q', hhead', -⟩
          cases hhead'
      refine ⟨reset.issueDrain e.key retried, .of_exec ((hplain hview henable hreq).trans ?_),
        State.drainIssuedIn_issueDrain (s := reset) (hsound.parked hmem) hrange retried⟩
      rw [State.drainRelease_ready (s := reset) hslot hready]
    · let w := s.endUse k false
      have hlink : w.link = s.link := (State.endUse_frame s k false).2.2.2.1
      have hdrop : s.dropUse = w := by
        rw [State.dropUse, hdecision]
        show (match d.view with | none => s | some k => s.abandonUse k) = w
        rw [hdview]
        rfl
      have hexec : exec .hostPortReset s = .next w.disconnected.drainRelease.grantNext := by
        refine congrArg (fun t : State => Host.Outcome.next t.grantNext) ?_
        rw [State.hostPortReset_eq, hdrop, State.waitsOn_of_noEnable (s := w.disconnected) (hlink ▸ henable),
          State.withdrawnDone_of_none hreq, State.enableDue_of_noEnable (s := w.disconnected) (hlink ▸ henable)]
      obtain ⟨hregions, hviewsG, -, -, hhostG, -⟩ := State.grantNext_frame w.disconnected.drainRelease
      obtain ⟨hviewsD, hhostD, -⟩ := State.drainRelease_frame w.disconnected
      obtain ⟨hgone, hstays, hothers, hcount⟩ := State.abandonUse_views hk huse
      have hview (j : Slot) : w.disconnected.drainRelease.grantNext.view j = w.view j := by
        rw [State.view, hviewsG.trans hviewsD]
        rfl
      refine ⟨_, hexec, ?_, State.hostReq_grantNext ?_, fun h => (hview k).trans (hgone h),
        fun hd hi ha => (hview k).trans (hstays hd hi ha), fun j hj => (hview j).trans (hothers j hj), ?_⟩
      · rw [hhostG.trans hhostD]
        show (⟨[], none, true, w.host.burstSpan⟩ : HostPort) = _
        rw [(State.endUse_frame s k false).1]
      · exact congrArg Prod.fst (State.hostAsk_drainRelease w.disconnected)
      · rw [State.region_congr hregions, ← hcount]
        exact congrArg (fun y => y.2.1) ((State.ViewsCounted.drainRelease w.disconnected).counts v.region)
  · intro c s p bus hends hsettled ends
    refine ⟨fun hplain hw => ?_, fun r hp hw => ?_, fun r seq hw hentries hhead hp => ?_⟩
    · exact .of_exec (hends.exec_eq hw (State.hostWriteDone_plain (s := s.setBus bus) hplain))
    · subst hp
      have hset : (s.setBus bus).DrainSettled := hsettled.congr rfl rfl (fun _ => rfl) fun _ => rfl
      refine ⟨fun hphase hcomplete hbank => ?_, fun hphase hcomplete hbank => ?_, fun hphase htaken hareas hwaits => ?_⟩
      · have hbank' : ¬(s.setBus bus).BankAvailable r := mt (State.bankAvailable_written (s := s.setBus bus)).mpr hbank
        exact .of_exec (hends.exec_eq hw (State.draftWriteDone_held (s := s.setBus bus) hphase hcomplete hbank'))
      · have hbank' : (s.setBus bus).BankAvailable r := (State.bankAvailable_written (s := s.setBus bus)).mp hbank
        obtain ⟨hframe, hhost, -⟩ := State.written_publishes (x := s.setBus bus) hcomplete
        refine ⟨_, hends.exec_eq hw (State.draftWriteDone_publishes (s := s.setBus bus) hphase hcomplete hbank'), ?_, ?_⟩
        · rw [State.run_congr (State.grantNext_frame _).1]
          exact hframe
        · rw [(State.grantNext_frame _).2.2.2.2.1]
          exact hhost
      · obtain ⟨hback, heq, -⟩ := State.written_retires (x := s.setBus bus) hphase htaken hset hwaits.slotWorks hareas
        exact ⟨_, .of_exec (hends.exec_eq hw heq), hback⟩
    · subst hp
      exact hends.enables hw hentries hhead

end Sys2Proof.Machine
